-- ==== Sys2Proof/Word.lean ====
section
/-! DEFINITION. The plainest types of the model: a byte, the 32-bit station time, and a table that holds one
value for each of a fixed number of places (8 channels, 9 rings, 32 alarm entries). -/

namespace Sys2Proof

/-- One byte of a port frame or of a store record. -/
abbrev Byte := BitVec 8

/-- Station time, a 32-bit count of seconds that wraps (R23). -/
abbrev Time := BitVec 32

/-- A table of `n` places. -/
abbrev Tab (n : Nat) (α : Type) := Vector α n

/-- The table whose place `i` holds `f i`. -/
def tab {n : Nat} {α : Type} (f : Fin n → α) : Tab n α := Vector.ofFn f

/-- What place `i` of a table holds. -/
def nth {n : Nat} {α : Type} (v : Tab n α) (i : Fin n) : α := v[i]

/-- The table with place `i` replaced. -/
def put {n : Nat} {α : Type} (v : Tab n α) (i : Fin n) (x : α) : Tab n α := v.set i x

/-- The table with place `i` changed by `f`. -/
def upd {n : Nat} {α : Type} (v : Tab n α) (i : Fin n) (f : α → α) : Tab n α := put v i (f (nth v i))

/-- The set of places for which `f` answers true, as a mask with place `i` at bit `i` (R195). -/
def maskOf {n : Nat} (w : Nat) (f : Fin n → Bool) : BitVec w :=
  (List.finRange n).foldl (fun m i => if f i then m ||| (1#w <<< i.val) else m) 0#w

/-- The mask with one place's bit set. -/
def bitOf {n : Nat} (w : Nat) (i : Fin n) : BitVec w := 1#w <<< i.val

end Sys2Proof
end

