-- ==== Sys2Proof/Config.lean ====
section
/-! DEFINITION. What the manual leaves open and the machine goes on with: free values. Each is a constant with no
body, so no proof can use what it is; it is applied to the plain counter `State.free`. -/

namespace Sys2Proof

/-- Which of several records that different blocks hand over at one moment joins the queue next (R131: such
records "join the queue in whichever order they arrive"), and which of several clock events that fall together is
taken first (R22, R25, R28, R162 give each order its outcome and choose none). Log 5, log 7. -/
opaque Config.pick : Nat → Nat

/-- Whether another part pulls the STORM wire low at a second tick that the block's own clock raises (R90: the
other parts on the wire are not this part). Log 4. -/
opaque Config.stormPulled : Nat → Bool

/-- Whether the store access in progress ends in a given REFCLK period: the manual gives an access no length
(R133, R135). Log 6. -/
opaque Config.accessEnds : Nat → Bool

/-- What SDO shows, after so many falling edges of SCK, in the rest of a transfer whose SEL fell before a power-on
reset: SDO is driven while SEL is low (R166), the transfer is ignored whole (R172), and no rule states the bits. Log 10. -/
opaque Config.sdoAfterReset : Nat → Bool

end Sys2Proof
end

