-- ==== Sys2Proof/Syntax.lean ====
section
/-! DEFINITION. The commands of the block: one constructor for each row of spec/opcode_table.json. A command is
something that reaches the part at one moment: a tick of its Timebase, a frame from a head, the end of a store
access, the fall of a port's SEL line, or the end of a transfer with the frame that it carried. -/

namespace Sys2Proof

/-- The three ports (R171). -/
inductive PortId where
  | a | b | c
  deriving DecidableEq, Repr

/-- A port whose request reads the SOLO strap, with the strap's level at the moment the request is taken: tied or not
(R174, R186, log 9). -/
structure StrapPort where
  port : PortId
  solo : Bool
  deriving DecidableEq, Repr

/-- The commands. An operand `port` is the port whose transfer carries the request, with the level of the SOLO strap
where the request reads it; `pulled` says whether another part pulls the STORM wire low at the moment of a second tick
(R90, log 4), and `solo` whether the SOLO strap is tied at a reset (log 9). Request operands are the argument bytes of
R195, not yet judged: an out-of-range one is answered BAD_ARGUMENT by the request's own rule. -/
inductive Instr where
  /-- RESET_N (R134). -/
  | powerOnReset (solo : Bool)
  /-- The frame divider ends a frame period (R1, R20). -/
  | frameTick
  /-- The 32nd bit of a requested frame is in; the first bit sent is the most significant bit (R2, R194). -/
  | frameArrival (input : Fin 8) (frame : BitVec 32)
  /-- The frame tick at which a loaded command word begins to go out on `input` (R16). -/
  | headCmdStart (input : Fin 8)
  /-- The frame tick at which a command word has gone out in full on `input` (R17). -/
  | headCmdSent (input : Fin 8)
  /-- The second tick at which the LOST link of `input` goes to SEEKING (R8). -/
  | linkRetry (input : Fin 8) (pulled : Bool)
  /-- The second divider ends a second (R23). -/
  | secondTick (pulled : Bool)
  /-- The second tick at which `channel` goes STALE (R58). -/
  | staleEntry (channel : Fin 8) (pulled : Bool)
  /-- The second tick at which `channel` ends LEARNING (R55). -/
  | learningEnd (channel : Fin 8) (pulled : Bool)
  /-- The second tick at which the storm tail runs out (R93). -/
  | tailEnd (pulled : Bool)
  /-- The second tick at which the running test expires (R44). -/
  | testExpiry (pulled : Bool)
  /-- The second tick at which the draft expires (R185). -/
  | draftExpiry (pulled : Bool)
  /-- The second tick at which the confirm window runs out (R189). -/
  | confirmExpiry (pulled : Bool)
  /-- The second tick at which the agreed proposal commits (R190). -/
  | commit (pulled : Bool)
  /-- The arbiter grants the store (R135). -/
  | storeGrant
  /-- The store write in progress ends (R133). -/
  | writeComplete
  /-- The record copy in progress ends (R148). -/
  | copyComplete
  /-- The discard timer of a port runs out in READY (R152). -/
  | discardTimerExpiry (port : PortId)
  /-- A PWM period of a retransmit output begins (R162). -/
  | pwmPeriodStart (output : Fin 2)
  /-- The port's SEL line falls (R166, R169). -/
  | transferStart (port : PortId)
  /-- A transfer ends whose frame is not taken (R168): the bits taken on SDI, one at each rising edge of SCK (R166). -/
  | frameError (port : PortId) (bits : List Bool)
  | nop (port : PortId)
  | getChannel (port : PortId) (channel : Byte)
  | getHead (port : PortId) (input : Byte)
  | getAlarms (port : PortId) (channel : Byte)
  | getStation (port : StrapPort)
  | getSetting (port : PortId) (kind index : Byte)
  | getProposal (port : PortId) (position : Byte)
  | acknowledge (port : PortId) (selector : Byte) (mask : BitVec 32)
  | setTime (port : PortId) (time : BitVec 32)
  | sendHeadCommand (port : PortId) (input code : Byte)
  | stopTest (port : PortId)
  | seek (port : PortId) (ring : Byte) (sequence : BitVec 32)
  | rewind (port : PortId) (ring : Byte)
  | fetch (port : PortId) (ring count : Byte)
  | collect (port : PortId)
  | cancel (port : PortId)
  | draftItem (port : PortId) (kind index : Byte) (fields : List Byte)
  | post (port : StrapPort)
  | confirm (port : PortId) (number : BitVec 16)
  | withdraw (port : PortId)
  | getNotices (port : PortId)
  | setNoticeMask (port : PortId) (mask : Byte)
  | setPortOptions (port : PortId) (option : Byte)
  | restartPort (port : PortId)
  /-- Within a PWM period, the pulse of a retransmit output ends (R163). -/
  | pwmPulseEnd (output : Fin 2)
  deriving DecidableEq, Repr

end Sys2Proof
end

