-- ==== Sys2Proof/Decode.lean ====
section
/-! DEFINITION. The port's frame decoder (R166, R168, R195): the bytes that a transfer's bits make up, which request
they carry, and beside it the frame that carries a given request. The opcode table gives its rows no bits, so
`decodeTableWord` reads none. -/

namespace Sys2Proof

/-- One bit into the CRC-16 register (R195): the feedback is the top bit exclusive-or the incoming bit. -/
def crc16Bit (r : BitVec 16) (b : Bool) : BitVec 16 :=
  if r.getLsbD 15 != b then (r <<< 1) ^^^ 0x1021#16 else r <<< 1

/-- One byte into the CRC-16 register, most significant bit first (R195). -/
def crc16Byte (r : BitVec 16) (x : Byte) : BitVec 16 :=
  [7, 6, 5, 4, 3, 2, 1, 0].foldl (fun r i => crc16Bit r (x.getLsbD i)) r

/-- The CRC-16 of a run of bytes; the register starts at 0xFFFF (R195). -/
def crc16 (bs : List Byte) : BitVec 16 := bs.foldl crc16Byte 0xFFFF#16

/-- A 16-bit number as two bytes, high byte first (R193). -/
def bytes2 (x : BitVec 16) : List Byte := [x.extractLsb' 8 8, x.extractLsb' 0 8]

/-- A 32-bit number as four bytes, high byte first (R193). -/
def bytes4 (x : BitVec 32) : List Byte :=
  [x.extractLsb' 24 8, x.extractLsb' 16 8, x.extractLsb' 8 8, x.extractLsb' 0 8]

/-- Two bytes read as a number, high byte first (R193). -/
def word2 (a b : Byte) : BitVec 16 := a ++ b

/-- Four bytes read as a number, high byte first (R193). -/
def word4 (a b c d : Byte) : BitVec 32 := (a ++ b ++ c ++ d : BitVec 32)

/-- The bits of a run of bytes as they travel, the most significant bit of each byte first (R166, R193). -/
def bitsOf (bs : List Byte) : List Bool := bs.flatMap fun x => [7, 6, 5, 4, 3, 2, 1, 0].map fun i => x.getLsbD i

/-- The whole bytes that bits taken one after another make up, the most significant bit first; the bits of a byte left
incomplete when SEL rises are discarded (R166). -/
def wholeBytes (bits : List Bool) : List Byte :=
  match bits with
  | b7 :: b6 :: b5 :: b4 :: b3 :: b2 :: b1 :: b0 :: rest =>
    BitVec.ofBoolListBE [b7, b6, b5, b4, b3, b2, b1, b0] :: wholeBytes rest
  | _ => []

/-- How many field bytes an item of each kind has, by kind code (R195); none for a code that names no kind. The expected
head address of LINK and the prescale of RETRANSMIT take one byte each (log 35). -/
def itemLength (kind : Byte) : Option Nat :=
  [5, 4, 24, 12, 2, 4, 5, 5, 4, 16, 2, 8, 16, 0][kind.toNat]?

/-- The argument lengths of the requests of codes 0..22, in code order (R195). -/
def fixedLengths : List Nat := [0, 1, 1, 1, 0, 2, 1, 5, 4, 2, 0, 0, 0, 0, 0, 0, 0, 5, 1, 2, 2, 1, 1]

/-- Whether a request of this code takes arguments of this length (R168, R195). Every code but 23 has one length; a
DRAFT ITEM has its kind's length, or any length from 2 to 250 when its kind byte names no item kind. -/
def lengthTaken (code : Byte) (args : List Byte) : Bool :=
  if code = 23#8 then
    match args with
    | kind :: _ :: _ =>
      match itemLength kind with
      | some n => args.length == n + 2
      | none => args.length ≤ 250
    | _ => false
  else fixedLengths[code.toNat]? == some args.length

/-- The request that a code and its argument bytes name (R195), with the SOLO strap as it stands when it is taken. -/
def requestOf (p : PortId) (solo : Bool) (code : Byte) (args : List Byte) : Option Instr :=
  match code.toNat, args with
  | 0, [] => some (.nop p)
  | 1, [x] => some (.getChannel p x)
  | 2, [x] => some (.getHead p x)
  | 3, [x] => some (.getAlarms p x)
  | 4, [] => some (.getStation ⟨p, solo⟩)
  | 5, [k, i] => some (.getSetting p k i)
  | 6, [x] => some (.getProposal p x)
  | 7, [s, w, x, y, z] => some (.acknowledge p s (word4 w x y z))
  | 8, [w, x, y, z] => some (.setTime p (word4 w x y z))
  | 9, [i, x] => some (.sendHeadCommand p i x)
  | 10, [] => some (.stopTest p)
  | 11, [] => some (.collect p)
  | 12, [] => some (.cancel p)
  | 13, [] => some (.post ⟨p, solo⟩)
  | 14, [] => some (.withdraw p)
  | 15, [] => some (.getNotices p)
  | 16, [] => some (.restartPort p)
  | 17, [r, w, x, y, z] => some (.seek p r (word4 w x y z))
  | 18, [r] => some (.rewind p r)
  | 19, [r, n] => some (.fetch p r n)
  | 20, [x, y] => some (.confirm p (word2 x y))
  | 21, [m] => some (.setNoticeMask p m)
  | 22, [o] => some (.setPortOptions p o)
  | 23, k :: i :: fs => some (.draftItem p k i fs)
  | _, _ => none

/-- What the frame decoder makes of a transfer's bytes (R168). -/
inductive FrameVerdict where
  /-- The frame carries this request, and it is taken. -/
  | request (i : Instr)
  /-- The frame is cut short, fails its CRC or has a wrong length. -/
  | frameError
  /-- The frame is whole, and its code byte names no request. -/
  | unknownRequest
  deriving DecidableEq, Repr

/-- The frame decoder's judgement, its checks in the order of R168. Bytes after the CRC are ignored (R166). -/
def judgeFrame (p : PortId) (solo : Bool) (bytes : List Byte) : FrameVerdict :=
  match bytes with
  | code :: len :: rest =>
    let args := rest.take len.toNat
    match rest.drop len.toNat with
    | hi :: lo :: _ =>
      if args.length < len.toNat then .frameError
      else if word2 hi lo ≠ crc16 (code :: len :: args) then .frameError
      else if 23 < code.toNat then .unknownRequest
      else if 250 < len.toNat ∨ lengthTaken code args = false then .frameError
      else match requestOf p solo code args with
        | some i => .request i
        | none => .frameError
    | _ => .frameError
  | _ => .frameError

/-- The judgement at the end of a transfer, from the bits it took on SDI (R166, R168). -/
def judgeTransfer (p : PortId) (solo : Bool) (bits : List Bool) : FrameVerdict := judgeFrame p solo (wholeBytes bits)

/-- A request with the SOLO strap at a level: the two that read the strap (R174, R186) read it there. -/
def Instr.atStrap (i : Instr) (solo : Bool) : Instr :=
  match i with
  | .getStation p => .getStation { p with solo }
  | .post p => .post { p with solo }
  | _ => i

/-- The code and argument bytes of the frame that carries a request (R195); none for a command that is no request. -/
def requestBytes (i : Instr) : Option (PortId × Byte × List Byte) :=
  match i with
  | .nop p => some (p, 0, [])
  | .getChannel p x => some (p, 1, [x])
  | .getHead p x => some (p, 2, [x])
  | .getAlarms p x => some (p, 3, [x])
  | .getStation p => some (p.port, 4, [])
  | .getSetting p k x => some (p, 5, [k, x])
  | .getProposal p x => some (p, 6, [x])
  | .acknowledge p s m => some (p, 7, s :: bytes4 m)
  | .setTime p t => some (p, 8, bytes4 t)
  | .sendHeadCommand p n x => some (p, 9, [n, x])
  | .stopTest p => some (p, 10, [])
  | .collect p => some (p, 11, [])
  | .cancel p => some (p, 12, [])
  | .post p => some (p.port, 13, [])
  | .withdraw p => some (p, 14, [])
  | .getNotices p => some (p, 15, [])
  | .restartPort p => some (p, 16, [])
  | .seek p r q => some (p, 17, r :: bytes4 q)
  | .rewind p r => some (p, 18, [r])
  | .fetch p r n => some (p, 19, [r, n])
  | .confirm p n => some (p, 20, bytes2 n)
  | .setNoticeMask p m => some (p, 21, [m])
  | .setPortOptions p o => some (p, 22, [o])
  | .draftItem p k n fs => some (p, 23, k :: n :: fs)
  | .powerOnReset _ | .frameTick | .frameArrival _ _ | .headCmdStart _ | .headCmdSent _ | .linkRetry _ _
  | .secondTick _ | .staleEntry _ _ | .learningEnd _ _ | .tailEnd _ | .testExpiry _ | .draftExpiry _
  | .confirmExpiry _ | .commit _ | .storeGrant | .writeComplete | .copyComplete | .discardTimerExpiry _
  | .pwmPeriodStart _ | .transferStart _ | .frameError _ _ | .pwmPulseEnd _ => none

/-- A request frame (R195): code, argument length, arguments, CRC-16. -/
def frameOf (code : Byte) (args : List Byte) : List Byte :=
  let body := code :: BitVec.ofNat 8 args.length :: args
  body ++ bytes2 (crc16 body)

/-- The frame that carries a request, with the port it goes to; none for a command that is no request. -/
def encodeFrame (i : Instr) : Option (PortId × List Byte) :=
  match requestBytes i with
  | some (p, code, args) => some (p, frameOf code args)
  | none => none

/-- The command that a word of the opcode table's bits spells: the table gives no row any bits, so no word spells
one (log 1). -/
def decodeTableWord (_nbits _w : Nat) : Option Instr := none

end Sys2Proof
end

