-- ==== Sys2Proof/Machine/Types.lean ====
section
/-! DEFINITION. The types of what the part holds, block by block in the manual's chapter order: links, averager,
timebase, settings items, test generator, channels, storm monitor, alarm table, records, history store, retransmit
outputs, ports, proposal buffer. -/

namespace Sys2Proof.Machine

/-! ## Chapter 1: the Link Unit -/

/-- The five link states (Section 1.2). -/
inductive LinkState where
  | off | seeking | locked | slipped | lost
  deriving DecidableEq, Repr

/-- The causes of a link transition, in the order of R130. -/
inductive LinkCause where
  | acquired | realigned | mark | silent | badFrames | noRelock | retry | enabled | disabled | address
  deriving DecidableEq, Repr

/-- The head commands a slot can hold (Section 1.5). -/
inductive HeadCommand where
  | zero | restart
  deriving DecidableEq, Repr

/-- The classes of a requested frame (R2). -/
inductive FrameClass where
  | absent | bad | good
  deriving DecidableEq, Repr

/-- A frame that has been requested and has not arrived. `current` says that it was requested in the link's present
state (R6), `abandoned` that a new divider abandoned its cycle (R22). -/
structure InFlight where
  index : Fin 16
  current : Bool
  abandoned : Bool
  deriving DecidableEq, Repr

/-- The latest valid head word (R12): its 16 bits, frame 0's the most significant; its age in cycle ends; and whether
it is stale. -/
structure HeldWord where
  bits : BitVec 16
  age : Nat
  stale : Bool
  deriving DecidableEq, Repr

/-- What the Link Unit keeps for one input. Its expected head address is the LINK item in force (`Settings.link`). -/
structure Link where
  state : LinkState
  /-- 0..16 consecutive bad or absent frames. -/
  badRun : Nat
  /-- Whether any frame of the bad run was bad rather than absent. -/
  badSeen : Bool
  /-- 0..2 (Section 1.2). -/
  goodCycles : Nat
  /-- 0..8 (Section 1.2). -/
  slipCycles : Nat
  /-- Frames of the cycle in progress that were good, properly marked and requested in the present state (R6, R11). -/
  cycleGood : Nat
  /-- The WBITs of the cycle in progress, the latest at the least significant bit (R11). -/
  wbits : BitVec 16
  inFlight : Option InFlight
  word : Option HeldWord
  /-- The counter that the next head word is checked against (R11). -/
  counterRef : Option (BitVec 3)
  /-- The zeroing pending flag (R14). -/
  zeroPending : Bool
  /-- Whether the zeroing indication was true at any moment of the second in progress (R57). -/
  zeroSeen : Bool
  /-- The downstream command slot: none is EMPTY (Section 1.5). -/
  command : Option HeadCommand
  /-- Whether the slot's command word is going out in the cycle in progress (R17). -/
  sending : Bool
  /-- LCK runs for the frame last requested (R1). -/
  lck : Bool
  /-- LSYNC at the head's first sampling edge of the frame last requested: the frame-0 mark (R194). -/
  lsyncMark : Bool
  /-- LSYNC at the second edge: the command bit (R194). -/
  lsyncBit : Bool
  deriving DecidableEq, Repr

/-! ## Chapter 2: the Cycle Averager and the Timebase -/

/-- An input's second (R29): none is absent. -/
structure InputSecond where
  stamp : Time
  value : Option Int
  n : Nat
  deriving DecidableEq, Repr

/-- What the Cycle Averager keeps for one input: the cycle accumulator, the second accumulator S and n, and the latest
second formed. -/
structure Averager where
  cycleSum : Int
  cycleValid : Nat
  sum : Int
  n : Nat
  latest : Option InputSecond
  deriving DecidableEq, Repr

/-- The Timebase. The divider in force is `Settings.divider`; `framePeriod` is the length of the frame period that is
running (R22). -/
structure Timebase where
  frameDiv : Nat
  framePeriod : Nat
  frameCounter : Fin 16
  secondDiv : Nat
  time : Time
  deriving DecidableEq, Repr

/-! ## Chapter 11: the settings items, each as its chapter gives it -/

/-- MAP (R31). The secondary input comes with its sign: true is +, false is −. -/
structure MapItem where
  enabled : Bool
  primary : Fin 8
  secondary : Option (Fin 8 × Bool)
  deriving DecidableEq, Repr

/-- The start modes (R54). -/
inductive StartMode where
  | zero | learn
  deriving DecidableEq, Repr

/-- ANALYSIS (R51): k, start mode, j, stale limit. -/
structure AnalysisItem where
  baselineShift : Nat
  startMode : StartMode
  decayShift : Nat
  staleLimit : Nat
  deriving DecidableEq, Repr

/-- LEVELS (R67): threshold and hysteresis of each level condition. -/
structure LevelsItem where
  excT : Nat
  excH : Nat
  warnT : Nat
  warnH : Nat
  alarmT : Nat
  alarmH : Nat
  deriving DecidableEq, Repr

/-- EXPOSURE (R80): knee K, cooling R, limit X_lim. -/
structure ExposureItem where
  knee : Nat
  cooling : Nat
  limit : Nat
  deriving DecidableEq, Repr

/-- LINK (R182). -/
structure LinkItem where
  enabled : Bool
  address : BitVec 3
  deriving DecidableEq, Repr

/-- POLICY (R106): ack required for each kind. -/
structure PolicyItem where
  warn : Bool
  alarm : Bool
  exposure : Bool
  data : Bool
  deriving DecidableEq, Repr

/-- The modes of an output rule (R111). -/
inductive LineMode where
  | active | unack | any
  deriving DecidableEq, Repr

/-- OUTPUT (R111). Masks have channel n or kind n at bit n; `failsafe` false is polarity NORMAL. -/
structure OutputItem where
  channels : BitVec 8
  kinds : BitVec 4
  mode : LineMode
  includeTest : Bool
  failsafe : Bool
  deriving DecidableEq, Repr

/-- STATION (Section 5.5). -/
structure StationItem where
  stormCount : Nat
  stormHold : Nat
  joinExternal : Bool
  drivePin : Bool
  deriving DecidableEq, Repr

/-- RECORDING (R128). -/
structure RecordingItem where
  normal : Nat
  storm : Nat
  deriving DecidableEq, Repr

/-- The modes of a retransmit output (R156). -/
inductive PwmMode where
  | off | offset | split
  deriving DecidableEq, Repr

/-- The source of a retransmit output (R156). -/
inductive PwmSource where
  | channel (c : Fin 8)
  | stationPeak
  deriving DecidableEq, Repr

/-- RETRANSMIT (R156); `signal` true is fail behaviour SIGNAL, false is HOLD. -/
structure RetransmitItem where
  mode : PwmMode
  source : PwmSource
  fullScale : Nat
  prescale : Nat
  signal : Bool
  deriving DecidableEq, Repr

/-- The forms of a test (R37). -/
inductive TestForm where
  | level | ramp | square | prbs
  deriving DecidableEq, Repr

/-- TEST (R37): the test plan. -/
structure TestItem where
  inputs : BitVec 8
  form : TestForm
  amplitude : Int
  slope : Int
  halfPeriod : Nat
  seed : BitVec 15
  duration : Nat
  deriving DecidableEq, Repr

/-- A settings item as a proposal carries it (Section 11.1). -/
inductive Item where
  | map (c : Fin 8) (v : MapItem)
  | analysis (c : Fin 8) (v : AnalysisItem)
  | levels (c : Fin 8) (v : LevelsItem)
  | exposure (c : Fin 8) (v : ExposureItem)
  | link (n : Fin 8) (v : LinkItem)
  | policy (v : PolicyItem)
  | output (l : Fin 4) (v : OutputItem)
  | station (v : StationItem)
  | recording (v : RecordingItem)
  | partition (sizes : Tab 8 Nat)
  | timebase (divider : Nat)
  | retransmit (o : Fin 2) (v : RetransmitItem)
  | test (v : TestItem)
  | clear
  deriving DecidableEq, Repr

/-- The settings in force: one value of every item that joins them. -/
structure Settings where
  map : Tab 8 MapItem
  analysis : Tab 8 AnalysisItem
  levels : Tab 8 LevelsItem
  exposure : Tab 8 ExposureItem
  link : Tab 8 LinkItem
  policy : PolicyItem
  output : Tab 4 OutputItem
  station : StationItem
  recording : RecordingItem
  /-- The partition in force: the eight channel ring sizes (R118). -/
  partition : Tab 8 Nat
  /-- The frame divider D in force (R20). -/
  divider : Nat
  retransmit : Tab 2 RetransmitItem
  deriving DecidableEq, Repr

/-! ## Chapters 4 and 5: channels and the Storm Monitor -/

/-- The five channel states (Chapter 4). -/
inductive ChannelState where
  | disabled | learning | armed | stale | test
  deriving DecidableEq, Repr

/-- The states a STALE channel can have left (Section 4.1). -/
inductive StateLeft where
  | learning | armed
  deriving DecidableEq, Repr

/-- The conditions that a snapshot saves (R39). -/
structure Conditions where
  excursion : Bool
  warn : Bool
  alarm : Bool
  exposure : Bool
  deriving DecidableEq, Repr

/-- A present second's g, d and m (R63). -/
structure SecondValue where
  g : Int
  d : Int
  m : Nat
  deriving DecidableEq, Repr

/-- The latest second (R76): g, and d and m where the channel computed them. -/
structure LatestSecond where
  stamp : Time
  value : Option SecondValue
  deriving DecidableEq, Repr

/-- A channel record (Section 4.1). DATA is `state = stale`, the same fact under a second name (R53, R58, R59). -/
structure Channel where
  state : ChannelState
  left : StateLeft
  /-- The baseline in cA × 65536. -/
  bAcc : Int
  /-- The envelope in cA × 256. -/
  eAcc : Nat
  conds : Conditions
  /-- Exposure in cA·s. -/
  x : Nat
  absence : Nat
  learned : Nat
  latest : Option LatestSecond
  deriving DecidableEq, Repr

/-- The snapshot of a channel in TEST (R39). -/
structure Snapshot where
  eAcc : Nat
  x : Nat
  conds : Conditions
  learning : Bool
  learned : Nat
  deriving DecidableEq, Repr

/-- The Test Generator (Chapter 3). The test state is RUNNING when a plan is held and IDLE when none is. -/
structure TestGen where
  plan : Option TestItem
  remaining : Nat
  ramp : Int
  squareCount : Nat
  squarePlus : Bool
  prbs : BitVec 15
  supplied : Option Int
  snapshots : Tab 8 (Option Snapshot)
  deriving DecidableEq, Repr

/-- The station storm states (Section 5.8). -/
inductive StormState where
  | quiet | storm | tail
  deriving DecidableEq, Repr

/-- A sample of the STORM wire (R90). -/
structure WireSample where
  high : Bool
  ownPull : Bool
  deriving DecidableEq, Repr

/-- The Storm Monitor (Section 5.5). `stamp` is none until a second has been decided (R86). -/
structure Storm where
  state : StormState
  tail : Nat
  nExc : Nat
  localStorm : Bool
  wire : Option WireSample
  station : Bool
  /-- The part's own pull on the STORM wire. -/
  pull : Bool
  stamp : Option Time
  deriving DecidableEq, Repr

/-! ## Chapter 6: the Alarm Table and the alarm lines -/

/-- The four kinds of alarm entry, in kind order (R98). -/
inductive AlarmKind where
  | warn | alarm | exposure | data
  deriving DecidableEq, Repr

/-- The four states of an alarm entry (Section 6.1). -/
inductive AlarmState where
  | normal | raised | accepted | returned
  deriving DecidableEq, Repr

/-- The causes of an ALARM event (R110). -/
inductive AlarmCause where
  | condition | acknowledge | reset
  deriving DecidableEq, Repr

/-- An alarm entry (R98). -/
structure AlarmEntry where
  state : AlarmState
  raises : Nat
  lastRaise : Option Time
  lastChange : Option Time
  peak : Nat
  ackPort : Option PortId
  mark : Bool
  deriving DecidableEq, Repr

/-- An alarm line: whether it is asserted (none: not evaluated since power-on) and its pin's level (R113). -/
structure Line where
  asserted : Option Bool
  pin : Bool
  deriving DecidableEq, Repr

/-! ## Chapter 7: records, open intervals and the History Store -/

/-- The storm class of an interval (R125). -/
inductive StormClass where
  | quiet | storm
  deriving DecidableEq, Repr

/-- An open interval (R122). Flags have the bits of R196; `first` is the class and start set by its first second,
`dRange` the minimum and maximum of d, `last` the b and X handed with its latest second. -/
structure Interval where
  first : Option (StormClass × Time)
  length : Nat
  dataSeconds : Nat
  sumD : Int
  dRange : Option (Int × Int)
  peakE : Nat
  last : Option (Int × Nat)
  flags : BitVec 16
  timeSet : Bool
  deriving DecidableEq, Repr

/-- An interval record without its sequence number (R127). -/
structure IntervalRecord where
  channel : Fin 8
  start : Time
  length : Nat
  dataSeconds : Nat
  meanD : Option Int
  dRange : Option (Int × Int)
  peakE : Nat
  b : Int
  x : Nat
  flags : BitVec 16
  deriving DecidableEq, Repr

/-- The source of an event (R129). -/
inductive EventSource where
  | channel (c : Fin 8)
  | input (n : Fin 8)
  | port (p : PortId)
  | station
  deriving DecidableEq, Repr

/-- The causes of a PROPOSAL_ENDED event, in the order of R130. -/
inductive EndCause where
  | withdrawn | draftExpired | confirmExpired | portRestart
  deriving DecidableEq, Repr

/-- The causes of a TEST event, in the order of R130. -/
inductive TestCause where
  | commit | expired | stopped
  deriving DecidableEq, Repr

/-- The causes of a HISTORY_CLEARED event, in the order of R130. -/
inductive ClearCause where
  | clear | partition | wrap
  deriving DecidableEq, Repr

/-- The bodies of events, in the order of R130. -/
inductive EventBody where
  | alarm (entry : Fin 32) (fromState toState : AlarmState) (value : Nat) (cause : AlarmCause)
  | ack (port : PortId) (count : Nat) (entries : BitVec 32)
  | link (input : Fin 8) (fromState toState : LinkState) (cause : LinkCause)
  | storm (fromState toState : StormState) (nExc : Nat)
  | commit (generation : BitVec 16) (poster : PortId) (confirmer : Option PortId) (items : List (Nat × Nat))
  | proposalEnded (number : BitVec 16) (cause : EndCause)
  | test (ended : Bool) (inputs : BitVec 8) (form : TestForm) (cause : TestCause)
  | time (old new : Time) (port : PortId)
  | headCmd (input : Fin 8) (command : HeadCommand) (dropped : Bool)
  | zeroEnd (input : Fin 8) (channels : BitVec 8)
  | start
  | historyCleared (cause : ClearCause) (rings : BitVec 16)
  deriving DecidableEq, Repr

/-- An event record without its sequence number (R129). LOSS 0 is absent. -/
structure EventRecord where
  time : Time
  source : EventSource
  body : EventBody
  loss : Nat
  deriving DecidableEq, Repr

/-- A record of the history (Chapter 7). -/
inductive Record where
  | interval (r : IntervalRecord)
  | event (r : EventRecord)
  deriving DecidableEq, Repr

/-- A record in the write queue, with its destination ring (R131). -/
structure QueuedRecord where
  ring : Fin 9
  record : Record
  deriving DecidableEq, Repr

/-- A record in a slot, with the sequence number it was given (R133). -/
structure StoredRecord where
  seq : Nat
  record : Record
  deriving DecidableEq, Repr

/-- A ring (R119): its heads, and the records it holds, oldest first, one to a slot. -/
structure Ring where
  oldest : Nat
  next : Nat
  records : List StoredRecord
  deriving DecidableEq, Repr

/-- The store access in progress (R135). A copy carries the record it reads, or none once its port has left WORKING
and the record is to be thrown away. -/
inductive Access where
  | idle
  | write (q : QueuedRecord)
  | copy (p : PortId) (record : Option StoredRecord)
  deriving DecidableEq, Repr

/-- The History Store, the Record Writer and the arbiter. `turn` is the round-robin position: the port granted a copy
most recently (R135). -/
structure Store where
  rings : Tab 9 Ring
  queue : List QueuedRecord
  loss : Nat
  access : Access
  turn : PortId
  deriving DecidableEq, Repr

/-! ## Chapter 8: cursors and the deferred slot -/

/-- A port's place in one ring (Section 8.1). -/
structure Cursor where
  cursor : Nat
  skip : Nat
  armed : Bool
  deriving DecidableEq, Repr

/-- A FETCH being prepared (Section 8.3). `atGrant` is the ring's oldest and next at its latest grant (R149). -/
structure Fetch where
  ring : Fin 9
  count : Nat
  wanted : Nat
  start : Nat
  gap : Bool
  held : List StoredRecord
  atGrant : Nat × Nat
  deriving DecidableEq, Repr

/-- A finished FETCH reply, but for the skip count, which is taken at COLLECT (R149). -/
structure Batch where
  ring : Fin 9
  start : Nat
  gap : Bool
  oldest : Nat
  next : Nat
  records : List StoredRecord
  deriving DecidableEq, Repr

/-- The deferred slot (Section 8.3). -/
inductive Slot where
  | idle
  | working (f : Fetch)
  | ready (b : Batch)
  deriving DecidableEq, Repr

/-! ## Chapter 9: the retransmit outputs -/

/-- What a PWM period was started with (R157). -/
structure PwmPeriod where
  mode : PwmMode
  prescale : Nat
  code : Int
  fault : Bool
  deriving DecidableEq, Repr

/-- A retransmit output (R157, R165). `counter` counts REFCLK periods through the period in progress. -/
structure Retransmit where
  code : Int
  faultShown : Bool
  /-- Whether the source was in fault at the most recent tick (R165). -/
  sourceFault : Bool
  chosen : Option (Fin 8)
  counter : Nat
  period : PwmPeriod
  pinA : Bool
  pinB : Bool
  deriving DecidableEq, Repr

/-! ## Chapter 11: the proposal buffer -/

/-- The proposal buffer (Section 11.2): its owner, its items in the proposal's order, and the count of its window. A
committing proposal has no confirming port when SOLO sent it there. -/
inductive Proposal where
  | empty
  | draft (owner : PortId) (items : List Item) (idle : Nat)
  | posted (owner : PortId) (items : List Item) (window : Nat)
  | committing (owner : PortId) (confirmer : Option PortId) (items : List Item)
  deriving DecidableEq, Repr

/-! ## Chapter 10: replies, notices and ports -/

/-- The statuses (R170), in its order. -/
inductive Status where
  | done | queued | pending | emptySlot | discarded | busy | refused | badArgument | invalid | unknownRequest
  | frameError | notPending | restarted
  deriving DecidableEq, Repr

/-- A port's notices (R175): the flags in the notice category coding, and the detail of each category. -/
structure Notices where
  flags : BitVec 8
  alarm : BitVec 8
  half : BitVec 16
  overwrite : BitVec 16
  settings : BitVec 8
  link : BitVec 8
  test : BitVec 8
  reply : BitVec 8
  time : BitVec 8
  deriving DecidableEq, Repr

/-- What GET STATION reports (R174), block by block. -/
structure StationReport where
  solo : Bool
  test : TestGen
  storm : Storm
  ringSizes : Tab 9 Nat
  heads : Tab 9 (Nat × Nat)
  queueCount : Nat
  loss : Nat
  access : Access
  outputs : Tab 2 Retransmit
  deriving DecidableEq, Repr

/-- What GET PROPOSAL reports (R192). -/
structure ProposalReport where
  proposal : Proposal
  number : BitVec 16
  contents : Option Item
  deriving DecidableEq, Repr

/-- The body of a reply, as the request's owning rule lists it (R195). -/
inductive ReplyBody where
  | empty
  | channel (c : Channel)
  | head (l : Link) (address : BitVec 3) (latest : Option InputSecond)
  | alarms (entries : Tab 32 AlarmEntry) (channel : Fin 8) (lines : Tab 4 Line)
  | station (r : StationReport)
  | setting (i : Item)
  | proposal (r : ProposalReport)
  | acknowledged (count : Nat) (entries : BitVec 32)
  | place (ring : Fin 9) (cursor oldest next skip : Nat)
  | queued (ring : Fin 9) (count start : Nat)
  | batch (b : Batch) (skip : Nat)
  | cursors (cs : Tab 9 Cursor)
  | drafted (count position : Nat)
  | posted (number : BitVec 16) (committing : Bool)
  | invalid (check : Nat) (channel : Nat)
  | notices (n : Notices)
  | mask (mask flags : BitVec 8)
  | option (on : Bool)
  | restarted (portRestart : Bool)
  deriving DecidableEq, Repr

/-- A reply, but for the live fields of its header (R169). -/
structure Reply where
  status : Status
  code : Byte
  body : ReplyBody
  deriving DecidableEq, Repr

/-- Where a port's SEL line stands: high; low with the reply frame that the transfer carries, fixed when SEL fell
(R169); or low since before a reset, to be ignored whole (R172). -/
inductive Transfer where
  | idle
  | active (frame : List Byte)
  | ignored
  deriving DecidableEq, Repr

/-- A Port Controller (Chapter 10). -/
structure Port where
  transfer : Transfer
  due : Reply
  notices : Notices
  mask : BitVec 8
  shortDiscard : Bool
  slot : Slot
  /-- REFCLK periods the discard timer has left; 0 when it is stopped (R149). -/
  timer : Nat
  /-- The discarded mark (R150). -/
  discarded : Bool
  cursors : Tab 9 Cursor
  deriving DecidableEq, Repr

/-- The three Port Controllers. -/
structure Ports where
  a : Port
  b : Port
  c : Port
  deriving DecidableEq, Repr

end Sys2Proof.Machine
end

