-- ==== Sys2Proof/Machine/State.lean ====
section
/-! DEFINITION. The state of the part as plain data, and the state right after power-on reset. INVENTORY.md lists
every field with its rule. -/

namespace Sys2Proof.Machine

/-- The reasons for a fault. There is none: the manual gives every command an effect in every state, and answers what
it does not carry out by a reply status. -/
inductive Fault where
  deriving DecidableEq, Repr

/-- The reasons for a refusal. -/
inductive Refusal where
  /-- Raised by `exec`'s arms for a command that has no meaning yet (safe: the machine stops). No arm raises it. -/
  | notModelled (mnemonic : String)
  deriving DecidableEq, Repr

/-- The whole part. -/
structure State where
  /-- The commands that are waiting, first in, first out. -/
  pending : List Instr
  /-- The SOLO strap as it last stood when the part read it, or at the last reset: true when tied (log 9). -/
  solo : Bool
  timebase : Timebase
  links : Tab 8 Link
  averagers : Tab 8 Averager
  test : TestGen
  channels : Tab 8 Channel
  storm : Storm
  /-- The alarm entries, by entry number (R98). -/
  alarms : Tab 32 AlarmEntry
  lines : Tab 4 Line
  outputs : Tab 2 Retransmit
  /-- The open interval of each channel: none in DISABLED (R122). -/
  intervals : Tab 8 (Option Interval)
  store : Store
  ports : Ports
  settings : Settings
  generation : BitVec 16
  /-- The number given to the most recent proposal posted (R186). -/
  number : BitVec 16
  proposal : Proposal
  /-- The MODEL's own: how many free values have been used. No rule of the manual names it. -/
  free : Nat
  deriving DecidableEq, Repr

/-- A link after power-on (R19); its command slot is EMPTY and its clock has not run yet. -/
def Link.reset : Link where
  state := .seeking
  badRun := 0
  badSeen := false
  goodCycles := 0
  slipCycles := 0
  cycleGood := 0
  wbits := 0
  inFlight := none
  word := none
  counterRef := none
  zeroPending := false
  zeroSeen := false
  command := none
  sending := false
  lck := false
  lsyncMark := false
  lsyncBit := false

/-- An input's accumulators after power-on (R30): empty, and no second formed (R29). -/
def Averager.reset : Averager where
  cycleSum := 0
  cycleValid := 0
  sum := 0
  n := 0
  latest := none

/-- The settings after power-on (R182): each item's value from its own chapter. -/
def Settings.reset : Settings where
  map := tab fun c => { enabled := true, primary := c, secondary := none }
  analysis := tab fun _ => { baselineShift := 12, startMode := .zero, decayShift := 5, staleLimit := 5 }
  levels := tab fun _ => { excT := 300, excH := 100, warnT := 1500, warnH := 300, alarmT := 5000, alarmH := 1000 }
  exposure := tab fun _ => { knee := 1000, cooling := 200, limit := 3000000 }
  link := tab fun n => { enabled := true, address := BitVec.ofFin n }
  policy := { warn := false, alarm := true, exposure := true, data := true }
  output := tab fun l =>
    { channels := 0xFF
      kinds := if l = 0 then 0b0110 else if l = 1 then 0b1111 else if l = 2 then 0b1000 else 0b0001
      mode := if l = 1 then .unack else .active
      includeTest := false
      failsafe := false }
  station := { stormCount := 2, stormHold := 600, joinExternal := true, drivePin := true }
  recording := { normal := 300, storm := 30 }
  partition := tab fun _ => 448
  divider := 1536
  retransmit := tab fun o =>
    { mode := .off
      source := if o = 0 then .channel 0 else .stationPeak
      fullScale := 5000
      prescale := 1
      signal := true }

/-- The four level and exposure conditions, all false. -/
def Conditions.none : Conditions := { excursion := false, warn := false, alarm := false, exposure := false }

/-- A channel after power-on (R50). -/
def Channel.reset : Channel where
  state := .armed
  left := .armed
  bAcc := 0
  eAcc := 0
  conds := .none
  x := 0
  absence := 0
  learned := 0
  latest := none

/-- The Test Generator after power-on (R38). -/
def TestGen.reset : TestGen where
  plan := none
  remaining := 0
  ramp := 0
  squareCount := 0
  squarePlus := true
  prbs := 0
  supplied := none
  snapshots := tab fun _ => none

/-- The Storm Monitor after power-on (R86). -/
def Storm.reset : Storm where
  state := .quiet
  tail := 0
  nExc := 0
  localStorm := false
  wire := none
  station := false
  pull := false
  stamp := none

/-- An alarm entry after power-on (R98). -/
def AlarmEntry.reset : AlarmEntry where
  state := .normal
  raises := 0
  lastRaise := none
  lastChange := none
  peak := 0
  ackPort := none
  mark := false

/-- A retransmit output after power-on (R157): OFF, and the first period begun. -/
def Retransmit.reset : Retransmit where
  code := 0
  faultShown := false
  sourceFault := false
  chosen := none
  counter := 0
  period := { mode := .off, prescale := 1, code := 0, fault := false }
  pinA := false
  pinB := false

/-- An open interval as it opens (R122). -/
def Interval.opened : Interval where
  first := none
  length := 0
  dataSeconds := 0
  sumD := 0
  dRange := none
  peakE := 0
  last := none
  flags := 0
  timeSet := false

/-- The START event of power-on (R134), stamped with station time 0. -/
def startEvent : EventRecord := { time := 0, source := .station, body := .start, loss := 0 }

/-- The store after power-on: every ring empty with heads at 1 (R119), no access and the position at port C (R135),
and the START event in the queue (R134). -/
def Store.reset : Store where
  rings := tab fun _ => { oldest := 1, next := 1, records := [] }
  queue := [{ ring := 8, record := .event startEvent }]
  loss := 0
  access := .idle
  turn := .c

/-- No notice set. -/
def Notices.none : Notices where
  flags := 0
  alarm := 0
  half := 0
  overwrite := 0
  settings := 0
  link := 0
  test := 0
  reply := 0
  time := 0

/-- A Port Controller after power-on (R140, R155, R172). No rule gives the level of SEL at power-on; here SEL is high and
no transfer is under way, the model's choice (log 36). -/
def Port.reset : Port where
  transfer := .idle
  due := { status := .restarted, code := 0, body := .restarted false }
  notices := .none
  mask := 0xFF
  shortDiscard := false
  slot := .idle
  timer := 0
  discarded := false
  cursors := tab fun _ => { cursor := 1, skip := 0, armed := true }

/-- The part right after power-on reset, with the SOLO strap not tied (log 9) and every SEL line high (log 36). -/
def State.reset : State where
  pending := []
  solo := false
  timebase := { frameDiv := 0, framePeriod := 2560, frameCounter := 0, secondDiv := 0, time := 0 }
  links := tab fun _ => .reset
  averagers := tab fun _ => .reset
  test := .reset
  channels := tab fun _ => .reset
  storm := .reset
  alarms := tab fun _ => .reset
  lines := tab fun _ => { asserted := none, pin := false }
  outputs := tab fun _ => .reset
  intervals := tab fun _ => some .opened
  store := .reset
  ports := { a := .reset, b := .reset, c := .reset }
  settings := .reset
  generation := 0
  number := 0
  proposal := .empty
  free := 0

end Sys2Proof.Machine
end

