-- ==== Sys2Proof/Machine/Operands.lean ====
section
/-! DEFINITION. The operand forms: the arithmetic conventions of 00_scope.md (rounding, clamping, saturating), the
fields of an upstream head frame and of a head word (R194), and the reading of a settings item from the field bytes
of a DRAFT ITEM, with the range checks of R182. -/

namespace Sys2Proof.Machine

/-! ## Arithmetic -/

/-- `a / b` rounded to the nearest integer, halves away from zero (00_scope.md, Rounding). -/
def roundDiv (a : Int) (b : Nat) : Int :=
  let q : Nat := (2 * a.natAbs + b) / (2 * b)
  if a < 0 then -(q : Int) else q

/-- `v` clamped to `lo..hi` (00_scope.md, Clamping). -/
def clamp (lo hi v : Int) : Int := if v < lo then lo else if hi < v then hi else v

/-- `v` clamped to the current range −131071..131071. -/
def clampCurrent (v : Int) : Int := clamp (-131071) 131071 v

/-- One more, saturating at `top` (00_scope.md, Ranges). -/
def satSucc (top n : Nat) : Nat := if top ≤ n then top else n + 1

/-- `a / b` rounded up. -/
def ceilDiv (a b : Nat) : Nat := (a + b - 1) / b

/-- The frame period for a divider D, in REFCLK periods (R20). -/
def periodOf (divider : Nat) : Nat := 4096 - divider

/-- REFCLK periods in a second (R23). -/
def secondPeriods : Nat := 2048000

/-- The level clamp of R67: a hysteresis above its threshold becomes the threshold. -/
def LevelsItem.clamped (l : LevelsItem) : LevelsItem :=
  { l with excH := min l.excH l.excT, warnH := min l.warnH l.warnT, alarmH := min l.alarmH l.alarmT }

/-! ## The head link (R194) -/

/-- The expected check of the first 24 bits of an upstream frame: CRC-8, generator 0x07, register starting at 0. -/
def crc8 (bits : BitVec 24) : BitVec 8 :=
  (List.range 24).foldl
    (fun r i => if r.getLsbD 7 != bits.getLsbD (23 - i) then (r <<< 1) ^^^ 0x07#8 else r <<< 1) 0#8

/-- Bits 1–18: the sample, signed. -/
def frameSample (f : BitVec 32) : Int := (f.extractLsb' 14 18).toInt

/-- Bit 19: OVR. -/
def frameOvr (f : BitVec 32) : Bool := f.getLsbD 13

/-- Bit 20: MARK. -/
def frameMark (f : BitVec 32) : Bool := f.getLsbD 12

/-- Bit 21: WBIT. -/
def frameWbit (f : BitVec 32) : Bool := f.getLsbD 11

/-- Bits 22–24: ADDR. -/
def frameAddr (f : BitVec 32) : BitVec 3 := f.extractLsb' 8 3

/-- Bits 25–32: CHECK. -/
def frameCheck (f : BitVec 32) : BitVec 8 := f.extractLsb' 0 8

/-- The class of a requested frame, judged in the order of R2. -/
def classify (address : BitVec 3) (f : BitVec 32) : FrameClass :=
  if f = 0xFFFFFFFF#32 then .absent
  else if frameCheck f ≠ crc8 (f.extractLsb' 8 24) then .bad
  else if frameAddr f ≠ address then .bad
  else .good

/-- SENSOR_FAULT: frame 0 of the word. -/
def wordFault (w : BitVec 16) : Bool := w.getLsbD 15

/-- SUPPLY_LOW: frame 1. -/
def wordSupplyLow (w : BitVec 16) : Bool := w.getLsbD 14

/-- ZEROING: frame 2. -/
def wordZeroing (w : BitVec 16) : Bool := w.getLsbD 13

/-- Command echo: frames 3–4. -/
def wordEcho (w : BitVec 16) : BitVec 2 := w.extractLsb' 11 2

/-- Word counter: frames 5–7. -/
def wordCounter (w : BitVec 16) : BitVec 3 := w.extractLsb' 8 3

/-- Temperature: frames 8–15. -/
def wordTemperature (w : BitVec 16) : BitVec 8 := w.extractLsb' 0 8

/-- The 4-bit code of a head command (R194). -/
def HeadCommand.code (c : HeadCommand) : BitVec 4 :=
  match c with
  | .zero => 1
  | .restart => 2

/-- The command bit of a frame index: each of frames 0–3, 4–7, 8–11 and 12–15 carries the code, high bit first
(R194). -/
def commandBit (c : HeadCommand) (index : Fin 16) : Bool := c.code.getLsbD (3 - index.val % 4)

/-! ## Names of channels, inputs, rings in argument bytes -/

/-- An argument byte read as one of `n` names, none when it is outside their range. -/
def nameOf (n : Nat) (x : Byte) : Option (Fin n) :=
  if h : x.toNat < n then some ⟨x.toNat, h⟩ else none

/-- A yes or no argument: no 0, yes 1, nothing else (R195). -/
def yesNo (x : Byte) : Option Bool :=
  if x = 0#8 then some false else if x = 1#8 then some true else none

/-- A number within `lo..hi`, none outside. -/
def ranged (lo hi : Nat) (v : Nat) : Option Nat := if lo ≤ v ∧ v ≤ hi then some v else none

/-- A signed number within ±131071, none outside. -/
def current (v : BitVec 32) : Option Int :=
  if -131071 ≤ v.toInt ∧ v.toInt ≤ 131071 then some v.toInt else none

/-- Two field bytes as a number. -/
def num2 (a b : Byte) : Nat := (word2 a b).toNat

/-- Four field bytes as a number. -/
def num4 (a b c d : Byte) : Nat := (word4 a b c d).toNat

/-! ## Settings items (R182, R195): none is BAD_ARGUMENT -/

/-- The MAP secondary input: a presence byte, an input and a sign; an absent one's value bytes are not read
(log 15). -/
def readSecondary (present input sign : Byte) : Option (Option (Fin 8 × Bool)) :=
  if present = 0#8 then some none
  else if present = 1#8 then
    match nameOf 8 input, yesNo sign with
    | some n, some minus => some (some (n, !minus))
    | _, _ => none
  else none

/-- MAP fields (R31). A secondary input equal to the primary is out of range. -/
def readMap (fs : List Byte) : Option MapItem :=
  match fs with
  | [e, p, present, input, sign] =>
    match yesNo e, nameOf 8 p, readSecondary present input sign with
    | some enabled, some primary, some secondary =>
      if secondary.any (fun s => s.1 = primary) then none else some { enabled, primary, secondary }
    | _, _, _ => none
  | _ => none

/-- ANALYSIS fields (R51). -/
def readAnalysis (fs : List Byte) : Option AnalysisItem :=
  match fs with
  | [k, mode, j, limit] =>
    match ranged 8 14 k.toNat, yesNo mode, ranged 2 8 j.toNat, ranged 2 60 limit.toNat with
    | some baselineShift, some learn, some decayShift, some staleLimit =>
      some { baselineShift, startMode := if learn then .learn else .zero, decayShift, staleLimit }
    | _, _, _, _ => none
  | _ => none

/-- One 4-byte number after another, none when a byte is left over. -/
def numbers4 (fs : List Byte) : Option (List Nat) :=
  match fs with
  | [] => some []
  | a :: b :: c :: d :: rest => (numbers4 rest).map (num4 a b c d :: ·)
  | _ => none

/-- One 2-byte number after another. -/
def numbers2 (fs : List Byte) : Option (List Nat) :=
  match fs with
  | [] => some []
  | a :: b :: rest => (numbers2 rest).map (num2 a b :: ·)
  | _ => none

/-- LEVELS fields (R67): T and H of EXCURSION, WARN and ALARM, each 0..131071. -/
def readLevels (fs : List Byte) : Option LevelsItem :=
  match numbers4 fs with
  | some [excT, excH, warnT, warnH, alarmT, alarmH] =>
    if [excT, excH, warnT, warnH, alarmT, alarmH].all (· ≤ 131071) then
      some { excT, excH, warnT, warnH, alarmT, alarmH }
    else none
  | _ => none

/-- EXPOSURE fields (R80). -/
def readExposure (fs : List Byte) : Option ExposureItem :=
  match numbers4 fs with
  | some [knee, cooling, limit] =>
    if knee ≤ 131071 ∧ cooling ≤ 131071 ∧ 1 ≤ limit ∧ limit ≤ 1000000000 then some { knee, cooling, limit }
    else none
  | _ => none

/-- LINK fields (R182). The expected head address is one byte, its value (log 35). -/
def readLink (fs : List Byte) : Option LinkItem :=
  match fs with
  | [e, a] =>
    match yesNo e, nameOf 8 a with
    | some enabled, some address => some { enabled, address := BitVec.ofFin address }
    | _, _ => none
  | _ => none

/-- POLICY fields (R106). -/
def readPolicy (fs : List Byte) : Option PolicyItem :=
  match fs with
  | [w, a, e, d] =>
    match yesNo w, yesNo a, yesNo e, yesNo d with
    | some warn, some alarm, some exposure, some data => some { warn, alarm, exposure, data }
    | _, _, _, _ => none
  | _ => none

/-- OUTPUT fields (R111). Any channel mask names channels that exist; a kind mask has four bits. -/
def readOutput (fs : List Byte) : Option OutputItem :=
  match fs with
  | [channels, kinds, mode, test, polarity] =>
    match ranged 0 15 kinds.toNat, nameOf 3 mode, yesNo test, yesNo polarity with
    | some k, some m, some includeTest, some failsafe =>
      some { channels, kinds := BitVec.ofNat 4 k, mode := [LineMode.active, .unack, .any].getD m .active,
             includeTest, failsafe }
    | _, _, _, _ => none
  | _ => none

/-- STATION fields (R87). -/
def readStation (fs : List Byte) : Option StationItem :=
  match fs with
  | [count, h1, h0, join, drive] =>
    match ranged 1 8 count.toNat, ranged 0 3600 (num2 h1 h0), yesNo join, yesNo drive with
    | some stormCount, some stormHold, some joinExternal, some drivePin =>
      some { stormCount, stormHold, joinExternal, drivePin }
    | _, _, _, _ => none
  | _ => none

/-- RECORDING fields (R128). -/
def readRecording (fs : List Byte) : Option RecordingItem :=
  match numbers2 fs with
  | some [normal, storm] =>
    if 10 ≤ normal ∧ normal ≤ 3600 ∧ 1 ≤ storm ∧ storm ≤ 600 then some { normal, storm } else none
  | _ => none

/-- PARTITION fields (R118): each size 0 or 16..3840. -/
def readPartition (fs : List Byte) : Option (Tab 8 Nat) :=
  match numbers2 fs with
  | some sizes =>
    if sizes.length = 8 ∧ sizes.all (fun z => z = 0 ∨ 16 ≤ z ∧ z ≤ 3840) then
      some (tab fun i => sizes.getD i.val 0)
    else none
  | none => none

/-- TIMEBASE fields (R20): D 0..4095. -/
def readTimebase (fs : List Byte) : Option Nat :=
  match fs with
  | [a, b] => ranged 0 4095 (num2 a b)
  | _ => none

/-- A retransmit source: a channel number, or 8 for STATION PEAK (R195). -/
def readSource (x : Byte) : Option PwmSource :=
  if x = 8#8 then some .stationPeak else (nameOf 8 x).map .channel

/-- RETRANSMIT fields (R156). The prescale is one byte, its value 1, 2, 4, 8 or 16 (log 35). -/
def readRetransmit (fs : List Byte) : Option RetransmitItem :=
  match fs with
  | [mode, source, f3, f2, f1, f0, prescale, failure] =>
    match nameOf 3 mode, readSource source, ranged 1 131071 (num4 f3 f2 f1 f0), yesNo failure with
    | some m, some src, some fullScale, some signal =>
      if [1, 2, 4, 8, 16].contains prescale.toNat then
        some { mode := [PwmMode.off, .offset, .split].getD m .off, source := src, fullScale,
               prescale := prescale.toNat, signal }
      else none
    | _, _, _, _ => none
  | _ => none

/-- TEST fields (R37). A seed of 0 is stored as 1, and the draft then holds and shows 1, although R184 and R192 keep an
item as drafted (log 34). -/
def readTest (fs : List Byte) : Option TestItem :=
  match fs with
  | [inputs, form, a3, a2, a1, a0, s3, s2, s1, s0, p1, p0, e1, e0, d1, d0] =>
    match nameOf 4 form, current (word4 a3 a2 a1 a0), current (word4 s3 s2 s1 s0), ranged 1 4095 (num2 p1 p0),
      ranged 0 32767 (num2 e1 e0), ranged 1 3600 (num2 d1 d0) with
    | some f, some amplitude, some slope, some halfPeriod, some seed, some duration =>
      if inputs = 0#8 then none
      else some { inputs, form := [TestForm.level, .ramp, .square, .prbs].getD f .level, amplitude, slope,
                  halfPeriod, seed := BitVec.ofNat 15 (if seed = 0 then 1 else seed), duration }
    | _, _, _, _, _, _ => none
  | _ => none

/-- An item kind held once takes index 0 alone (R182). -/
def onlyZero {α : Type} (index : Byte) (x : Option α) : Option α := if index = 0#8 then x else none

/-- An item kind held for each of `n` places. -/
def indexed {α : Type} (n : Nat) (index : Byte) (x : Option α) (f : Fin n → α → Item) : Option Item :=
  match nameOf n index, x with
  | some i, some v => some (f i v)
  | _, _ => none

/-- The item that a DRAFT ITEM carries, its kinds numbered in the item order of Section 11.1 (R195); none is refused
BAD_ARGUMENT (R182). -/
def readItem (kind index : Byte) (fs : List Byte) : Option Item :=
  match kind.toNat with
  | 0 => indexed 8 index (readMap fs) .map
  | 1 => indexed 8 index (readAnalysis fs) .analysis
  | 2 => indexed 8 index (readLevels fs) .levels
  | 3 => indexed 8 index (readExposure fs) .exposure
  | 4 => indexed 8 index (readLink fs) .link
  | 5 => onlyZero index ((readPolicy fs).map .policy)
  | 6 => indexed 4 index (readOutput fs) .output
  | 7 => onlyZero index ((readStation fs).map .station)
  | 8 => onlyZero index ((readRecording fs).map .recording)
  | 9 => onlyZero index ((readPartition fs).map .partition)
  | 10 => onlyZero index ((readTimebase fs).map .timebase)
  | 11 => indexed 2 index (readRetransmit fs) .retransmit
  | 12 => onlyZero index ((readTest fs).map .test)
  | 13 => onlyZero index (if fs = [] then some .clear else none)
  | _ => none

/-- The kind code and index of an item (R182, R195). -/
def Item.name (i : Item) : Nat × Nat :=
  match i with
  | .map c _ => (0, c)
  | .analysis c _ => (1, c)
  | .levels c _ => (2, c)
  | .exposure c _ => (3, c)
  | .link n _ => (4, n)
  | .policy _ => (5, 0)
  | .output l _ => (6, l)
  | .station _ => (7, 0)
  | .recording _ => (8, 0)
  | .partition _ => (9, 0)
  | .timebase _ => (10, 0)
  | .retransmit o _ => (11, o)
  | .test _ => (12, 0)
  | .clear => (13, 0)

/-- The item in force that GET SETTING names; none is refused BAD_ARGUMENT, TEST and CLEAR among them (R183). -/
def Settings.item (s : Settings) (kind index : Byte) : Option Item :=
  match kind.toNat with
  | 0 => (nameOf 8 index).map fun c => .map c (nth s.map c)
  | 1 => (nameOf 8 index).map fun c => .analysis c (nth s.analysis c)
  | 2 => (nameOf 8 index).map fun c => .levels c (nth s.levels c)
  | 3 => (nameOf 8 index).map fun c => .exposure c (nth s.exposure c)
  | 4 => (nameOf 8 index).map fun n => .link n (nth s.link n)
  | 5 => onlyZero index (some (.policy s.policy))
  | 6 => (nameOf 4 index).map fun l => .output l (nth s.output l)
  | 7 => onlyZero index (some (.station s.station))
  | 8 => onlyZero index (some (.recording s.recording))
  | 9 => onlyZero index (some (.partition s.partition))
  | 10 => onlyZero index (some (.timebase s.divider))
  | 11 => (nameOf 2 index).map fun o => .retransmit o (nth s.retransmit o)
  | _ => none

/-- The settings with one item put in force, with the clamps of R20 and R67; TEST and CLEAR do not join them
(R190, stage 1). -/
def Settings.apply (s : Settings) (i : Item) : Settings :=
  match i with
  | .map c v => { s with map := put s.map c v }
  | .analysis c v => { s with analysis := put s.analysis c v }
  | .levels c v => { s with levels := put s.levels c v.clamped }
  | .exposure c v => { s with exposure := put s.exposure c v }
  | .link n v => { s with link := put s.link n v }
  | .policy v => { s with policy := v }
  | .output l v => { s with output := put s.output l v }
  | .station v => { s with station := v }
  | .recording v => { s with recording := v }
  | .partition sizes => { s with partition := sizes }
  | .timebase d => { s with divider := min d 3072 }
  | .retransmit o v => { s with retransmit := put s.retransmit o v }
  | .test _ => s
  | .clear => s

/-- The settings with every item of a proposal put in force together. -/
def Settings.applyAll (s : Settings) (items : List Item) : Settings := items.foldl Settings.apply s

/-- A channel uses an input when it is enabled and names it as primary or as secondary (R31). -/
def MapItem.uses (m : MapItem) (n : Fin 8) : Bool :=
  m.enabled && (m.primary == n || m.secondary.any (fun s => s.1 == n))

/-- The channels that use an input under the maps in force, channel n at bit n (R14). -/
def Settings.users (s : Settings) (n : Fin 8) : BitVec 8 := maskOf 8 fun c => (nth s.map c).uses n

/-- Whether a channel uses at least one input of a test's mask (R39). -/
def MapItem.targeted (m : MapItem) (inputs : BitVec 8) : Bool :=
  (List.finRange 8).any fun n => m.uses n && inputs.getLsbD n.val

/-- A ring's size in slots: its channel's, or what the channel rings leave of 4096 (R118). -/
def Settings.ringSize (s : Settings) (r : Fin 9) : Nat :=
  if h : r.val < 8 then nth s.partition ⟨r.val, h⟩
  else 4096 - (List.finRange 8).foldl (fun n c => n + nth s.partition c) 0

end Sys2Proof.Machine
end

