-- ==== Sys2Proof/Machine/Flags.lean ====
section
/-! DEFINITION. The conditions, flags and lines that are computed: the level conditions (R68), the EXPOSURE condition
(R82), notices and ATTN (R175, R176), the half-unread mark (R142), the zeroing indication (R14) and the alarm lines
(R112, R113). -/

namespace Sys2Proof.Machine

/-! ## Channel conditions -/

/-- The envelope e (Section 4.1). -/
def Channel.e (c : Channel) : Nat := c.eAcc / 256

/-- The baseline b, rounded (R70). -/
def Channel.b (c : Channel) : Int := roundDiv c.bAcc 65536

/-- The DATA condition: true while the channel is STALE (R53, R58, R59). -/
def Channel.data (c : Channel) : Bool := c.state == .stale

/-- The learning state (R55). -/
def Channel.isLearning (c : Channel) : Bool :=
  c.state == .learning || (c.state == .stale && c.left == .learning)

/-- The state a STALE channel returns to (R59). -/
def StateLeft.state (l : StateLeft) : ChannelState :=
  match l with
  | .learning => .learning
  | .armed => .armed

/-- A level condition after a present second (R68). -/
def levelCondition (t h e : Nat) (was : Bool) : Bool := decide (t ≤ e) || (was && decide (t - h ≤ e))

/-- The EXPOSURE condition after a present second (R82). -/
def exposureCondition (limit x : Nat) (was : Bool) : Bool :=
  if limit ≤ x then true else if x < limit / 2 then false else was

/-- The condition that feeds an alarm entry of a kind (Section 6.1). -/
def Channel.condition (c : Channel) (k : AlarmKind) : Bool :=
  match k with
  | .warn => c.conds.warn
  | .alarm => c.conds.alarm
  | .exposure => c.conds.exposure
  | .data => c.data

/-- The value handed with a condition (R74, R102). -/
def Channel.value (c : Channel) (k : AlarmKind) : Nat :=
  match k with
  | .warn | .alarm => c.e
  | .exposure => c.x
  | .data => c.absence

/-! ## Alarm entries and lines -/

/-- The four kinds in kind order (R98). -/
def alarmKinds : List AlarmKind := [.warn, .alarm, .exposure, .data]

/-- A kind's number (R98). -/
def AlarmKind.number (k : AlarmKind) : Fin 4 :=
  match k with
  | .warn => 0
  | .alarm => 1
  | .exposure => 2
  | .data => 3

/-- An entry's number: four times its channel plus its kind number (R98). -/
def entryOf (c : Fin 8) (k : AlarmKind) : Fin 32 := ⟨4 * c.val + k.number.val, by omega⟩

/-- The channel of an entry number. -/
def channelOf (i : Fin 32) : Fin 8 := ⟨i.val / 4, by omega⟩

/-- An entry is active when it is RAISED or ACCEPTED (Section 6.1). -/
def AlarmState.active (a : AlarmState) : Bool := a == .raised || a == .accepted

/-- Whether a state is one that a rule's mode names (R112). -/
def LineMode.names (m : LineMode) (a : AlarmState) : Bool :=
  match m with
  | .active => a.active
  | .unack => a == .raised || a == .returned
  | .any => a == .raised || a == .accepted || a == .returned

/-- The ack required setting of a kind (R106). -/
def PolicyItem.required (p : PolicyItem) (k : AlarmKind) : Bool :=
  match k with
  | .warn => p.warn
  | .alarm => p.alarm
  | .exposure => p.exposure
  | .data => p.data

/-- Whether a rule selects an entry (R112). -/
def OutputItem.selects (r : OutputItem) (i : Fin 32) (e : AlarmEntry) : Bool :=
  r.channels.getLsbD (i.val / 4) && r.kinds.getLsbD (i.val % 4) && (r.includeTest || !e.mark)

/-- Whether a line is asserted: a selected entry is in a state its mode names (R112). -/
def OutputItem.asserts (r : OutputItem) (alarms : Tab 32 AlarmEntry) : Bool :=
  (List.finRange 32).any fun i => r.selects i (nth alarms i) && r.mode.names (nth alarms i).state

/-- A line evaluated under its rule, its pin set from the polarity (R113). -/
def evaluateLine (r : OutputItem) (alarms : Tab 32 AlarmEntry) : Line :=
  let on := r.asserts alarms
  { asserted := some on, pin := on != r.failsafe }

/-- A line evaluated again at a change of an entry (R114); until the first second tick after power-on the pins stay
low (R113). -/
def refreshLine (r : OutputItem) (alarms : Tab 32 AlarmEntry) (l : Line) : Line :=
  if l.asserted.isNone then l else evaluateLine r alarms

/-! ## Links -/

/-- The zeroing indication (R14). -/
def Link.zeroing (l : Link) : Bool :=
  match l.word with
  | some w => !w.stale && wordZeroing w.bits
  | none => false

/-- A link whose frames are requested (R1). -/
def LinkState.requested (s : LinkState) : Bool := s == .seeking || s == .locked || s == .slipped

/-- Sample validity: the conditions of R13, judged after the transition the frame causes under R4 or R5. -/
def sampleValid (cls : FrameClass) (frame : BitVec 32) (l : Link) : Bool :=
  cls == .good && !frameOvr frame && l.state == .locked &&
    match l.word with
    | some w => !w.stale && !wordFault w.bits && !wordZeroing w.bits
    | none => false

/-! ## Notices (R175): each joins a detail and sets the category's flag -/

def Notices.addAlarm (n : Notices) (channels : BitVec 8) : Notices :=
  { n with flags := n.flags ||| 0x01#8, alarm := n.alarm ||| channels }

def Notices.addHalf (n : Notices) (r : Fin 9) : Notices :=
  { n with flags := n.flags ||| 0x02#8, half := n.half ||| bitOf 16 r }

def Notices.addOverwrite (n : Notices) (r : Fin 9) : Notices :=
  { n with flags := n.flags ||| 0x02#8, overwrite := n.overwrite ||| bitOf 16 r }

def Notices.addStorm (n : Notices) : Notices := { n with flags := n.flags ||| 0x04#8 }

/-- SETTINGS, with detail POSTED bit 0, WITHDRAWN bit 1, EXPIRED bit 2 or COMMITTED bit 3. -/
def Notices.addSettings (n : Notices) (cause : Fin 4) : Notices :=
  { n with flags := n.flags ||| 0x08#8, settings := n.settings ||| bitOf 8 cause }

def Notices.addLink (n : Notices) (input : Fin 8) : Notices :=
  { n with flags := n.flags ||| 0x10#8, link := n.link ||| bitOf 8 input }

/-- TEST, with detail STARTED bit 0 or ENDED bit 1. -/
def Notices.addTest (n : Notices) (ended : Bool) : Notices :=
  { n with flags := n.flags ||| 0x20#8, test := n.test ||| (if ended then 2#8 else 1#8) }

/-- REPLY, with detail READY bit 0, DISCARDED bit 1 or CLEARED bit 2. -/
def Notices.addReply (n : Notices) (cause : Fin 3) : Notices :=
  { n with flags := n.flags ||| 0x40#8, reply := n.reply ||| bitOf 8 cause }

/-- A port's bit in the TIME detail: A bit 0, B bit 1, C bit 2. -/
def portBit (p : PortId) : BitVec 8 :=
  match p with
  | .a => 1
  | .b => 2
  | .c => 4

def Notices.addTime (n : Notices) (sender : PortId) : Notices :=
  { n with flags := n.flags ||| 0x80#8, time := n.time ||| portBit sender }

/-- The raised categories: the flags kept where the mask enables them (R176). -/
def Port.raised (p : Port) : BitVec 8 := p.notices.flags &&& p.mask

/-- Whether the port's ATTN output is active, driven low (R176). -/
def Port.attnActive (p : Port) : Bool := p.raised != 0#8

/-! ## The half-unread mark -/

/-- The mark after a judgement, and whether the judgement sets a HALF notice (R142). -/
def halfUnread (size unread : Nat) (armed : Bool) : Bool × Bool :=
  if size = 0 then (true, false)
  else if size ≤ 2 * unread then (false, armed)
  else (true, false)

end Sys2Proof.Machine
end

