-- ==== Sys2Proof/Machine/Ops.lean ====
section
/-! DEFINITION. The shared operations: the ports, a step being carried out and the records it hands over, the write
queue, alarm entries, open intervals, link transitions, start modes and the end of a test, store clears, and the end
of a transfer. -/

namespace Sys2Proof.Machine

/-! ## Ports -/

def Ports.get (ps : Ports) (p : PortId) : Port :=
  match p with
  | .a => ps.a
  | .b => ps.b
  | .c => ps.c

def Ports.upd (ps : Ports) (p : PortId) (f : Port → Port) : Ports :=
  match p with
  | .a => { ps with a := f ps.a }
  | .b => { ps with b := f ps.b }
  | .c => { ps with c := f ps.c }

/-- Every port changed by `f`. -/
def Ports.all (ps : Ports) (f : Port → Port) : Ports := { a := f ps.a, b := f ps.b, c := f ps.c }

/-- Every port but one changed by `f`. -/
def Ports.others (ps : Ports) (p : PortId) (f : Port → Port) : Ports :=
  match p with
  | .a => { ps with b := f ps.b, c := f ps.c }
  | .b => { ps with a := f ps.a, c := f ps.c }
  | .c => { ps with a := f ps.a, b := f ps.b }

def State.port (s : State) (p : PortId) : Port := s.ports.get p

def State.updPort (s : State) (p : PortId) (f : Port → Port) : State := { s with ports := s.ports.upd p f }

/-- A notice set on all three ports (R175). -/
def State.notifyAll (s : State) (f : Notices → Notices) : State :=
  { s with ports := s.ports.all fun q => { q with notices := f q.notices } }

/-- A notice set on the two ports other than one. -/
def State.notifyOthers (s : State) (p : PortId) (f : Notices → Notices) : State :=
  { s with ports := s.ports.others p fun q => { q with notices := f q.notices } }

/-- A notice set on one port. -/
def State.notify (s : State) (p : PortId) (f : Notices → Notices) : State :=
  s.updPort p fun q => { q with notices := f q.notices }

/-! ## A step being carried out, and the records it hands over -/

/-- Which block hands a record over, and for which channel or input. -/
inductive Sender where
  | link (n : Fin 8)
  | alarm (c : Fin 8)
  | interval (c : Fin 8)
  | acknowledgement
  | storm
  | test
  | proposal
  | time
  deriving DecidableEq, Repr

/-- A record handed to the Record Writer. -/
structure Handed where
  sender : Sender
  queued : QueuedRecord
  deriving DecidableEq, Repr

/-- A step being carried out: the state it has reached, and the records it has handed over and not yet queued. -/
structure Work where
  st : State
  out : List Handed
  deriving DecidableEq, Repr

/-- The beginning of a step. -/
def Work.start (s : State) : Work := { st := s, out := [] }

def Work.map (w : Work) (f : State → State) : Work := { w with st := f w.st }

/-- One record handed over. -/
def Work.hand (w : Work) (sender : Sender) (queued : QueuedRecord) : Work :=
  { w with out := w.out ++ [{ sender, queued }] }

/-- An event handed over, stamped with the station time standing (R129). -/
def Work.event (w : Work) (sender : Sender) (source : EventSource) (body : EventBody) : Work :=
  w.hand sender { ring := 8, record := .event { time := w.st.timebase.time, source, body, loss := 0 } }

/-- Every channel, input or line in turn. -/
def Work.forEach {n : Nat} (w : Work) (f : Fin n → Work → Work) : Work :=
  (List.finRange n).foldl (fun w i => f i w) w

/-! ## The write queue (R131, R132) -/

/-- The most records the write queue holds (R131). -/
def queueSize : Nat := 64

/-- A record handed to the Record Writer: dropped and counted when the queue is full; an event that joins carries the
loss count and returns it to 0 (R132). -/
def Store.join (st : Store) (q : QueuedRecord) : Store :=
  if queueSize ≤ st.queue.length then { st with loss := satSucc 65535 st.loss }
  else match q.record with
    | .event e => { st with queue := st.queue ++ [{ q with record := .event { e with loss := st.loss } }], loss := 0 }
    | .interval _ => { st with queue := st.queue ++ [q] }

/-- The first record of each sender, in the order they were handed over. -/
def firstOfEach (l : List Handed) : List Handed :=
  l.foldl (fun acc h => if acc.any (fun x => x.sender == h.sender) then acc else acc ++ [h]) []

/-- The order in which records handed over at one moment reach the queue (R131): those of one sender in their own
order, those of different senders in an order left free (log 5). -/
def arrivalOrder : Nat → Nat → List Handed → List QueuedRecord
  | 0, _, l => l.map (·.queued)
  | fuel + 1, seed, l =>
    match l with
    | [] => []
    | h :: t =>
      if t.all (fun x => x.sender == h.sender) then l.map (·.queued)
      else
        let firsts := firstOfEach l
        let c := firsts.getD (Config.pick seed % firsts.length) h
        c.queued :: arrivalOrder fuel (seed + 1) (l.eraseP fun x => x.sender == c.sender)

/-- The end of a step, or of a stage of one: the records handed over join the queue, with no store access ending among
them (log 32). -/
def Work.join (w : Work) : State :=
  { w.st with
    store := (arrivalOrder w.out.length w.st.free w.out).foldl Store.join w.st.store
    free := w.st.free + w.out.length }

/-- A HISTORY_CLEARED event placed at the head of the queue, ahead of the records `back` put back there. The newest
records make room and are counted first, and the event carries the loss count (R132, R137). -/
def Store.placeCleared (st : Store) (e : EventRecord) (back : List QueuedRecord) : Store :=
  let q := back ++ st.queue
  let loss := min 65535 (st.loss + (q.length - (queueSize - 1)))
  { st with queue := { ring := 8, record := .event { e with loss } } :: q.take (queueSize - 1), loss := 0 }

/-! ## Alarm entries (Chapter 6) -/

/-- A raise (R100). -/
def AlarmEntry.raise (e : AlarmEntry) (stamp : Time) (value : Nat) (inTest : Bool) : AlarmEntry :=
  { e with state := .raised, raises := satSucc 255 e.raises, lastRaise := some stamp, lastChange := some stamp,
           peak := value, ackPort := none, mark := inTest }

/-- A fall (R101). -/
def AlarmEntry.fall (e : AlarmEntry) (stamp : Time) (required : Bool) : AlarmEntry :=
  { e with state := if e.state = .raised ∧ required then .returned else .normal, lastChange := some stamp }

/-- An acknowledgement of a pending entry (R107). -/
def AlarmEntry.acknowledge (e : AlarmEntry) (stamp : Time) (p : PortId) : AlarmEntry :=
  { e with state := if e.state = .raised then .accepted else .normal, lastChange := some stamp, ackPort := some p }

/-- The reset of an entry by a MAP commit (R103). -/
def AlarmEntry.byReset (e : AlarmEntry) (stamp : Time) : AlarmEntry :=
  { e with state := .normal, lastChange := some stamp, ackPort := none }

/-- A change of an entry's state: the ALARM event and the ALARM notice with the channel's bit (R99, R110). -/
def Work.moveEntry (w : Work) (sender : Sender) (i : Fin 32) (e : AlarmEntry) (value : Nat) (cause : AlarmCause) :
    Work :=
  let old := nth w.st.alarms i
  let w := w.map fun s => { s.notifyAll (·.addAlarm (bitOf 8 (channelOf i))) with alarms := put s.alarms i e }
  w.event sender (.channel (channelOf i)) (.alarm i old.state e.state value cause)

/-- Every line evaluated again after entries have changed (R114). -/
def State.refreshLines (s : State) : State :=
  { s with lines := tab fun l => refreshLine (nth s.settings.output l) s.alarms (nth s.lines l) }

/-- A change of one condition of a channel, taken by its entry (R100, R101). -/
def Work.handCondition (w : Work) (c : Fin 8) (k : AlarmKind) (was now : Bool) (value : Nat) (inTest : Bool) : Work :=
  let i := entryOf c k
  let e := nth w.st.alarms i
  let stamp := w.st.timebase.time
  if was = now then w
  else if now then
    if e.state.active then w else w.moveEntry (.alarm c) i (e.raise stamp value inTest) value .condition
  else
    if e.state.active then
      w.moveEntry (.alarm c) i (e.fall stamp (w.st.settings.policy.required k)) value .condition
    else w

/-- The changes between a channel's old record and its new one, handed to the Alarm Table in kind order (R74, R99). -/
def Work.handChanges (w : Work) (c : Fin 8) (old new : Channel) : Work :=
  alarmKinds.foldl
    (fun w k => w.handCondition c k (old.condition k) (new.condition k) (new.value k) (new.state == .test)) w

/-- The peak of an active entry follows the value handed with a condition that stays true (R102). -/
def State.raisePeak (s : State) (c : Fin 8) (k : AlarmKind) (value : Nat) : State :=
  { s with alarms := upd s.alarms (entryOf c k) fun e =>
      if e.state.active then { e with peak := max e.peak value } else e }

/-! ## Open intervals (Section 7.2) -/

/-- The flag bits of an interval record (R196): TIME_SET is bit 8, NO_DATA bit 9. -/
def Interval.recordFlags (v : Interval) (timeSet : Bool) : BitVec 16 :=
  v.flags ||| (if timeSet || v.timeSet then 0x0100#16 else 0) ||| (if v.dataSeconds = 0 then 0x0200#16 else 0)

/-- The interval record made from an open interval (R127). -/
def Interval.toRecord (v : Interval) (c : Fin 8) (timeSet : Bool) : IntervalRecord where
  channel := c
  start := (v.first.map (·.2)).getD 0
  length := v.length
  dataSeconds := v.dataSeconds
  meanD := if v.dataSeconds = 0 then none else some (roundDiv v.sumD v.dataSeconds)
  dRange := if v.dataSeconds = 0 then none else v.dRange
  peakE := v.peakE
  b := (v.last.map (·.1)).getD 0
  x := (v.last.map (·.2)).getD 0
  flags := v.recordFlags timeSet

/-- The close of a channel's open interval (R126, R127): a record when it holds a second and its ring has slots
(R120), and a new empty interval. -/
def Work.closeInterval (w : Work) (c : Fin 8) (timeSet : Bool) : Work :=
  match nth w.st.intervals c with
  | none => w
  | some v =>
    let w' := w.map fun s => { s with intervals := put s.intervals c (some .opened) }
    if v.length = 0 ∨ w.st.settings.ringSize c.castSucc = 0 then w'
    else w'.hand (.interval c) { ring := c.castSucc, record := .interval (v.toRecord c timeSet) }

/-- The storm class of a second (R125). -/
def StormState.class (st : StormState) : StormClass :=
  match st with
  | .quiet => .quiet
  | .storm | .tail => .storm

/-- The flags a second sets in its interval (R123, step 6), in the bits of R196. -/
def secondFlags (st : StormState) (c : Channel) : BitVec 16 :=
  (if st = .quiet then 0 else 0x01#16) ||| (if c.state = .test then 0x02#16 else 0) |||
  (if c.state = .stale then 0x04#16 else 0) ||| (if c.state = .learning then 0x08#16 else 0) |||
  (if c.conds.excursion then 0x10#16 else 0) ||| (if c.conds.warn then 0x20#16 else 0) |||
  (if c.conds.alarm then 0x40#16 else 0) ||| (if c.conds.exposure then 0x80#16 else 0)

/-- A second added to an interval (R123, steps 1 to 6). -/
def Interval.add (v : Interval) (stamp : Time) (st : StormState) (c : Channel) (d : Option Int) : Interval where
  first := some (v.first.getD (st.class, stamp))
  length := v.length + 1
  dataSeconds := v.dataSeconds + (if d.isSome then 1 else 0)
  sumD := v.sumD + d.getD 0
  dRange :=
    match d, v.dRange with
    | some d, some (lo, hi) => some (min lo d, max hi d)
    | some d, none => some (d, d)
    | none, r => r
  peakE := max v.peakE c.e
  last := some (c.b, c.x)
  flags := v.flags ||| secondFlags st c
  timeSet := v.timeSet

/-- The length in force for an interval's class (R124). -/
def RecordingItem.lengthFor (r : RecordingItem) (v : Interval) : Nat :=
  match v.first with
  | some (.storm, _) => r.storm
  | _ => r.normal

/-- A channel's second taken by the Record Writer (R123): the class change of R125 first, the second, then the
boundary test of R124 against the station time after the tick's increase. -/
def Work.addSecond (w : Work) (c : Fin 8) (d : Option Int) : Work :=
  match nth w.st.intervals c with
  | none => w
  | some v =>
    let st := w.st.storm.state
    let stamp := w.st.timebase.time
    let w := if v.first.any (fun f => f.1 ≠ st.class) then w.closeInterval c false else w
    let v := ((nth w.st.intervals c).getD .opened).add stamp st (nth w.st.channels c) d
    let w := w.map fun s => { s with intervals := put s.intervals c (some v) }
    if (stamp + 1).toNat % w.st.settings.recording.lengthFor v = 0 then w.closeInterval c false else w

/-! ## Start modes, snapshots and the end of a test -/

/-- Applying the start mode to a channel (R54). -/
def Channel.applyStart (c : Channel) (m : StartMode) : Channel :=
  match m with
  | .zero => { c with bAcc := 0, state := .armed, left := .armed, learned := 0, absence := 0 }
  | .learn =>
    { c with bAcc := 0, eAcc := 0, x := 0, conds := .none, state := .learning, left := .learning, learned := 0,
             absence := 0 }

/-- Applying the start mode to a snapshot, in place of the channel (R47, R54). -/
def Snapshot.applyStart (n : Snapshot) (m : StartMode) : Snapshot :=
  match m with
  | .zero => { n with learning := false, learned := 0 }
  | .learn => { eAcc := 0, x := 0, conds := .none, learning := true, learned := 0 }

/-- The snapshot of zeroed values (R47). -/
def Snapshot.zeroed : Snapshot := { eAcc := 0, x := 0, conds := .none, learning := false, learned := 0 }

/-- The snapshot saved of a channel (R39, step 5). -/
def Channel.snapshot (c : Channel) : Snapshot :=
  { eAcc := c.eAcc, x := c.x, conds := c.conds, learning := c.isLearning, learned := c.learned }

/-- A channel entering TEST (R39, R57). -/
def Channel.enterTest (c : Channel) : Channel := { c with state := .test, absence := 0 }

/-- A channel restored from its snapshot (R46, steps 1 to 3). -/
def Channel.restore (c : Channel) (n : Snapshot) : Channel :=
  { c with eAcc := n.eAcc, x := n.x, conds := n.conds, state := if n.learning then .learning else .armed,
           learned := if n.learning then n.learned else c.learned, absence := 0 }

/-- A channel record replaced, its changed conditions handed to the Alarm Table. -/
def Work.setChannel (w : Work) (c : Fin 8) (new : Channel) : Work :=
  let old := nth w.st.channels c
  (w.map fun s => { s with channels := put s.channels c new }).handChanges c old new

/-- One channel at the end of a test (R46): restored, its snapshot discarded and its interval closed (R126). -/
def Work.endTestOn (c : Fin 8) (w : Work) : Work :=
  match nth w.st.test.snapshots c with
  | none => w
  | some n =>
    let w := w.setChannel c ((nth w.st.channels c).restore n)
    (w.map fun s => { s with test := { s.test with snapshots := put s.test.snapshots c none } }).closeInterval c false

/-- The end of the running test (R46); nothing when none runs. The remaining duration, which R46 does not name among
what is discarded, goes to 0 (log 30). -/
def Work.endTest (w : Work) (cause : TestCause) (source : EventSource) : Work :=
  match w.st.test.plan with
  | none => w
  | some plan =>
    let w := w.forEach Work.endTestOn
    let w := w.event .test source (.test true plan.inputs plan.form cause)
    w.map fun s => { s.notifyAll (·.addTest true) with test := .reset }.refreshLines

/-! ## The Link Unit -/

/-- A frame in flight across a transition: it was not requested in the state entered (R6). -/
def InFlight.outlived (f : InFlight) : InFlight := { f with current := false }

/-- A link in the state it enters, with the counts of that state set (R3; the good cycles count is "cleared on entry"
to LOCKED by the table of Section 1.7), and no frame of the cycle in progress counted for it (R6). The good cycles
count stands in LOST and OFF, and the slip cycles count after SLIPPED, as no rule clears them then (log 31). -/
def Link.enter (l : Link) (dest : LinkState) : Link :=
  let l := { l with state := dest, cycleGood := 0, inFlight := l.inFlight.map InFlight.outlived }
  match dest with
  | .locked => { l with badRun := 0, badSeen := false, goodCycles := 0 }
  | .seeking => { l with badRun := 0, badSeen := false, goodCycles := 0 }
  | .slipped => { l with goodCycles := 0, slipCycles := 0 }
  | .lost | .off =>
    { l with badRun := 0, badSeen := false, inFlight := none, lck := false, lsyncMark := false, lsyncBit := false }

/-- What a link loses when it leaves LOCKED: its head word, its counter reference and its command (R12, R18). -/
def Link.leaveLocked (l : Link) : Link :=
  { l with word := none, counterRef := none, command := none, sending := false }

/-- A transition of a link (R3): the LINK event and notice, and, where a loaded command is dropped, the HEAD_CMD
DROPPED event after them (R18). -/
def Work.transition (w : Work) (n : Fin 8) (dest : LinkState) (cause : LinkCause) : Work :=
  let l := nth w.st.links n
  let l' := (if l.state = .locked then l.leaveLocked else l).enter dest
  let w := w.map fun s => { s.notifyAll (·.addLink n) with links := put s.links n l' }
  let w := w.event (.link n) (.input n) (.link n l.state dest cause)
  match l.state, l.command with
  | .locked, some c => w.event (.link n) (.input n) (.headCmd n c true)
  | _, _ => w

/-- Whether an agreed proposal is to change the channel's source record at the next second tick: the reset that it
makes there is then the one reset of the channel, and an end of zeroing adds nothing to it (R79, R116; log 26). -/
def State.remapAgreed (s : State) (c : Fin 8) : Bool :=
  match s.proposal with
  | .committing _ _ items => decide (nth (s.settings.applyAll items).map c ≠ nth s.settings.map c)
  | .empty | .draft _ _ _ | .posted _ _ _ => false

/-- The end of zeroing on one channel that uses the input (R78), or on its snapshot in TEST (R48). The changes of its
conditions are handed at once, as R74 and R99 say of an end of zeroing on its own (log 26). -/
def Work.zeroedChannel (w : Work) (c : Fin 8) : Work :=
  let ch := nth w.st.channels c
  let mode := (nth w.st.settings.analysis c).startMode
  match ch.state with
  | .disabled => w
  | .learning | .armed | .stale => w.setChannel c (ch.applyStart mode)
  | .test =>
    w.map fun s =>
      { s with
        channels := put s.channels c { ch with bAcc := 0 }
        test := { s.test with snapshots := upd s.test.snapshots c (·.map (·.applyStart mode)) } }

/-- Whether an end of zeroing on an input resets a channel at once: the channel uses the input (R78), and it is in TEST
(R48), or no MAP commit is already agreed to reset it at the next second tick (R79, R116; log 26). -/
def State.zeroesNow (s : State) (n c : Fin 8) : Bool :=
  (s.settings.users n).getLsbD c.val && ((nth s.channels c).state == .test || !s.remapAgreed c)

/-- The end of zeroing signalled for an input (R14). ZERO_END names every channel that uses it. -/
def Work.endOfZeroing (w : Work) (n : Fin 8) : Work :=
  let s := w.st
  let w := w.forEach fun c w => if s.zeroesNow n c then w.zeroedChannel c else w
  (w.event (.link n) (.input n) (.zeroEnd n (s.settings.users n))).map State.refreshLines

/-! ## Ports and the History Store (Chapters 7 and 8) -/

/-- The half-unread mark of a port for a ring, judged (R142). -/
def Port.judgeHalf (q : Port) (size next : Nat) (r : Fin 9) : Port :=
  let cu := nth q.cursors r
  let judged := halfUnread size (next - cu.cursor) cu.armed
  { q with cursors := put q.cursors r { cu with armed := judged.1 }
           notices := if judged.2 then q.notices.addHalf r else q.notices }

/-- A cursor moved, and its half-unread mark judged (R142). -/
def State.moveCursor (s : State) (p : PortId) (r : Fin 9) (f : Cursor → Cursor) : State :=
  s.updPort p fun q =>
    ({ q with cursors := upd q.cursors r f }).judgeHalf (s.settings.ringSize r) (nth s.store.rings r).next r

/-- The copy in progress of a port that leaves WORKING runs to its end and its record is thrown away (R135). -/
def Access.abandon (a : Access) (p : PortId) : Access :=
  match a with
  | .copy q r => if q = p then .copy q none else .copy q r
  | .idle => .idle
  | .write q => .write q

/-- The port's FETCH thrown away and its discard timer stopped. -/
def State.dropFetch (s : State) (p : PortId) : State :=
  { s.updPort p (fun q => { q with slot := .idle, timer := 0 }) with
    store := { s.store with access := s.store.access.abandon p } }

/-- A clear reaching a port in WORKING or READY (R154). -/
def State.clearFetch (s : State) (p : PortId) : State :=
  match (s.port p).slot with
  | .idle => s
  | .working _ | .ready _ =>
    (s.dropFetch p).updPort p fun q => { q with discarded := true, notices := q.notices.addReply 2 }

/-- The ring a port's FETCH names. -/
def Slot.ring (sl : Slot) : Option (Fin 9) :=
  match sl with
  | .idle => none
  | .working f => some f.ring
  | .ready b => some b.ring

/-- The three ports in turn. -/
def State.forPorts (s : State) (f : State → PortId → State) : State := f (f (f s .a) .b) .c

/-- Every ring emptied, its numbers going on from where it stood (R137, step 1). -/
def Ring.emptied (r : Ring) : Ring := { oldest := r.next, next := r.next, records := [] }

/-- Every cursor of a port at its ring's next, every skip count 0, and the marks judged, which arms them (R137 step 2,
R145). -/
def Port.clearCursors (q : Port) (rings : Tab 9 Ring) : Port :=
  { q with cursors := tab fun r => { cursor := (nth rings r).next, skip := 0, armed := true } }

/-- A clear of the whole store (R137, steps 1 to 5). -/
def State.clearStore (s : State) (cause : ClearCause) : State :=
  let rings : Tab 9 Ring := tab fun r => (nth s.store.rings r).emptied
  let s := { s with store := { s.store with rings }, ports := s.ports.all (·.clearCursors rings) }
  let s := s.forPorts State.clearFetch
  let back := match s.store.access with
    | .write q => [q]
    | .idle | .copy _ _ => []
  let access := match s.store.access with
    | .write _ => .idle
    | a => a
  let e : EventRecord :=
    { time := s.timebase.time, source := .station, body := .historyCleared cause 0x01FF#16, loss := 0 }
  { s with store := ({ s.store with access }).placeCleared e back }

/-- A sequence wrap of one ring (R121, R145, R154): the ring cleared to heads of 1, every port's place in it set to 1,
its FETCHes discarded, and a HISTORY_CLEARED event at the head of the queue. -/
def State.wrapRing (s : State) (r : Fin 9) : State :=
  let s := { s with
    store := { s.store with rings := put s.store.rings r { oldest := 1, next := 1, records := [] } }
    ports := s.ports.all fun q => { q with cursors := put q.cursors r { cursor := 1, skip := 0, armed := true } } }
  let s := s.forPorts fun s p => if (s.port p).slot.ring = some r then s.clearFetch p else s
  let e : EventRecord :=
    { time := s.timebase.time, source := .station, body := .historyCleared .wrap (bitOf 16 r), loss := 0 }
  { s with store := s.store.placeCleared e [] }

/-- A port told of a write into a ring (R133, R141, R142): a cursor at the removed record is pushed on, counts a skip
and gets an OVERWRITE notice, and then the half-unread mark is judged. -/
def Port.written (q : Port) (r : Fin 9) (removed : Option Nat) (size next : Nat) : Port :=
  let q := if removed = some (nth q.cursors r).cursor then
      { q with cursors := upd q.cursors r fun cu =>
                 { cu with cursor := cu.cursor + 1, skip := satSucc 65535 cu.skip }
               notices := q.notices.addOverwrite r }
    else q
  q.judgeHalf size next r

/-- A ring after a write (R133, steps 1 and 2), with the sequence number removed. -/
def Ring.write (r : Ring) (size : Nat) (record : Record) : Ring × Option Nat :=
  let full := r.next - r.oldest = size
  let r' : Ring := if full then { r with oldest := r.oldest + 1, records := r.records.tail } else r
  ({ r' with next := r'.next + 1, records := r'.records ++ [{ seq := r'.next, record }] },
   if full then some r.oldest else none)

/-- The end of a write (R133). -/
def State.finishWrite (s : State) (q : QueuedRecord) : State :=
  let size := s.settings.ringSize q.ring
  if size = 0 then s
  else
    let (ring, removed) := (nth s.store.rings q.ring).write size q.record
    { s with
      store := { s.store with rings := put s.store.rings q.ring ring }
      ports := s.ports.all fun p => p.written q.ring removed size ring.next }

/-- The length of a discard timer run, in REFCLK periods (R149). -/
def discardPeriods (short : Bool) : Nat := if short then 512000 else 4096000

/-- Preparation finishes: the slot goes to READY, the discard timer starts and the REPLY notice READY is set (R149). -/
def State.finishFetch (s : State) (p : PortId) (f : Fetch) : State :=
  s.updPort p fun q =>
    { q with
      slot := .ready { ring := f.ring, start := f.start, gap := f.gap, oldest := f.atGrant.1, next := f.atGrant.2,
                       records := f.held }
      timer := discardPeriods q.shortDiscard
      notices := q.notices.addReply 0 }

/-! ## The end of a transfer (R166) -/

/-- The SOLO strap as it stands at this moment, tied or not (R186; log 9). -/
def State.strapAt (s : State) (solo : Bool) : State := { s with solo }

/-- A number clamped to `lo..hi`. -/
def clampNat (lo hi v : Nat) : Nat := if v < lo then lo else if hi < v then hi else v

/-- The delivery of the due reply: a COLLECT reply moves the port's cursor (R151). -/
def State.deliver (s : State) (p : PortId) : State :=
  match (s.port p).due.body with
  | .batch b _ =>
    let ring := nth s.store.rings b.ring
    s.moveCursor p b.ring fun cu =>
      { cu with
        cursor := if b.records.isEmpty then cu.cursor
          else clampNat ring.oldest ring.next (max cu.cursor (b.start + b.records.length))
        skip := 0 }
  | _ => s

/-- The end of a port's transfer, in the order of R166: the due reply is delivered, the request is taken, and its reply
becomes the due reply. A transfer begun before a reset delivers nothing and is not judged (R172). -/
def State.endTransfer (s : State) (p : PortId) (take : State → State × Reply) : State :=
  match (s.port p).transfer with
  | .ignored => s.updPort p fun q => { q with transfer := .idle }
  | .idle | .active _ =>
    let (t, reply) := take (s.deliver p)
    t.updPort p fun q => { q with transfer := .idle, due := reply }

/-- A reply with no body. -/
def bare (status : Status) (code : Byte) : Reply := { status, code, body := .empty }

end Sys2Proof.Machine
end

