-- ==== Sys2Proof/Machine/Controls.lean ====
section
/-! DEFINITION. The requests that act on shared state outside the settings: ACKNOWLEDGE (R107, R108), SET TIME (R24),
SEND HEAD COMMAND (R15) and STOP TEST (R45). -/

namespace Sys2Proof.Machine

/-! ## ACKNOWLEDGE -/

/-- The entries an ACKNOWLEDGE names: its mask under selector 0, all under selector 1; none is BAD_ARGUMENT (R107,
R195). -/
def namedEntries (selector : Byte) (mask : BitVec 32) : Option (BitVec 32) :=
  if selector = 1#8 then some 0xFFFFFFFF#32
  else if selector = 0#8 ∧ mask ≠ 0#32 then some mask
  else none

/-- An unacknowledged entry (Section 6.1). -/
def AlarmState.pending (a : AlarmState) : Bool := a == .raised || a == .returned

/-- The named entries that an acknowledgement changes (R107). -/
def State.acknowledgeable (s : State) (named : BitVec 32) : BitVec 32 :=
  maskOf 32 fun i : Fin 32 => named.getLsbD i.val && (nth s.alarms i).state.pending

/-- One entry acknowledged (R107, R108). -/
def Work.acknowledge (p : PortId) (changed : BitVec 32) (i : Fin 32) (w : Work) : Work :=
  if changed.getLsbD i.val then
    let e := nth w.st.alarms i
    w.moveEntry .acknowledgement i (e.acknowledge w.st.timebase.time p) e.peak .acknowledge
  else w

/-- How many entries a mask names. -/
def entryCount (m : BitVec 32) : Nat := ((List.range 32).filter fun i => m.getLsbD i).length

/-- What ACKNOWLEDGE does when it is taken (R107, R108). -/
def State.takeAcknowledge (s : State) (p : PortId) (selector : Byte) (mask : BitVec 32) : State × Reply :=
  match namedEntries selector mask with
  | none => (s, bare .badArgument 7)
  | some named =>
    let changed := s.acknowledgeable named
    if changed = 0#32 then (s, { status := .notPending, code := 7, body := .acknowledged 0 0#32 })
    else
      let w := (Work.start s).forEach (Work.acknowledge p changed)
      let w := w.event .acknowledgement (.port p) (.ack p (entryCount changed) changed)
      (w.join.refreshLines, { status := .done, code := 7, body := .acknowledged (entryCount changed) changed })

/-- ACKNOWLEDGE (R107). -/
def execAcknowledge (p : PortId) (selector : Byte) (mask : BitVec 32) (s : State) :
    Host.Outcome State Fault Refusal :=
  .next (s.endTransfer p fun s => s.takeAcknowledge p selector mask)

/-! ## SET TIME -/

/-- What SET TIME does when it is taken (R24). -/
def State.takeSetTime (s : State) (p : PortId) (time : Time) : State × Reply :=
  let s' := { s with timebase := { s.timebase with time } }.notifyOthers p (·.addTime p)
  let w := (Work.start s').event .time (.port p) (.time s.timebase.time time p)
  ((w.forEach fun c w => w.closeInterval c true).join, bare .done 8)

/-- SET TIME (R24). -/
def execSetTime (p : PortId) (time : BitVec 32) (s : State) : Host.Outcome State Fault Refusal :=
  .next (s.endTransfer p fun s => s.takeSetTime p time)

/-! ## SEND HEAD COMMAND -/

/-- The head command of a code; NONE and every other code name none (R15). -/
def headCommandOf (code : Byte) : Option HeadCommand :=
  if code = 1#8 then some .zero else if code = 2#8 then some .restart else none

/-- Whether a ZERO command is refused (R15): a channel using the input is in EXCURSION, or a storm or its tail
stands. -/
def State.zeroRefused (s : State) (n : Fin 8) : Bool :=
  s.storm.state != .quiet ||
    (List.finRange 8).any fun c => (nth s.settings.map c).uses n && (nth s.channels c).conds.excursion

/-- What SEND HEAD COMMAND does when it is taken (R15), its conditions in order. -/
def State.takeHeadCommand (s : State) (input code : Byte) : State × Reply :=
  match nameOf 8 input, headCommandOf code with
  | some n, some command =>
    let l := nth s.links n
    if l.command.isSome then (s, bare .busy 9)
    else if l.state ≠ .locked then (s, bare .refused 9)
    else if command = .zero ∧ s.zeroRefused n then (s, bare .refused 9)
    else ({ s with links := put s.links n { l with command := some command, sending := false } }, bare .done 9)
  | _, _ => (s, bare .badArgument 9)

/-- SEND HEAD COMMAND (R15). -/
def execSendHeadCommand (p : PortId) (input code : Byte) (s : State) : Host.Outcome State Fault Refusal :=
  .next (s.endTransfer p fun s => s.takeHeadCommand input code)

/-! ## STOP TEST -/

/-- What STOP TEST does when it is taken (R45). -/
def State.takeStopTest (s : State) (p : PortId) : State × Reply :=
  match s.test.plan with
  | some _ => (((Work.start s).endTest .stopped (.port p)).join, bare .done 10)
  | none => (s, bare .refused 10)

/-- STOP TEST (R45). -/
def execStopTest (p : PortId) (s : State) : Host.Outcome State Fault Refusal :=
  .next (s.endTransfer p fun s => s.takeStopTest p)

end Sys2Proof.Machine
end

