-- ==== Sys2Proof/Machine/History.lean ====
section
/-! DEFINITION. The History Store's accesses and the reading of history: STORE_GRANT, WRITE_COMPLETE, COPY_COMPLETE,
DISCARD_TIMER_EXPIRY, and the requests SEEK, REWIND, FETCH, COLLECT and CANCEL (Chapters 7 and 8). -/

namespace Sys2Proof.Machine

/-! ## The arbiter (R135) -/

/-- The ports in the order the round-robin looks at them, from the one after its position (R135). -/
def portsAfter (p : PortId) : List PortId :=
  match p with
  | .a => [.b, .c, .a]
  | .b => [.c, .a, .b]
  | .c => [.a, .b, .c]

/-- The FETCH of a slot in WORKING. -/
def Slot.fetch (sl : Slot) : Option Fetch :=
  match sl with
  | .working f => some f
  | .idle | .ready _ => none

/-- The first port in WORKING after the round-robin position, with its FETCH (R135). -/
def State.nextWorking (s : State) : Option (PortId × Fetch) :=
  (portsAfter s.store.turn).findSome? fun p => (s.port p).slot.fetch.map fun f => (p, f)

/-- The top of a ring's sequence numbers (R119). -/
def topSequence : Nat := 4294967295

/-- A grant to the writer (R133): the head record leaves the queue. A record for a ring of size 0 ends the write at once;
a ring whose numbers are used up is wrapped first (R121). -/
def State.grantWrite (s : State) (q : QueuedRecord) (rest : List QueuedRecord) : State :=
  let s := { s with store := { s.store with queue := rest } }
  if s.settings.ringSize q.ring = 0 then s
  else
    let s := if topSequence ≤ (nth s.store.rings q.ring).next then s.wrapRing q.ring else s
    { s with store := { s.store with access := .write q } }

/-- A FETCH as a grant finds the ring: restarted at oldest, with the GAP flag, when its wanted record is gone (R148,
step 1), and the ring's heads noted (R149). -/
def Fetch.granted (f : Fetch) (r : Ring) : Fetch :=
  if f.wanted < r.oldest then
    { f with held := [], wanted := r.oldest, start := r.oldest, gap := true, atGrant := (r.oldest, r.next) }
  else { f with atGrant := (r.oldest, r.next) }

/-- A grant to a port in WORKING (R148): an empty grant at the end of the ring, or the copy of one record. -/
def State.grantCopy (s : State) (p : PortId) (f : Fetch) : State :=
  let r := nth s.store.rings f.ring
  let f := f.granted r
  let s := { s with store := { s.store with turn := p } }
  if r.next ≤ f.wanted then s.finishFetch p f
  else
    let s := s.updPort p fun q => { q with slot := .working { f with wanted := f.wanted + 1 } }
    { s with store := { s.store with access := .copy p (r.records[f.wanted - r.oldest]?) } }

/-- The arbiter with no access in progress: the writer first, then the ports in turn (R135). -/
def State.grant (s : State) : State :=
  match s.store.queue with
  | q :: rest => s.grantWrite q rest
  | [] =>
    match s.nextWorking with
    | some (p, f) => s.grantCopy p f
    | none => s

/-- STORE_GRANT (R135). While an access is in progress the arbiter grants nothing. -/
def execStoreGrant (s : State) : Host.Outcome State Fault Refusal :=
  .next <|
    match s.store.access with
    | .idle => s.grant
    | .write _ | .copy _ _ => s

/-- WRITE_COMPLETE (R133). With no write in progress, none ends (log 2). -/
def execWriteComplete (s : State) : Host.Outcome State Fault Refusal :=
  .next <|
    match s.store.access with
    | .write q => { s with store := { s.store with access := .idle } }.finishWrite q
    | .idle | .copy _ _ => s

/-- A record copied into a port's reply under preparation, which is finished when the count is reached (R148). -/
def State.copied (s : State) (p : PortId) (r : StoredRecord) : State :=
  match (s.port p).slot with
  | .working f =>
    let f := { f with held := f.held ++ [r] }
    if f.count ≤ f.held.length then s.finishFetch p f
    else s.updPort p fun q => { q with slot := .working f }
  | .idle | .ready _ => s

/-- COPY_COMPLETE (R148): the copy of a port that has left WORKING is thrown away (R135). With no copy in progress, none
ends (log 2). -/
def execCopyComplete (s : State) : Host.Outcome State Fault Refusal :=
  .next <|
    match s.store.access with
    | .copy p (some r) => { s with store := { s.store with access := .idle } }.copied p r
    | .copy _ none => { s with store := { s.store with access := .idle } }
    | .idle | .write _ => s

/-- DISCARD_TIMER_EXPIRY (R152). The timer runs in READY alone; in any other state it does not run out (log 2). -/
def execDiscardTimerExpiry (p : PortId) (s : State) : Host.Outcome State Fault Refusal :=
  .next <|
    match (s.port p).slot with
    | .ready _ =>
      s.updPort p fun q => { q with slot := .idle, timer := 0, discarded := true, notices := q.notices.addReply 1 }
    | .idle | .working _ => s

/-! ## Requests -/

/-- The reply to SEEK and REWIND: ring, cursor, oldest, next and skip count (R143). -/
def State.placeReply (s : State) (p : PortId) (code : Byte) (r : Fin 9) : Reply :=
  let cu := nth (s.port p).cursors r
  let ring := nth s.store.rings r
  { status := .done, code, body := .place r cu.cursor ring.oldest ring.next cu.skip }

/-- A cursor moved by its own port's request, unless the port's FETCH names the ring (R143, R144). -/
def State.placeCursor (s : State) (p : PortId) (code ring : Byte) (f : Ring → Nat) : State × Reply :=
  match nameOf 9 ring with
  | none => (s, bare .badArgument code)
  | some r =>
    if (s.port p).slot.ring = some r then (s, bare .busy code)
    else
      let s := s.moveCursor p r fun cu => { cu with cursor := f (nth s.store.rings r) }
      (s, s.placeReply p code r)

/-- SEEK (R144): the sequence number is clamped to oldest..next. -/
def execSeek (p : PortId) (ring : Byte) (sequence : BitVec 32) (s : State) : Host.Outcome State Fault Refusal :=
  .next (s.endTransfer p fun s => s.placeCursor p 17 ring fun r => clampNat r.oldest r.next sequence.toNat)

/-- REWIND (R143). -/
def execRewind (p : PortId) (ring : Byte) (s : State) : Host.Outcome State Fault Refusal :=
  .next (s.endTransfer p fun s => s.placeCursor p 18 ring fun r => r.oldest)

/-- What FETCH does when it is taken (R147). -/
def State.takeFetch (s : State) (p : PortId) (ring count : Byte) : State × Reply :=
  match nameOf 9 ring with
  | none => (s, bare .badArgument 19)
  | some r =>
    match (s.port p).slot with
    | .idle =>
      let n := clampNat 1 4 count.toNat
      let start := (nth (s.port p).cursors r).cursor
      let ring := nth s.store.rings r
      let f : Fetch := { ring := r, count := n, wanted := start, start, gap := false, held := [],
                         atGrant := (ring.oldest, ring.next) }
      (s.updPort p fun q => { q with slot := .working f },
       { status := .queued, code := 19, body := .queued r n start })
    | .working _ | .ready _ => (s, bare .busy 19)

/-- FETCH (R147). -/
def execFetch (p : PortId) (ring count : Byte) (s : State) : Host.Outcome State Fault Refusal :=
  .next (s.endTransfer p fun s => s.takeFetch p ring count)

/-- What COLLECT does when it is taken (R150): every COLLECT clears the discarded mark after its reply is formed. -/
def State.takeCollect (s : State) (p : PortId) : State × Reply :=
  let q := s.port p
  let cursors := ReplyBody.cursors q.cursors
  match q.slot with
  | .ready b =>
    (s.updPort p fun q => { q with slot := .idle, timer := 0, discarded := false },
     { status := .done, code := 11, body := .batch b (nth q.cursors b.ring).skip })
  | .working _ =>
    (s.updPort p fun q => { q with discarded := false }, { status := .pending, code := 11, body := cursors })
  | .idle =>
    (s.updPort p fun q => { q with discarded := false },
     { status := if q.discarded then .discarded else .emptySlot, code := 11, body := cursors })

/-- COLLECT (R150). -/
def execCollect (p : PortId) (s : State) : Host.Outcome State Fault Refusal :=
  .next (s.endTransfer p fun s => s.takeCollect p)

/-- What CANCEL does when it is taken (R153). -/
def State.takeCancel (s : State) (p : PortId) : State × Reply :=
  match (s.port p).slot with
  | .working _ | .ready _ => (s.dropFetch p, bare .done 12)
  | .idle => (s, bare .emptySlot 12)

/-- CANCEL (R153). -/
def execCancel (p : PortId) (s : State) : Host.Outcome State Fault Refusal :=
  .next (s.endTransfer p fun s => s.takeCancel p)

end Sys2Proof.Machine
end

