-- ==== Sys2Proof/Machine/Proposals.lean ====
section
/-! DEFINITION. The shared settings: DRAFT_ITEM (R184), POST (R186), CONFIRM (R187) and WITHDRAW (R188). -/

namespace Sys2Proof.Machine

/-! ## DRAFT ITEM -/

/-- The window of a draft, in second ticks (R184). -/
def draftIdle : Nat := 60

/-- The window of a posted proposal, in second ticks (R186). -/
def confirmWindow : Nat := 120

/-- The most items a proposal holds. -/
def proposalSize : Nat := 16

/-- An item added to a draft or put in place of one of the same kind and index, with its position; none when the draft
is full (R184, step 4). -/
def addItem (items : List Item) (i : Item) : Option (List Item × Nat) :=
  let at' := items.findIdx fun j => j.name == i.name
  if at' < items.length then some (items.set at' i, at')
  else if proposalSize ≤ items.length then none
  else some (items ++ [i], items.length)

/-- A draft accepted with these items (R184). -/
def State.drafted (s : State) (p : PortId) (items : List Item) (position : Nat) : State × Reply :=
  ({ s with proposal := .draft p items draftIdle },
   { status := .done, code := 23, body := .drafted items.length position })

/-- What DRAFT ITEM does when it is taken (R184), its steps in order. -/
def State.takeDraftItem (s : State) (p : PortId) (kind index : Byte) (fields : List Byte) : State × Reply :=
  match s.proposal with
  | .empty =>
    match readItem kind index fields with
    | none => (s, bare .badArgument 23)
    | some i => s.drafted p [i] 0
  | .draft owner items _ =>
    if owner ≠ p then (s, bare .busy 23)
    else
      match (readItem kind index fields).bind (addItem items) with
      | none => (s, bare .badArgument 23)
      | some (items, position) => s.drafted p items position
  | .posted _ _ _ | .committing _ _ _ => (s, bare .busy 23)

/-- DRAFT_ITEM (R184). A length that the item's kind does not take is a frame error (R168). -/
def execDraftItem (p : PortId) (kind index : Byte) (fields : List Byte) (s : State) :
    Host.Outcome State Fault Refusal :=
  .next (s.endTransfer p fun s =>
    if lengthTaken 23 (kind :: index :: fields) then s.takeDraftItem p kind index fields
    else (s, bare .frameError 23))

/-! ## POST -/

/-- The two orderings of R67, with every H above its T taken as T. -/
def LevelsItem.ordered (l : LevelsItem) : Bool :=
  let l := l.clamped
  decide (l.excT ≤ l.warnT ∧ l.warnT ≤ l.alarmT ∧
    l.excT - l.excH ≤ l.warnT - l.warnH ∧ l.warnT - l.warnH ≤ l.alarmT - l.alarmH)

/-- The channel of the first LEVELS item, in the proposal's order, whose orderings fail (R186, which names no channel
where several fail; log 28). -/
def failedLevels (items : List Item) : Option (Fin 8) :=
  items.findSome? fun i =>
    match i with
    | .levels c v => if v.ordered then none else some c
    | _ => none

/-- Whether a PARTITION item leaves the event ring 256 slots (R118). -/
def Item.partitionFits (i : Item) : Bool :=
  match i with
  | .partition sizes => decide ((List.finRange 8).foldl (fun n c => n + nth sizes c) 0 ≤ 3840)
  | _ => true

/-- The first check of R186, step 2, that a draft fails, numbered from 0, with the channel of a LEVELS failure. -/
def State.failedCheck (s : State) (items : List Item) : Option (Nat × Nat) :=
  let merged := s.settings.applyAll items
  match failedLevels items with
  | some c => some (0, c.val)
  | none =>
    if items.any (fun i => !i.partitionFits) then some (1, 0)
    else if merged.recording.normal < merged.recording.storm then some (2, 0)
    else if s.test.plan.isSome ∧ items.any (fun i => match i with | .test _ => true | _ => false) then some (3, 0)
    else none

/-- The next proposal number: from 65535 it goes to 1 (R186, step 3). -/
def nextNumber (n : BitVec 16) : BitVec 16 := if n = 0xFFFF#16 then 1#16 else n + 1#16

/-- What POST does when it is taken (R186). -/
def State.takePost (s : State) (p : PortId) : State × Reply :=
  match s.proposal with
  | .draft owner items _ =>
    if owner ≠ p then (s, bare .refused 13)
    else
      match s.failedCheck items with
      | some (check, c) => (s, { status := .invalid, code := 13, body := .invalid check c })
      | none =>
        let number := nextNumber s.number
        let reply : Reply := { status := .done, code := 13, body := .posted number s.solo }
        if s.solo then ({ s with number, proposal := .committing p none items }, reply)
        else
          ({ s with number, proposal := .posted p items confirmWindow }.notifyOthers p (·.addSettings 0), reply)
  | .empty | .posted _ _ _ | .committing _ _ _ => (s, bare .refused 13)

/-- POST (R186), which reads the SOLO strap as it stands when the request is taken. -/
def execPost (p : StrapPort) (s : State) : Host.Outcome State Fault Refusal :=
  .next (s.endTransfer p.port fun s => (s.strapAt p.solo).takePost p.port)

/-! ## CONFIRM and WITHDRAW -/

/-- What CONFIRM does when it is taken (R187). -/
def State.takeConfirm (s : State) (p : PortId) (number : BitVec 16) : State × Reply :=
  match s.proposal with
  | .posted owner items _ =>
    if owner = p ∨ number ≠ s.number then (s, bare .refused 20)
    else
      ({ s with proposal := .committing owner (some p) items },
       { status := .done, code := 20, body := .posted s.number true })
  | .empty | .draft _ _ _ | .committing _ _ _ => (s, bare .refused 20)

/-- CONFIRM (R187). -/
def execConfirm (p : PortId) (number : BitVec 16) (s : State) : Host.Outcome State Fault Refusal :=
  .next (s.endTransfer p fun s => s.takeConfirm p number)

/-- A draft or posted proposal withdrawn by its owner (R188), or a draft ended by RESTART PORT (R180, step 4). -/
def State.withdrawn (s : State) (p : PortId) (cause : EndCause) : State :=
  let w := (Work.start { s with proposal := .empty }).event .proposal (.port p) (.proposalEnded s.number cause)
  w.join.notifyOthers p (·.addSettings 1)

/-- What WITHDRAW does when it is taken (R188). -/
def State.takeWithdraw (s : State) (p : PortId) : State × Reply :=
  match s.proposal with
  | .draft owner _ _ | .posted owner _ _ =>
    if owner = p then (s.withdrawn p .withdrawn, bare .done 14) else (s, bare .refused 14)
  | .empty | .committing _ _ _ => (s, bare .refused 14)

/-- WITHDRAW (R188). -/
def execWithdraw (p : PortId) (s : State) : Host.Outcome State Fault Refusal :=
  .next (s.endTransfer p fun s => s.takeWithdraw p)

end Sys2Proof.Machine
end

