-- ==== Sys2Proof/Machine/PortState.lean ====
section
/-! DEFINITION. The requests on a port's own state: GET NOTICES (R177), SET NOTICE MASK (R178), SET PORT OPTIONS (R179)
and RESTART PORT (R146, R180). -/

namespace Sys2Proof.Machine

/-- What GET NOTICES does when it is taken (R177): the notices are returned and cleared in one step. -/
def State.takeNotices (s : State) (p : PortId) : State × Reply :=
  (s.updPort p fun q => { q with notices := .none },
   { status := .done, code := 15, body := .notices (s.port p).notices })

/-- GET NOTICES (R177). -/
def execGetNotices (p : PortId) (s : State) : Host.Outcome State Fault Refusal :=
  .next (s.endTransfer p fun s => s.takeNotices p)

/-- What SET NOTICE MASK does when it is taken (R178). -/
def State.takeMask (s : State) (p : PortId) (mask : Byte) : State × Reply :=
  (s.updPort p fun q => { q with mask }, { status := .done, code := 21, body := .mask mask (s.port p).notices.flags })

/-- SET NOTICE MASK (R178). -/
def execSetNoticeMask (p : PortId) (mask : Byte) (s : State) : Host.Outcome State Fault Refusal :=
  .next (s.endTransfer p fun s => s.takeMask p mask)

/-- What SET PORT OPTIONS does when it is taken (R179). -/
def State.takeOptions (s : State) (p : PortId) (option : Byte) : State × Reply :=
  match yesNo option with
  | some on => (s.updPort p fun q => { q with shortDiscard := on }, { status := .done, code := 22, body := .option on })
  | none => (s, bare .badArgument 22)

/-- SET PORT OPTIONS (R179). -/
def execSetPortOptions (p : PortId) (option : Byte) (s : State) : Host.Outcome State Fault Refusal :=
  .next (s.endTransfer p fun s => s.takeOptions p option)

/-- A port's cursors after RESTART PORT, before the marks are judged (R146, steps 3 to 5). -/
def Port.rewindAll (q : Port) (rings : Tab 9 Ring) : Port :=
  { q with cursors := tab fun r => { cursor := (nth rings r).oldest, skip := 0, armed := true } }

/-- Every half-unread mark of a port judged, ring by ring (R142). -/
def State.judgeAll (s : State) (p : PortId) : State :=
  (List.finRange 9).foldl (fun s r => s.moveCursor p r id) s

/-- The port's own state after RESTART PORT (R146, R180 steps 1 to 3). -/
def State.restartedPort (s : State) (p : PortId) : State :=
  let s := (s.dropFetch p).updPort p fun q =>
    { q with discarded := false, notices := .none, mask := 0xFF, shortDiscard := false }
  (s.updPort p fun q => q.rewindAll s.store.rings).judgeAll p

/-- What RESTART PORT does when it is taken (R180). -/
def State.takeRestart (s : State) (p : PortId) : State × Reply :=
  let s := s.restartedPort p
  let reply : Reply := { status := .restarted, code := 16, body := .restarted true }
  match s.proposal with
  | .draft owner _ _ => if owner = p then (s.withdrawn p .portRestart, reply) else (s, reply)
  | .empty | .posted _ _ _ | .committing _ _ _ => (s, reply)

/-- RESTART PORT (R180). -/
def execRestartPort (p : PortId) (s : State) : Host.Outcome State Fault Refusal :=
  .next (s.endTransfer p fun s => s.takeRestart p)

end Sys2Proof.Machine
end

