-- ==== Sys2Proof/Machine/Pwm.lean ====
section
/-! DEFINITION. The waveform of the retransmit outputs: PWM_PERIOD_START (R162) and PWM_PULSE_END (R163). -/

namespace Sys2Proof.Machine

/-- The segments for which a pin is high from the start of a period, where the period has a pulse that ends within it
(R163); none where both pins keep one level throughout. -/
def PwmPeriod.pulse (d : PwmPeriod) : Option Nat :=
  match d.mode, d.fault with
  | .offset, false => some (64 + d.code.tdiv 2).toNat
  | .split, false => if d.code = 0 then none else some d.code.natAbs
  | _, _ => none

/-- The levels of pins A and B at the start of a period (R163). -/
def PwmPeriod.startPins (d : PwmPeriod) : Bool × Bool :=
  match d.mode, d.fault with
  | .off, _ => (false, false)
  | .offset, false => (true, false)
  | .offset, true => (false, false)
  | .split, false => (decide (0 < d.code), decide (d.code < 0))
  | .split, true => (true, true)

/-- The levels of pins A and B once the pulse has ended: under OFFSET pin B is the complement of pin A (R163). -/
def PwmPeriod.endPins (d : PwmPeriod) : Bool × Bool := (false, d.mode == .offset)

/-- REFCLK periods in a PWM period (R162). -/
def PwmPeriod.length (d : PwmPeriod) : Nat := 128 * d.prescale

/-- A period begins with the mode, prescale, code in force and fault shown as they stand (R162). -/
def Retransmit.startPeriod (o : Retransmit) (v : RetransmitItem) : Retransmit :=
  let d : PwmPeriod := { mode := v.mode, prescale := v.prescale, code := o.code, fault := o.faultShown }
  { o with counter := 0, period := d, pinA := d.startPins.1, pinB := d.startPins.2 }

/-- PWM_PERIOD_START (R162). -/
def execPwmPeriodStart (o : Fin 2) (s : State) : Host.Outcome State Fault Refusal :=
  .next { s with outputs := upd s.outputs o (·.startPeriod (nth s.settings.retransmit o)) }

/-- The pulse of the period in progress ends, when one is running (R163). -/
def Retransmit.endPulse (o : Retransmit) : Retransmit :=
  match o.period.pulse with
  | some n =>
    if (o.pinA, o.pinB) = o.period.startPins then
      { o with counter := n * o.period.prescale, pinA := o.period.endPins.1, pinB := o.period.endPins.2 }
    else o
  | none => o

/-- PWM_PULSE_END (R163). Where no pulse is running, none ends (log 2). -/
def execPwmPulseEnd (o : Fin 2) (s : State) : Host.Outcome State Fault Refusal :=
  .next { s with outputs := upd s.outputs o Retransmit.endPulse }

end Sys2Proof.Machine
end

