-- ==== Sys2Proof/Machine/Reads.lean ====
section
/-! DEFINITION. The reading requests: NOP, GET CHANNEL, GET HEAD, GET ALARMS, GET STATION, GET SETTING and GET PROPOSAL
(R115, R173, R174, R183, R192). None of them changes anything in the part but the due reply. -/

namespace Sys2Proof.Machine

/-- NOP (R173). -/
def execNop (p : PortId) (s : State) : Host.Outcome State Fault Refusal :=
  .next (s.endTransfer p fun s => (s, bare .done 0))

/-- A reading request that names one of eight: DONE with the body, or BAD_ARGUMENT outside 0..7 (R173, R115). -/
def readEight (code x : Byte) (f : Fin 8 → ReplyBody) : Reply :=
  match nameOf 8 x with
  | some i => { status := .done, code, body := f i }
  | none => bare .badArgument code

/-- GET CHANNEL (R76, R173). -/
def execGetChannel (p : PortId) (x : Byte) (s : State) : Host.Outcome State Fault Refusal :=
  .next (s.endTransfer p fun s => (s, readEight 1 x fun c => .channel (nth s.channels c)))

/-- GET HEAD (R19, R29, R173). -/
def execGetHead (p : PortId) (x : Byte) (s : State) : Host.Outcome State Fault Refusal :=
  .next (s.endTransfer p fun s => (s, readEight 2 x fun n =>
    .head (nth s.links n) (nth s.settings.link n).address (nth s.averagers n).latest))

/-- GET ALARMS (R115). -/
def execGetAlarms (p : PortId) (x : Byte) (s : State) : Host.Outcome State Fault Refusal :=
  .next (s.endTransfer p fun s => (s, readEight 3 x fun c => .alarms s.alarms c s.lines))

/-- The station-wide state (R174). -/
def State.report (s : State) : StationReport where
  solo := s.solo
  test := s.test
  storm := s.storm
  ringSizes := tab s.settings.ringSize
  heads := tab fun r => ((nth s.store.rings r).oldest, (nth s.store.rings r).next)
  queueCount := s.store.queue.length
  loss := s.store.loss
  access := s.store.access
  outputs := s.outputs

/-- What GET STATION does when it is taken (R174). -/
def State.takeStation (s : State) : State × Reply := (s, { status := .done, code := 4, body := .station s.report })

/-- GET STATION (R174), with the level of the SOLO strap as it stands when the request is taken. -/
def execGetStation (p : StrapPort) (s : State) : Host.Outcome State Fault Refusal :=
  .next (s.endTransfer p.port fun s => (s.strapAt p.solo).takeStation)

/-- GET SETTING (R183). -/
def execGetSetting (p : PortId) (kind index : Byte) (s : State) : Host.Outcome State Fault Refusal :=
  .next (s.endTransfer p fun s => (s,
    match s.settings.item kind index with
    | some i => { status := .done, code := 5, body := .setting i }
    | none => bare .badArgument 5))

/-- The proposal buffer and the item at a position, a larger position than 15 clamped to it (R192). -/
def State.proposalReport (s : State) (position : Nat) : ProposalReport where
  proposal := s.proposal
  number := s.number
  contents :=
    match s.proposal with
    | .empty => none
    | .draft _ items _ | .posted _ items _ | .committing _ _ items => items[min position 15]?

/-- GET PROPOSAL (R192). -/
def execGetProposal (p : PortId) (x : Byte) (s : State) : Host.Outcome State Fault Refusal :=
  .next (s.endTransfer p fun s => (s, { status := .done, code := 6, body := .proposal (s.proposalReport x.toNat) }))

end Sys2Proof.Machine
end

