-- ==== Sys2Proof/Machine/Reset.lean ====
section
/-! DEFINITION. POWER_ON_RESET (R19, R26, R30, R35, R38, R50, R86, R98, R113, R134, R157, R172, R182). -/

namespace Sys2Proof.Machine

/-- A port's SEL line across a reset: a transfer whose SEL fell before is to be ignored whole (R172). -/
def Transfer.acrossReset (t : Transfer) : Transfer :=
  match t with
  | .idle => .idle
  | .active _ | .ignored => .ignored

/-- A Port Controller across a reset (R172). -/
def Port.acrossReset (q : Port) : Port := { Port.reset with transfer := q.transfer.acrossReset }

/-- POWER_ON_RESET (R134): every block goes to its power-on state and START is queued. What is outside the part stays:
the SEL lines, the SOLO strap as `solo` ties it, and the commands that are waiting. -/
def execPowerOnReset (solo : Bool) (s : State) : Host.Outcome State Fault Refusal :=
  .next { State.reset with pending := s.pending, solo, ports := s.ports.all Port.acrossReset, free := s.free }

end Sys2Proof.Machine
end

