-- ==== Sys2Proof/Machine/Commit.lean ====
section
/-! DEFINITION. The commit of an agreed proposal, stages 1 to 5 of R190: the items put in force, the channel work
(R47, R77, R79, R84, R103, R126), the other blocks (R9, R22, R94, R114, R164), the store (R137, R138) and the start of
a test (R39). Stages 6 and 7 are in Machine/Second.lean. -/

namespace Sys2Proof.Machine

/-! ## Stage 2: channel work -/

/-- What a MAP reset sets (R77, steps 1 to 3). -/
def Channel.mapReset (c : Channel) : Channel :=
  { c with bAcc := 0, eAcc := 0, x := 0, conds := .none, absence := 0, learned := 0 }

/-- The channel and snapshot that a changed source record leaves (R77, and R47 while a test runs). `inTest` says that
the channel was in TEST, `targeted` that the new record uses an input of the running test. -/
def remapped (c : Channel) (enabled inTest targeted : Bool) (m : StartMode) : Channel × Option Snapshot :=
  let z := c.mapReset
  if !enabled then ({ z with state := .disabled, latest := none }, none)
  else if inTest then
    let n := Snapshot.zeroed.applyStart m
    if targeted then ({ z with state := .test }, some n) else (z.restore n, none)
  else
    let a := z.applyStart m
    if targeted then (a.enterTest, some a.snapshot) else (a, none)

/-- The reset of a channel's four entries by a MAP commit (R103): four ALARM events in entry order. -/
def Work.resetEntries (w : Work) (c : Fin 8) : Work :=
  alarmKinds.foldl
    (fun w k =>
      let i := entryOf c k
      let e := nth w.st.alarms i
      w.moveEntry (.alarm c) i (e.byReset w.st.timebase.time) e.peak .reset) w

/-- The open interval of a channel whose MAP record changed, once the old one has been closed (R122). -/
def remappedInterval (enabled : Bool) (v : Option Interval) : Option Interval :=
  if !enabled then none else some (v.getD .opened)

/-- The reset of a channel whose source record a commit changes (R77). -/
def Work.remap (w : Work) (c : Fin 8) : Work :=
  let m := nth w.st.settings.map c
  let ch := nth w.st.channels c
  let targeted := w.st.test.plan.any fun p => m.targeted p.inputs
  let r := remapped ch m.enabled (ch.state == .test) targeted (nth w.st.settings.analysis c).startMode
  let w := w.resetEntries c
  w.map fun s =>
    { s with
      channels := put s.channels c r.1
      test := { s.test with snapshots := put s.test.snapshots c r.2 }
      intervals := put s.intervals c (remappedInterval m.enabled (nth s.intervals c)) }.refreshLines

/-- The exposure clamp of a commit that lowers the limit, on the channel and on its snapshot (R84, R48). -/
def State.clampExposure (s : State) (c : Fin 8) : State :=
  let top := 2 * (nth s.settings.exposure c).limit
  { s with
    channels := upd s.channels c fun ch => { ch with x := min ch.x top }
    test := { s.test with snapshots := upd s.test.snapshots c (·.map fun n => { n with x := min n.x top }) } }

/-- Whether an item is an ANALYSIS, LEVELS or EXPOSURE item of the channel (R126). -/
def Item.closes (c : Fin 8) (i : Item) : Bool :=
  match i with
  | .analysis c' _ => c' == c
  | .levels c' _ => c' == c
  | .exposure c' _ => c' == c
  | _ => false

/-- Stage 2 for one channel: its interval closed (R126), its reset where its record changed (R77), and the exposure
clamp where its limit fell (R84), which follows the reset (R79). -/
def Work.commitChannel (old : Settings) (items : List Item) (c : Fin 8) (w : Work) : Work :=
  let new := w.st.settings
  let changed := nth old.map c ≠ nth new.map c
  let w := if changed ∨ items.any (Item.closes c) then w.closeInterval c false else w
  let w := if changed then w.remap c else w
  if (nth new.exposure c).limit < (nth old.exposure c).limit then w.map fun s => s.clampExposure c else w

/-! ## Stage 3: the other blocks -/

/-- What going to OFF or taking a new address clears (R9). -/
def Link.forgetHead (l : Link) : Link := { l with zeroPending := false, word := none, counterRef := none }

/-- The response of a link to a LINK item (R9). -/
def Work.restartLink (w : Work) (n : Fin 8) (old new : LinkItem) : Work :=
  let l := nth w.st.links n
  let moved := old.address ≠ new.address
  if !new.enabled then
    if l.state = .off then w
    else (w.transition n .off .disabled).map fun s => { s with links := upd s.links n Link.forgetHead }
  else if l.state = .off then
    (w.transition n .seeking .enabled).map fun s =>
      { s with links := upd s.links n fun l => if moved then l.forgetHead else l }
  else if moved then
    if l.state = .seeking then
      w.map fun s => { s with links := upd s.links n fun l => { l.forgetHead with goodCycles := 0 } }
    else (w.transition n .seeking .address).map fun s => { s with links := upd s.links n Link.forgetHead }
  else w

/-- The LINK item of a proposal for an input, if it holds one. -/
def linkItem (items : List Item) (n : Fin 8) : Option LinkItem :=
  items.findSome? fun i =>
    match i with
    | .link n' v => if n' = n then some v else none
    | _ => none

/-- Stage 3 for one link. -/
def Work.commitLink (old : Settings) (items : List Item) (n : Fin 8) (w : Work) : Work :=
  match linkItem items n with
  | some v => w.restartLink n (nth old.link n) v
  | none => w

/-- What a new divider does to a link's cycle in progress (R10): its WBITs are thrown away, and a command going out
starts again at the restarted frame 0. -/
def Link.abandonCycle (l : Link) : Link :=
  { l with cycleGood := 0, wbits := 0, sending := false
           inFlight := l.inFlight.map fun f => { f with abandoned := true } }

/-- A new divider in force (R22, R10): the frame counter restarts at 0 and the cycle in progress is abandoned on every
input. A divider equal to the one in force is no change. -/
def State.commitDivider (s : State) (old : Settings) : State :=
  if old.divider = s.settings.divider then s
  else
    { s with
      timebase := { s.timebase with frameCounter := 0 }
      links := tab fun n => (nth s.links n).abandonCycle
      averagers := tab fun n => { nth s.averagers n with cycleSum := 0, cycleValid := 0 } }

/-- A running tail cut to the storm hold of a STATION item (R94). -/
def State.commitStation (s : State) (items : List Item) : State :=
  if s.storm.state = .tail ∧ items.any (fun i => match i with | .station _ => true | _ => false) then
    { s with storm := { s.storm with tail := min s.storm.tail s.settings.station.stormHold } }
  else s

/-- Each line with an OUTPUT item evaluated under its new rule (R114). -/
def State.commitLines (s : State) (items : List Item) : State :=
  { s with lines := tab fun l =>
      if items.any (fun i => match i with | .output l' _ => l' == l | _ => false) then
        evaluateLine (nth s.settings.output l) s.alarms
      else nth s.lines l }

/-- What a retransmit item's mode does to the output at its commit (R164). -/
def Retransmit.commit (o : Retransmit) (m : PwmMode) : Retransmit :=
  match m with
  | .off => { o with code := 0, faultShown := false, chosen := none }
  | .offset => { o with code := clamp (-126) 126 o.code }
  | .split => o

/-- Each retransmit output with a RETRANSMIT item under its new settings (R164). -/
def State.commitOutputs (s : State) (items : List Item) : State :=
  { s with outputs := tab fun o =>
      if items.any (fun i => match i with | .retransmit o' _ => o' == o | _ => false) then
        (nth s.outputs o).commit (nth s.settings.retransmit o).mode
      else nth s.outputs o }

/-! ## Stages 4 and 5: the store and the test -/

/-- Stage 4 (R137, R138): a commit that carries both PARTITION and CLEAR clears once, with cause PARTITION. -/
def State.commitStore (s : State) (items : List Item) : State :=
  if items.any (fun i => match i with | .partition _ => true | _ => false) then s.clearStore .partition
  else if items.any (fun i => match i with | .clear => true | _ => false) then s.clearStore .clear
  else s

/-- One channel at the start of a test (R39, steps 4 to 6): its interval closed, its snapshot saved, TEST entered. -/
def Work.startTestOn (inputs : BitVec 8) (c : Fin 8) (w : Work) : Work :=
  if (nth w.st.settings.map c).targeted inputs then
    let ch := nth w.st.channels c
    let w := w.closeInterval c false
    let w := w.map fun s => { s with test := { s.test with snapshots := put s.test.snapshots c (some ch.snapshot) } }
    w.setChannel c ch.enterTest
  else w

/-- The start of a test (R39); the item finds the test state IDLE (R37). -/
def Work.startTest (w : Work) (v : TestItem) : Work :=
  if w.st.test.plan.isSome then w
  else
    let w := w.map fun s => { s with test := { s.test with
      plan := some v, remaining := v.duration, ramp := v.amplitude, squareCount := v.halfPeriod, squarePlus := true,
      prbs := v.seed, supplied := none } }
    let w := w.forEach (Work.startTestOn v.inputs)
    let w := w.event .test .station (.test false v.inputs v.form .commit)
    w.map fun s => (s.notifyAll (·.addTest false)).refreshLines

/-- The TEST item of a proposal, if it holds one. -/
def testItem (items : List Item) : Option TestItem :=
  items.findSome? fun i =>
    match i with
    | .test v => some v
    | _ => none

/-! ## The stages together -/

/-- Stage 1 and 2: every item in force together, then the channels. -/
def State.commitChannels (s : State) (items : List Item) : State :=
  ((Work.start { s with settings := s.settings.applyAll items }).forEach
    (Work.commitChannel s.settings items)).join

/-- Stage 3, for a state whose new settings are in force and whose old ones were `old`. -/
def State.commitBlocks (s : State) (old : Settings) (items : List Item) : State :=
  let s := ((Work.start s).forEach (Work.commitLink old items)).join
  (((s.commitDivider old).commitStation items).commitLines items).commitOutputs items

/-- Stage 5. -/
def State.commitTest (s : State) (items : List Item) : State :=
  match testItem items with
  | some v => ((Work.start s).startTest v).join
  | none => s

/-- Stages 1 to 5 of a commit of these items (R190). -/
def State.applyItems (s : State) (items : List Item) : State :=
  (((s.commitChannels items).commitBlocks s.settings items).commitStore items).commitTest items

/-- Stages 1 to 5, at a second tick taken while the buffer is COMMITTING (R190). -/
def State.commitStages (s : State) : State :=
  match s.proposal with
  | .committing _ _ items => s.applyItems items
  | .empty | .draft _ _ _ | .posted _ _ _ => s

end Sys2Proof.Machine
end

