-- ==== Sys2Proof/Machine/Links.lean ====
section
/-! DEFINITION. The Link Unit and the Cycle Averager between second ticks: the arrival of a frame (R2 to R7, R11 to
R14, R27, R28) and the frame tick (R1, R16, R17, R21), with the commands FRAME_ARRIVAL, FRAME_TICK, HEAD_CMD_START
and HEAD_CMD_SENT. -/

namespace Sys2Proof.Machine

/-! ## The arrival of a frame -/

/-- The MARK flag stands where the part's cycles have it: set in frame 0 and clear in frames 1..15 (R4, R6). -/
def markProper (f : InFlight) (frame : BitVec 32) : Bool := frameMark frame == (f.index == 0)

/-- The link's counts at the arrival of a frame, before any transition: the bad run (R5), and the good frames of the
cycle with their WBITs (R6, R11). -/
def Link.count (l : Link) (f : InFlight) (cls : FrameClass) (frame : BitVec 32) : Link :=
  match cls with
  | .good =>
    let l := if l.state = .seeking then l else { l with badRun := 0, badSeen := false }
    if f.current ∧ ¬ f.abandoned ∧ markProper f frame then
      { l with cycleGood := l.cycleGood + 1
               wbits := if l.state = .locked then (l.wbits <<< 1) ||| (if frameWbit frame then 1#16 else 0#16) else l.wbits }
    else l
  | .bad | .absent =>
    if l.state = .seeking then l
    else { l with badRun := min 16 (l.badRun + 1), badSeen := l.badSeen || cls == .bad }

/-- The transition that a frame causes at its arrival, if any: a full bad run (R5), or a MARK out of place in LOCKED
(R4). -/
def arrivalTransition (l : Link) (f : InFlight) (cls : FrameClass) (frame : BitVec 32) :
    Option (LinkState × LinkCause) :=
  match l.state with
  | .locked =>
    if cls = .good then if markProper f frame then none else some (.slipped, .mark)
    else if 16 ≤ l.badRun then some (.lost, if l.badSeen then .badFrames else .silent) else none
  | .slipped =>
    if cls ≠ .good ∧ 16 ≤ l.badRun then some (.lost, if l.badSeen then .badFrames else .silent) else none
  | .off | .seeking | .lost => none

/-- The counts of whole cycles at a cycle end in SEEKING and SLIPPED (R6, R7). -/
def Link.countCycle (l : Link) : Link :=
  let good := if l.cycleGood = 16 then min 2 (l.goodCycles + 1) else 0
  match l.state with
  | .seeking => { l with goodCycles := good }
  | .slipped => { l with goodCycles := good, slipCycles := min 8 (l.slipCycles + 1) }
  | .off | .locked | .lost => l

/-- The transition at a cycle end, if any (R6, R7). -/
def cycleTransition (l : Link) : Option (LinkState × LinkCause) :=
  match l.state with
  | .seeking => if 2 ≤ l.goodCycles then some (.locked, .acquired) else none
  | .slipped =>
    if 2 ≤ l.goodCycles then some (.locked, .realigned)
    else if 8 ≤ l.slipCycles then some (.lost, .noRelock) else none
  | .off | .locked | .lost => none

/-- Whether the cycle's head word is accepted (R11): 16 good frames, and no reference or a counter one more than it. -/
def Link.acceptsWord (l : Link) : Bool :=
  l.cycleGood == 16 &&
    match l.counterRef with
    | none => true
    | some r => wordCounter l.wbits == r + 1

/-- The latest valid word one cycle end older (R12). -/
def HeldWord.older (w : HeldWord) : HeldWord := { w with age := satSucc 65535 w.age }

/-- The head word of a cycle that ends in LOCKED, formed and judged (R11, R12), with the zeroing pending flag (R14). -/
def Link.formWord (l : Link) : Link :=
  if l.acceptsWord then
    { l with
      word := some { bits := l.wbits, age := 0, stale := false }
      counterRef := some (wordCounter l.wbits)
      zeroPending := wordZeroing l.wbits
      zeroSeen := l.zeroSeen || wordZeroing l.wbits }
  else
    { l with word := l.word.map HeldWord.older, counterRef := if l.cycleGood = 16 then none else l.counterRef }

/-- Whether the cycle's word ends a zeroing: accepted, ZEROING clear, while the flag is set (R14). -/
def Link.endsZeroing (l : Link) : Bool := l.acceptsWord && l.zeroPending && !wordZeroing l.wbits

/-- A valid or invalid sample taken by the Cycle Averager (R27), and the end of the cycle at frame 15 (R27, R28). A
frame of an abandoned cycle adds nothing (R22). -/
def Averager.take (a : Averager) (f : InFlight) (sample : Option Int) : Averager :=
  if f.abandoned then a
  else
    let a := match sample with
      | some v => { a with cycleSum := a.cycleSum + v, cycleValid := a.cycleValid + 1 }
      | none => a
    if f.index = 15 ∧ a.cycleValid = 16 ∧ a.n < 125 then { a with sum := a.sum + a.cycleSum, n := a.n + 1 } else a

/-- A transition made when one is due. -/
def Work.transitionIf (w : Work) (n : Fin 8) (t : Option (LinkState × LinkCause)) : Work :=
  match t with
  | some (dest, cause) => w.transition n dest cause
  | none => w

/-- The cycle end on an input: the counts and transitions of SEEKING and SLIPPED (R6, R7), the head word of LOCKED
(R11). A link that enters LOCKED at this cycle end forms no word of it. -/
def Work.cycleEnd (w : Work) (n : Fin 8) : Work :=
  let l := nth w.st.links n
  if l.state = .locked then
    let w := w.map fun s => { s with links := put s.links n l.formWord }
    if l.endsZeroing then w.endOfZeroing n else w
  else
    let l := l.countCycle
    (w.map fun s => { s with links := put s.links n l }).transitionIf n (cycleTransition l)

/-- The arrival of the frame in flight on an input (R2). No frame in flight: nothing is taken from LDAT (R1). The bad run
is judged before the cycle end, so a frame 15 that fills it takes a SLIPPED link to LOST by R5, and the cycle end of R7
then finds the link in LOST (log 33). -/
def Work.arrive (w : Work) (n : Fin 8) (frame : BitVec 32) : Work :=
  let l := nth w.st.links n
  match l.inFlight with
  | none => w
  | some f =>
    let cls := classify (nth w.st.settings.link n).address frame
    let l := ({ l with inFlight := none }).count f cls frame
    let w := w.map fun s => { s with links := put s.links n l }
    let w := w.transitionIf n (arrivalTransition l f cls frame)
    let sample := if sampleValid cls frame (nth w.st.links n) then some (frameSample frame) else none
    let w := w.map fun s => { s with averagers := upd s.averagers n (·.take f sample) }
    if f.index = 15 ∧ ¬ f.abandoned then w.cycleEnd n else w

/-- FRAME_ARRIVAL (R2). -/
def execFrameArrival (n : Fin 8) (frame : BitVec 32) (s : State) : Host.Outcome State Fault Refusal :=
  .next ((Work.start s).arrive n frame).join

/-! ## The frame tick -/

/-- A frame that is in flight at a frame tick has been answered by no head: LDAT is read as one throughout, and the
frame of 32 ones is in before the tick (R1; log 3). -/
def Work.settle (n : Fin 8) (w : Work) : Work := w.arrive n 0xFFFFFFFF#32

/-- The state a frame tick finds, every earlier frame in. -/
def settled (s : State) : State := ((Work.start s).forEach Work.settle).join

/-- The beginning of a cycle on a link: no good frame and no WBIT yet (R6, R11), and a word of age 4 stale from its
first frame on (R12). -/
def Link.beginCycle (l : Link) : Link :=
  { l with cycleGood := 0, wbits := 0, word := l.word.map fun v => { v with stale := v.stale || decide (4 ≤ v.age) } }

/-- Whether the loaded command begins to go out at the request of this frame index (R16). -/
def Link.starts (l : Link) (index : Fin 16) : Bool :=
  l.state == .locked && l.command.isSome && !l.sending && index == 0

/-- Whether the command going out has gone out in full at this request (R17). -/
def Link.sends (l : Link) (index : Fin 16) : Bool :=
  l.state == .locked && l.command.isSome && l.sending && index == 15

/-- The request of one frame on a link (R1): LCK, the frame-0 mark, the command bit (R194), and the slot emptied at
frame 15 (R17). A link that is not requested has its lines held low. -/
def Link.request (l : Link) (index : Fin 16) : Link :=
  if l.state.requested then
    let sending := l.sending || l.starts index
    { l with
      inFlight := some { index, current := true, abandoned := false }
      lck := true
      lsyncMark := index == 0
      lsyncBit := sending && (l.command.any fun c => commandBit c index)
      command := if l.sends index then none else l.command
      sending := sending && !l.sends index }
  else { l with lck := false, lsyncMark := false, lsyncBit := false }

/-- The frame request on one input, with the HEAD_CMD SENT event (R17). -/
def Work.requestFrame (index : Fin 16) (n : Fin 8) (w : Work) : Work :=
  let l := nth w.st.links n
  let w := w.map fun s => { s with links := put s.links n (l.request index) }
  match l.command with
  | some c => if l.sends index then w.event (.link n) (.input n) (.headCmd n c false) else w
  | none => w

/-- The frame tick on a settled state (R1, R21, R27): at index 0 a cycle begins on every input at once. The period that
starts has the length of the divider in force (R22). -/
def tickFrame (s : State) : State :=
  let index := s.timebase.frameCounter
  let s := if index = 0 then
      { s with
        links := tab fun n => (nth s.links n).beginCycle
        averagers := tab fun n => { nth s.averagers n with cycleSum := 0, cycleValid := 0 } }
    else s
  let w := (Work.start s).forEach (Work.requestFrame index)
  (w.map fun s => { s with timebase := { s.timebase with
    frameDiv := 0, framePeriod := periodOf s.settings.divider, frameCounter := index + 1 } }).join

/-- The whole frame tick. -/
def frameTick (s : State) : State := tickFrame (settled s)

/-- FRAME_TICK (R1). -/
def execFrameTick (s : State) : Host.Outcome State Fault Refusal := .next (frameTick s)

/-- HEAD_CMD_START (R16): the frame tick at which the command word loaded for `n` begins to go out. Where no such word
is due, this event does not happen (log 2). -/
def execHeadCmdStart (n : Fin 8) (s : State) : Host.Outcome State Fault Refusal :=
  .next (if (nth (settled s).links n).starts s.timebase.frameCounter then frameTick s else s)

/-- HEAD_CMD_SENT (R17): the frame tick at which the command word of `n` has gone out in full. Where none is due, this
event does not happen (log 2). -/
def execHeadCmdSent (n : Fin 8) (s : State) : Host.Outcome State Fault Refusal :=
  .next (if (nth (settled s).links n).sends s.timebase.frameCounter then frameTick s else s)

end Sys2Proof.Machine
end

