-- ==== Sys2Proof/Machine/Second.lean ====
section
/-! DEFINITION. The second tick (R23): the commit of an agreed proposal, the retry of LOST links, the measurement path
(R29 to R36), the evaluation of every channel (R61), the Storm Monitor (R88 to R95), the results (R74 to R76, R123),
the retransmit codes (R158 to R161), the end of a test (R44) and the windows of a proposal (R185, R189). -/

namespace Sys2Proof.Machine

/-! ## The measurement path (R36) -/

/-- A LOST link goes to SEEKING (R8). -/
def Work.retryLink (n : Fin 8) (w : Work) : Work :=
  if (nth w.st.links n).state = .lost then w.transition n .seeking .retry else w

/-- An input's second value, none when it is absent (R29). -/
def Averager.value (a : Averager) : Option Int :=
  if a.n = 0 then none else some (clampCurrent (roundDiv a.sum (16 * a.n)))

/-- The input second formed, and S and n emptied for the second that begins (R29). -/
def Averager.formSecond (a : Averager) (stamp : Time) : Averager :=
  { a with sum := 0, n := 0, latest := some { stamp, value := a.value, n := a.n } }

/-- Every input's second formed. -/
def State.formSeconds (s : State) : State :=
  { s with averagers := tab fun n => (nth s.averagers n).formSecond s.timebase.time }

/-- The PRBS register stepped once (R43): bit k is bit k − 1 of the vector, and the new bit enters at bit 1. -/
def stepPrbs (r : BitVec 15) : BitVec 15 :=
  (r <<< 1) ||| (if r.getLsbD 14 != r.getLsbD 13 then 1#15 else 0#15)

/-- The value of a test second, and the form counters after it (R41, R42, R43). -/
def TestGen.supply (t : TestGen) (p : TestItem) : TestGen :=
  match p.form with
  | .level => { t with supplied := some p.amplitude }
  | .ramp => { t with supplied := some t.ramp, ramp := clampCurrent (t.ramp + p.slope) }
  | .square =>
    let value := if t.squarePlus then p.amplitude else -p.amplitude
    if t.squareCount ≤ 1 then
      { t with supplied := some value, squareCount := p.halfPeriod, squarePlus := !t.squarePlus }
    else { t with supplied := some value, squareCount := t.squareCount - 1 }
  | .prbs =>
    let r := stepPrbs t.prbs
    { t with prbs := r, supplied := some (if r.getLsbD 0 then p.amplitude else -p.amplitude) }

/-- The value supplied for this second while a test runs (R40). -/
def State.supplyTest (s : State) : State :=
  match s.test.plan with
  | some p => { s with test := s.test.supply p }
  | none => s

/-- An input's value as the Channel Map takes it: the Test Generator's for a targeted input (R34, R40). -/
def State.inputValue (s : State) (n : Fin 8) : Option Int :=
  if s.test.plan.any (fun p => p.inputs.getLsbD n.val) then s.test.supplied
  else ((nth s.averagers n).latest.map (·.value)).getD none

/-- The channel second value g of an enabled channel, none when its second is absent (R32, R33). -/
def channelValue (m : MapItem) (input : Fin 8 → Option Int) : Option Int :=
  match m.secondary with
  | none => input m.primary
  | some (n, plus) =>
    match input m.primary, input n with
    | some a, some b => some (clampCurrent (if plus then a + b else a - b))
    | _, _ => none

/-- Whether the zeroing indication was true at any moment of the second for an input the channel uses (R57). -/
def State.zeroingSeen (s : State) (m : MapItem) : Bool :=
  (List.finRange 8).any fun n => m.uses n && (nth s.links n).zeroSeen

/-! ## The evaluation of a channel's second, stages 1 to 5 (R61) -/

/-- The envelope after a present second (R64). -/
def followEnvelope (eAcc m j : Nat) : Nat :=
  if eAcc ≤ 256 * m then 256 * m else eAcc - ceilDiv (eAcc - 256 * m) (2 ^ j)

/-- The exposure after a present second (R81). -/
def accumulate (x m : Nat) (v : ExposureItem) : Nat :=
  if v.knee < m then min (x + (m - v.knee)) (2 * v.limit) else x - v.cooling

/-- The level and exposure conditions after a present second, from e and X (R68, R82). -/
def Conditions.evaluate (k : Conditions) (l : LevelsItem) (v : ExposureItem) (e x : Nat) : Conditions where
  excursion := levelCondition l.excT l.excH e k.excursion
  warn := levelCondition l.warnT l.warnH e k.warn
  alarm := levelCondition l.alarmT l.alarmH e k.alarm
  exposure := exposureCondition v.limit x k.exposure

/-- A present second's deviation (R63): d from the baseline as it stood, and its magnitude. -/
def deviation (c : Channel) (g : Int) : SecondValue :=
  let d := clampCurrent (g - c.b)
  { g, d, m := d.natAbs }

/-- Stages 1 to 5 of a present second (R55, R59, R61). -/
def Channel.present (c : Channel) (s : Settings) (i : Fin 8) (stamp : Time) (g : Int) : Channel :=
  let v := deviation c g
  let c := { c with absence := 0, latest := some { stamp, value := some v }
                    state := if c.state = ChannelState.stale then c.left.state else c.state }
  match c.state with
  | .learning => { c with eAcc := 0, conds := .none, x := 0 }
  | .armed | .test =>
    let exposure := nth s.exposure i
    let eAcc := followEnvelope c.eAcc v.m (nth s.analysis i).decayShift
    let x := accumulate c.x v.m exposure
    { c with eAcc, x, conds := c.conds.evaluate (nth s.levels i) exposure (eAcc / 256) x }
  | .disabled | .stale => c

/-- An absent second (R57, R58, R62). -/
def Channel.absent (c : Channel) (staleLimit : Nat) (stamp : Time) (zeroing : Bool) : Channel :=
  let absence := if c.state = .test then 0 else if zeroing then c.absence else satSucc 65535 c.absence
  let c := { c with absence, latest := some { stamp, value := none } }
  match c.state with
  | .learning => if staleLimit ≤ absence then { c with state := .stale, left := .learning } else c
  | .armed => if staleLimit ≤ absence then { c with state := .stale, left := .armed } else c
  | .disabled | .stale | .test => c

/-- Stages 1 to 5 of a channel's second (R61); a DISABLED channel is not evaluated (R53). -/
def State.judge (s : State) (i : Fin 8) : Channel :=
  let c := nth s.channels i
  let m := nth s.settings.map i
  if c.state = .disabled then c
  else
    match channelValue m s.inputValue with
    | some g => c.present s.settings i s.timebase.time g
    | none => c.absent (nth s.settings.analysis i).staleLimit s.timebase.time (s.zeroingSeen m)

/-- Stages 1 to 5 of every channel, and the zeroing marks begun afresh for the second that begins (R57). -/
def State.judgeChannels (s : State) : State :=
  { s with
    channels := tab s.judge
    links := tab fun n => { nth s.links n with zeroSeen := (nth s.links n).zeroing } }

/-! ## Stage 6: the Storm Monitor -/

/-- Whether a channel counts in N_exc (R88). -/
def Channel.counts (c : Channel) : Bool := (c.state == .armed || c.state == .stale) && c.conds.excursion

/-- N_exc (R88). -/
def excursions (channels : Tab 8 Channel) : Nat :=
  ((List.finRange 8).filter fun i => (nth channels i).counts).length

/-- The storm state and tail count decided from the station condition (R91, R92, R93). -/
def StormState.after (st : StormState) (tail hold : Nat) (station : Bool) : StormState × Nat :=
  if station then (.storm, 0)
  else
    match st with
    | .quiet => (.quiet, 0)
    | .storm => if hold = 0 then (.quiet, 0) else (.tail, hold)
    | .tail => if 2 ≤ tail then (.tail, tail - 1) else (.quiet, 0)

/-- The Storm Monitor's decision for the second a tick ends (R88 to R93). `pulled`: another part pulls the wire low. -/
def Storm.second (m : Storm) (v : StationItem) (n : Nat) (pulled : Bool) (stamp : Time) : Storm :=
  let isLocal := decide (v.stormCount ≤ n)
  let low := m.pull || pulled
  let external := low && !m.pull && v.joinExternal
  let station := isLocal || external
  let next := m.state.after m.tail v.stormHold station
  { state := next.1, tail := next.2, nExc := n, localStorm := isLocal
    wire := some { high := !low, ownPull := m.pull }
    station, pull := isLocal && v.drivePin, stamp := some stamp }

/-- Stage 6, with the STORM event and notice of a transition (R95). -/
def Work.decideStorm (w : Work) (pulled : Bool) : Work :=
  let old := w.st.storm
  let m := old.second w.st.settings.station (excursions w.st.channels) pulled w.st.timebase.time
  let w := w.map fun s => { s with storm := m }
  if old.state = m.state then w
  else (w.map fun s => s.notifyAll Notices.addStorm).event .storm .station (.storm old.state m.state m.nExc)

/-! ## Stages 7 and 8: the baseline and learning -/

/-- The baseline update: Δ / 2^shift, truncated toward zero (R71). -/
def followBaseline (bAcc g : Int) (shift : Nat) : Int := bAcc + (g * 65536 - bAcc).tdiv (2 ^ shift)

/-- Stages 7 and 8 of a channel's second (R55, R71, R72). -/
def Channel.move (c : Channel) (shift : Nat) (st : StormState) : Channel :=
  match c.latest.bind (·.value) with
  | none => c
  | some v =>
    match c.state with
    | .learning =>
      let learned := min 64 (c.learned + 1)
      { c with bAcc := followBaseline c.bAcc v.g 4, learned
               state := if 64 ≤ learned then .armed else .learning }
    | .armed =>
      if c.conds.excursion || st != .quiet then c else { c with bAcc := followBaseline c.bAcc v.g shift }
    | .disabled | .stale | .test => c

/-- Stages 7 and 8 of every channel. -/
def State.moveChannels (s : State) : State :=
  { s with channels := tab fun i =>
      (nth s.channels i).move (nth s.settings.analysis i).baselineShift s.storm.state }

/-! ## Stage 9: the results -/

/-- The values of conditions that stay true, handed for the peaks (R74, R102). An absent second hands none but the
absence count. -/
def State.raisePeaks (s : State) (c : Fin 8) (old new : Channel) : State :=
  let present := (new.latest.bind (·.value)).isSome
  alarmKinds.foldl
    (fun s k =>
      if old.condition k && new.condition k && (present || k == .data) then s.raisePeak c k (new.value k) else s) s

/-- Stage 9 of one channel (R74, R75): `before` holds the channels as they stood before the evaluation. -/
def Work.handResults (before : Tab 8 Channel) (c : Fin 8) (w : Work) : Work :=
  let new := nth w.st.channels c
  if new.state = .disabled then w
  else
    let w := w.handChanges c (nth before c) new
    let w := w.map fun s => s.raisePeaks c (nth before c) new
    w.addSecond c (new.latest.bind (·.value) |>.map (·.d))

/-- Every line evaluated (R113, R114). -/
def State.evaluateLines (s : State) : State :=
  { s with lines := tab fun l => evaluateLine (nth s.settings.output l) s.alarms }

/-! ## The retransmit codes -/

/-- The code for a deviation (R160). -/
def codeOf (mode : PwmMode) (fullScale : Nat) (d : Int) : Int :=
  let x := clamp (-127) 127 (roundDiv (127 * d) fullScale)
  if mode = .offset then clamp (-126) 126 x else x

/-- The eligible channel with the largest m, the lowest number on a tie (R159). -/
def stationPeak (channels : Tab 8 Channel) : Option (Fin 8 × SecondValue) :=
  (List.finRange 8).foldl
    (fun best i =>
      let c := nth channels i
      match c.latest.bind (·.value) with
      | none => best
      | some v =>
        if c.state = .armed ∨ c.state = .stale ∨ c.state = .test then
          match best with
          | none => some (i, v)
          | some (_, u) => if u.m < v.m then some (i, v) else best
        else best) none

/-- The source in fault (R161). -/
def Retransmit.fail (o : Retransmit) (signal : Bool) : Retransmit :=
  { o with faultShown := signal, sourceFault := true, chosen := none }

/-- The source yields a value (R160). -/
def Retransmit.show (o : Retransmit) (v : RetransmitItem) (chosen : Option (Fin 8)) (d : Int) : Retransmit :=
  { o with code := codeOf v.mode v.fullScale d, faultShown := false, sourceFault := false, chosen }

/-- An output's source judged at a second tick (R158, R159). An output that is OFF judges none (R158). -/
def Retransmit.judge (o : Retransmit) (v : RetransmitItem) (channels : Tab 8 Channel) : Retransmit :=
  match v.mode with
  | .off => { o with sourceFault := false }
  | .offset | .split =>
    match v.source with
    | .channel i =>
      let c := nth channels i
      if c.state = .disabled ∨ c.state = .stale then o.fail v.signal
      else
        match c.latest.bind (·.value) with
        | some u => o.show v none u.d
        | none => { o with faultShown := false, sourceFault := false, chosen := none }
    | .stationPeak =>
      match stationPeak channels with
      | some (i, u) => o.show v (some i) u.d
      | none => o.fail v.signal

/-- Both outputs judged. -/
def State.judgeOutputs (s : State) : State :=
  { s with outputs := tab fun o => (nth s.outputs o).judge (nth s.settings.retransmit o) s.channels }

/-! ## The end of the second -/

/-- The remaining duration of a running test, and its expiry (R44). -/
def Work.countTest (w : Work) : Work :=
  if w.st.test.plan.isNone then w
  else
    let remaining := w.st.test.remaining - 1
    let w := w.map fun s => { s with test := { s.test with remaining } }
    if remaining = 0 then w.endTest .expired .station else w

/-- A proposal ends without a commit (R129, R185, R188, R189). -/
def Work.endProposal (w : Work) (cause : EndCause) (source : EventSource) : Work :=
  (w.map fun s => { s with proposal := .empty }).event .proposal source (.proposalEnded w.st.number cause)

/-- The windows of a draft and of a posted proposal (R185, R189). -/
def Work.countWindows (w : Work) : Work :=
  match w.st.proposal with
  | .draft o items idle =>
    if idle ≤ 1 then (w.endProposal .draftExpired .station).map fun s => s.notifyAll (·.addSettings 2)
    else w.map fun s => { s with proposal := .draft o items (idle - 1) }
  | .posted o items window =>
    if window ≤ 1 then (w.endProposal .confirmExpired .station).map fun s => s.notifyAll (·.addSettings 2)
    else w.map fun s => { s with proposal := .posted o items (window - 1) }
  | .empty | .committing _ _ _ => w

/-- Stage 7 of a commit (R190): the generation, the COMMIT event and the SETTINGS notice COMMITTED, and the buffer
EMPTY. It follows the records of the second (R191). -/
def State.closeCommit (s : State) : State :=
  match s.proposal with
  | .committing owner confirmer items =>
    let generation := s.generation + 1
    let s := { s with generation, proposal := .empty }.notifyAll (·.addSettings 3)
    ((Work.start s).event .proposal .station
      (.commit generation owner confirmer (items.map Item.name))).join
  | .empty | .draft _ _ _ | .posted _ _ _ => s

/-- The tick itself: the second divider begins again, and station time increases by one (R23). -/
def State.endSecond (s : State) : State :=
  { s with timebase := { s.timebase with secondDiv := 0, time := s.timebase.time + 1 } }

/-! ## The tick as a whole -/

/-- The second as it is handed to the channels: commit stages 1 to 5, retries, input seconds, the test value. -/
def tickInputs (s : State) : Work :=
  (((Work.start s.commitStages).forEach Work.retryLink).map State.formSeconds).map State.supplyTest

/-- After stages 1 to 5 of every channel. -/
def tickJudged (s : State) : Work := (tickInputs s).map State.judgeChannels

/-- After the storm decision. -/
def tickDecided (pulled : Bool) (s : State) : Work := (tickJudged s).decideStorm pulled

/-- After the baselines. -/
def tickMoved (pulled : Bool) (s : State) : Work := (tickDecided pulled s).map State.moveChannels

/-- After the results of every channel, the lines and the retransmit outputs. -/
def tickHanded (pulled : Bool) (s : State) : Work :=
  (((tickMoved pulled s).forEach (Work.handResults (tickInputs s).st.channels)).map State.evaluateLines).map
    State.judgeOutputs

/-- After the test count and the proposal windows. -/
def tickCounted (pulled : Bool) (s : State) : Work := (tickHanded pulled s).countTest.countWindows

/-- The second tick (R23, R61, R190). -/
def secondTick (pulled : Bool) (s : State) : State := (tickCounted pulled s).join.closeCommit.endSecond

/-! ## The commands of a second tick

Each names an event that falls within a second tick, which is one step: the command is the second tick at which that
event falls, and where the tick would not bring the event about, the event does not happen and nothing changes
(log 2). -/

/-- SECOND_TICK (R23). -/
def execSecondTick (pulled : Bool) (s : State) : Host.Outcome State Fault Refusal := .next (secondTick pulled s)

/-- Whether a second tick brings the retry of a link about (R8): LOST, and not restarted by a commit at this tick. -/
def retries (n : Fin 8) (s : State) : Bool := (nth s.commitStages.links n).state == .lost

/-- LINK_RETRY (R8). -/
def execLinkRetry (n : Fin 8) (pulled : Bool) (s : State) : Host.Outcome State Fault Refusal :=
  .next (if retries n s then secondTick pulled s else s)

/-- Whether a second tick takes a channel to STALE (R58). -/
def goesStale (c : Fin 8) (s : State) : Bool :=
  let before := (nth (tickInputs s).st.channels c).state
  (before == .learning || before == .armed) && (nth (tickJudged s).st.channels c).state == .stale

/-- STALE_ENTRY (R58). -/
def execStaleEntry (c : Fin 8) (pulled : Bool) (s : State) : Host.Outcome State Fault Refusal :=
  .next (if goesStale c s then secondTick pulled s else s)

/-- Whether a second tick ends a channel's LEARNING (R55). -/
def endsLearning (c : Fin 8) (pulled : Bool) (s : State) : Bool :=
  (nth (tickDecided pulled s).st.channels c).state == .learning &&
    (nth (tickMoved pulled s).st.channels c).state == .armed

/-- LEARNING_END (R55). -/
def execLearningEnd (c : Fin 8) (pulled : Bool) (s : State) : Host.Outcome State Fault Refusal :=
  .next (if endsLearning c pulled s then secondTick pulled s else s)

/-- Whether a second tick ends the storm tail (R93). -/
def endsTail (pulled : Bool) (s : State) : Bool :=
  (tickJudged s).st.storm.state == .tail && (tickDecided pulled s).st.storm.state == .quiet

/-- TAIL_END (R93). -/
def execTailEnd (pulled : Bool) (s : State) : Host.Outcome State Fault Refusal :=
  .next (if endsTail pulled s then secondTick pulled s else s)

/-- Whether the test running at a second tick, one started by a commit at it among them, expires at it (R44). -/
def expiresTest (s : State) : Bool :=
  (tickInputs s).st.test.plan.isSome && decide ((tickInputs s).st.test.remaining ≤ 1)

/-- TEST_EXPIRY (R44). -/
def execTestExpiry (pulled : Bool) (s : State) : Host.Outcome State Fault Refusal :=
  .next (if expiresTest s then secondTick pulled s else s)

/-- Whether the draft idle count runs out at a second tick (R185). -/
def expiresDraft (s : State) : Bool :=
  match s.proposal with
  | .draft _ _ idle => decide (idle ≤ 1)
  | .empty | .posted _ _ _ | .committing _ _ _ => false

/-- DRAFT_EXPIRY (R185). -/
def execDraftExpiry (pulled : Bool) (s : State) : Host.Outcome State Fault Refusal :=
  .next (if expiresDraft s then secondTick pulled s else s)

/-- Whether the confirm window runs out at a second tick (R189). -/
def expiresConfirm (s : State) : Bool :=
  match s.proposal with
  | .posted _ _ window => decide (window ≤ 1)
  | .empty | .draft _ _ _ | .committing _ _ _ => false

/-- CONFIRM_EXPIRY (R189). -/
def execConfirmExpiry (pulled : Bool) (s : State) : Host.Outcome State Fault Refusal :=
  .next (if expiresConfirm s then secondTick pulled s else s)

/-- Whether a second tick commits a proposal (R190). -/
def commits (s : State) : Bool :=
  match s.proposal with
  | .committing _ _ _ => true
  | .empty | .draft _ _ _ | .posted _ _ _ => false

/-- COMMIT (R190). -/
def execCommit (pulled : Bool) (s : State) : Host.Outcome State Fault Refusal :=
  .next (if commits s then secondTick pulled s else s)

end Sys2Proof.Machine
end

