-- ==== Sys2Proof/Machine/Wire.lean ====
section
/-! DEFINITION. What leaves the part as bytes: the 48-byte layout of a store record (R196), and a reply frame, its
header, body and CRC-16 (R169, R195). Log 13 says how the list of a reply body's fields is read. -/

namespace Sys2Proof.Machine

/-! ## Widths -/

/-- A value in one byte. -/
def b1 (n : Nat) : List Byte := [BitVec.ofNat 8 n]

/-- A value in two bytes, high byte first (R193). -/
def b2 (n : Nat) : List Byte := bytes2 (BitVec.ofNat 16 n)

/-- A value in four bytes, high byte first. -/
def b4 (n : Nat) : List Byte := bytes4 (BitVec.ofNat 32 n)

/-- A signed value in four bytes, two's complement (R193). -/
def s4 (i : Int) : List Byte := bytes4 (BitVec.ofInt 32 i)

/-- A signed value in two bytes, two's complement: the width of a field that is no enumeration, flag, mask, shift or
count and whose range fits in 16 bits (R195). -/
def s2 (i : Int) : List Byte := bytes2 (BitVec.ofInt 16 i)

/-- A yes or no value: no 0, yes 1 (R195). -/
def flagByte (f : Bool) : List Byte := b1 f.toNat

/-- A field that may be absent: a presence byte, and value bytes that are 0 when it is absent (R195). -/
def optional {α : Type} (width : Nat) (f : α → List Byte) (x : Option α) : List Byte :=
  match x with
  | some v => b1 1 ++ f v
  | none => b1 0 ++ List.replicate width 0#8

/-! ## Enumeration codes (R195, R196) -/

def Status.byte (s : Status) : Nat :=
  match s with
  | .done => 0
  | .queued => 1
  | .pending => 2
  | .emptySlot => 3
  | .discarded => 4
  | .busy => 5
  | .refused => 6
  | .badArgument => 7
  | .invalid => 8
  | .unknownRequest => 9
  | .frameError => 10
  | .notPending => 11
  | .restarted => 12

def AlarmState.byte (s : AlarmState) : Nat :=
  match s with
  | .normal => 0
  | .raised => 1
  | .accepted => 2
  | .returned => 3

def LinkState.byte (s : LinkState) : Nat :=
  match s with
  | .off => 0
  | .seeking => 1
  | .locked => 2
  | .slipped => 3
  | .lost => 4

def StormState.byte (s : StormState) : Nat :=
  match s with
  | .quiet => 0
  | .storm => 1
  | .tail => 2

def portByte (p : PortId) : Nat :=
  match p with
  | .a => 1
  | .b => 2
  | .c => 3

def ChannelState.byte (s : ChannelState) : Nat :=
  match s with
  | .disabled => 0
  | .learning => 1
  | .armed => 2
  | .stale => 3
  | .test => 4

/-- LEARNING or ARMED as a state left, in the coding of the channel states. -/
def StateLeft.byte (l : StateLeft) : Nat := l.state.byte

def HeadCommand.byte (c : HeadCommand) : Nat := c.code.toNat

def TestForm.byte (f : TestForm) : Nat :=
  match f with
  | .level => 0
  | .ramp => 1
  | .square => 2
  | .prbs => 3

def PwmMode.byte (m : PwmMode) : Nat :=
  match m with
  | .off => 0
  | .offset => 1
  | .split => 2

def PwmSource.byte (s : PwmSource) : Nat :=
  match s with
  | .channel c => c.val
  | .stationPeak => 8

def LineMode.byte (m : LineMode) : Nat :=
  match m with
  | .active => 0
  | .unack => 1
  | .any => 2

def Slot.byte (s : Slot) : Nat :=
  match s with
  | .idle => 0
  | .working _ => 1
  | .ready _ => 2

def Proposal.byte (p : Proposal) : Nat :=
  match p with
  | .empty => 0
  | .draft _ _ _ => 1
  | .posted _ _ _ => 2
  | .committing _ _ _ => 3

/-- The access in progress, which may be none (R139). The accesses there are number from 0 in the order of R139: a
write, then a copy for A, B or C (log 13). -/
def Access.code (a : Access) : Option Nat :=
  match a with
  | .idle => none
  | .write _ => some 0
  | .copy p _ => some (portByte p)

def LinkCause.byte (c : LinkCause) : Nat :=
  match c with
  | .acquired => 0
  | .realigned => 1
  | .mark => 2
  | .silent => 3
  | .badFrames => 4
  | .noRelock => 5
  | .retry => 6
  | .enabled => 7
  | .disabled => 8
  | .address => 9

def AlarmCause.byte (c : AlarmCause) : Nat :=
  match c with
  | .condition => 0
  | .acknowledge => 1
  | .reset => 2

def EndCause.byte (c : EndCause) : Nat :=
  match c with
  | .withdrawn => 0
  | .draftExpired => 1
  | .confirmExpired => 2
  | .portRestart => 3

def TestCause.byte (c : TestCause) : Nat :=
  match c with
  | .commit => 0
  | .expired => 1
  | .stopped => 2

def ClearCause.byte (c : ClearCause) : Nat :=
  match c with
  | .clear => 0
  | .partition => 1
  | .wrap => 2

def EventSource.byte (s : EventSource) : Nat :=
  match s with
  | .channel c => c.val
  | .input n => 16 + n.val
  | .port p => 31 + portByte p
  | .station => 48

/-! ## Store records (R196) -/

/-- An event record's type: its kind plus 1, in the order of R130. -/
def EventBody.type (b : EventBody) : Nat :=
  match b with
  | .alarm _ _ _ _ _ => 1
  | .ack _ _ _ => 2
  | .link _ _ _ _ => 3
  | .storm _ _ _ => 4
  | .commit _ _ _ _ => 5
  | .proposalEnded _ _ => 6
  | .test _ _ _ _ => 7
  | .time _ _ _ => 8
  | .headCmd _ _ _ => 9
  | .zeroEnd _ _ => 10
  | .start => 11
  | .historyCleared _ _ => 12

/-- An event's body bytes, from byte 12 on. -/
def EventBody.bytes (b : EventBody) : List Byte :=
  match b with
  | .alarm i was now value cause => b1 i ++ b1 was.byte ++ b1 now.byte ++ b1 cause.byte ++ b4 value
  | .ack p count entries => b1 (portByte p) ++ b1 count ++ bytes4 entries
  | .link n was now cause => b1 n ++ b1 was.byte ++ b1 now.byte ++ b1 cause.byte
  | .storm was now nExc => b1 was.byte ++ b1 now.byte ++ b1 nExc
  | .commit generation poster confirmer items =>
    bytes2 generation ++ b1 (portByte poster) ++ b1 ((confirmer.map portByte).getD 0) ++ b1 items.length ++
      items.flatMap fun i => b1 (16 * i.1 + i.2)
  | .proposalEnded number cause => bytes2 number ++ b1 cause.byte
  | .test ended inputs form cause => flagByte ended ++ [inputs] ++ b1 form.byte ++ b1 cause.byte
  | .time old new p => bytes4 old ++ bytes4 new ++ b1 (portByte p)
  | .headCmd n command dropped => b1 n ++ b1 command.byte ++ flagByte dropped
  | .zeroEnd n channels => b1 n ++ [channels]
  | .start => []
  | .historyCleared cause rings => b1 cause.byte ++ bytes2 rings

/-- Bytes filled up with 0 to a slot's 48 (R196: unused bytes are written as 0). -/
def fillSlot (bs : List Byte) : List Byte := (bs ++ List.replicate 48 0#8).take 48

/-- A record in its 48-byte layout (R196). -/
def StoredRecord.bytes (r : StoredRecord) : List Byte :=
  match r.record with
  | .interval v =>
    fillSlot (b1 0 ++ b1 v.channel ++ b4 r.seq ++ bytes4 v.start ++ b2 v.length ++ b2 v.dataSeconds ++
      bytes2 v.flags ++ s4 (v.meanD.getD 0) ++ s4 ((v.dRange.map (·.1)).getD 0) ++
      s4 ((v.dRange.map (·.2)).getD 0) ++ b4 v.peakE ++ s4 v.b ++ b4 v.x)
  | .event e =>
    fillSlot (b1 e.body.type ++ b1 e.source.byte ++ b4 r.seq ++ bytes4 e.time ++ b2 e.loss ++ e.body.bytes)

/-! ## Settings items as DRAFT ITEM carries them (R195) -/

/-- An item's field bytes; the expected head address and the prescale go as one byte each, by value (log 35). -/
def Item.bytes (i : Item) : List Byte :=
  match i with
  | .map _ v =>
    flagByte v.enabled ++ b1 v.primary ++
      optional 2 (fun s : Fin 8 × Bool => b1 s.1 ++ flagByte (!s.2)) v.secondary
  | .analysis _ v =>
    b1 v.baselineShift ++ flagByte (v.startMode == .learn) ++ b1 v.decayShift ++ b1 v.staleLimit
  | .levels _ v => b4 v.excT ++ b4 v.excH ++ b4 v.warnT ++ b4 v.warnH ++ b4 v.alarmT ++ b4 v.alarmH
  | .exposure _ v => b4 v.knee ++ b4 v.cooling ++ b4 v.limit
  | .link _ v => flagByte v.enabled ++ b1 v.address.toNat
  | .policy v => flagByte v.warn ++ flagByte v.alarm ++ flagByte v.exposure ++ flagByte v.data
  | .output _ v =>
    [v.channels] ++ b1 v.kinds.toNat ++ b1 v.mode.byte ++ flagByte v.includeTest ++ flagByte v.failsafe
  | .station v => b1 v.stormCount ++ b2 v.stormHold ++ flagByte v.joinExternal ++ flagByte v.drivePin
  | .recording v => b2 v.normal ++ b2 v.storm
  | .partition sizes => sizes.toList.flatMap b2
  | .timebase d => b2 d
  | .retransmit _ v =>
    b1 v.mode.byte ++ b1 v.source.byte ++ b4 v.fullScale ++ b1 v.prescale ++ flagByte v.signal
  | .test v =>
    [v.inputs] ++ b1 v.form.byte ++ s4 v.amplitude ++ s4 v.slope ++ b2 v.halfPeriod ++ b2 v.seed.toNat ++
      b2 v.duration
  | .clear => []

/-! ## Reply bodies (R195) -/

/-- GET CHANNEL, in the order of R76. -/
def Channel.report (c : Channel) : List Byte :=
  b1 c.state.byte ++ optional 1 (fun l : StateLeft => b1 l.byte) (if c.state = .stale then some c.left else none) ++
    optional 19
      (fun l : LatestSecond => bytes4 l.stamp ++ optional 4 s4 (l.value.map (·.g)) ++
        optional 4 s4 (l.value.map (·.d)) ++ optional 4 b4 (l.value.map (·.m))) c.latest ++
    s4 c.b ++ b4 c.e ++ flagByte c.conds.excursion ++ flagByte c.conds.warn ++ flagByte c.conds.alarm ++
    flagByte c.conds.exposure ++ flagByte c.data ++ b4 c.x ++ b2 c.absence ++ b1 c.learned

/-- A held head word with every field, and its age (R19); the command echo goes as one byte (log 35). -/
def HeldWord.report (w : HeldWord) : List Byte :=
  flagByte (wordFault w.bits) ++ flagByte (wordSupplyLow w.bits) ++ flagByte (wordZeroing w.bits) ++
    b1 (wordEcho w.bits).toNat ++ b1 (wordCounter w.bits).toNat ++ s2 (wordTemperature w.bits).toInt ++ b2 w.age

/-- GET HEAD, in the order of R19 and R29; the expected head address goes as one byte (log 35). -/
def Link.report (l : Link) (address : BitVec 3) (latest : Option InputSecond) : List Byte :=
  b1 l.state.byte ++ b1 address.toNat ++ b1 l.badRun ++ b1 l.goodCycles ++ b1 l.slipCycles ++
    flagByte l.command.isSome ++ b1 ((l.command.map HeadCommand.byte).getD 0) ++ flagByte l.zeroPending ++
    flagByte l.zeroing ++ optional 9 HeldWord.report l.word ++
    optional 10 (fun v : InputSecond => optional 4 s4 v.value ++ b1 v.n ++ bytes4 v.stamp) latest

/-- One entry's fields, in the order of R98. -/
def AlarmEntry.report (e : AlarmEntry) : List Byte :=
  b1 e.state.byte ++ b1 e.raises ++ optional 4 bytes4 e.lastRaise ++ optional 4 bytes4 e.lastChange ++ b4 e.peak ++
    optional 1 (fun p => b1 (portByte p)) e.ackPort ++ flagByte e.mark

/-- A level: high 1, low 0 (log 27: no rule codes a level). -/
def levelByte (high : Bool) : List Byte := b1 high.toNat

/-- GET ALARMS, in the order of R115. The level of a line's pin goes as `levelByte` codes it (log 27). -/
def alarmsReport (entries : Tab 32 AlarmEntry) (c : Fin 8) (lines : Tab 4 Line) : List Byte :=
  entries.toList.flatMap (fun e => b1 e.state.byte) ++
    alarmKinds.flatMap (fun k => (nth entries (entryOf c k)).report) ++
    lines.toList.flatMap (fun l => optional 2 (fun on => flagByte on ++ levelByte l.pin) l.asserted)

/-- One retransmit output, in the order of R165; the prescale goes as one byte, its value (log 35). -/
def Retransmit.report (o : Retransmit) : List Byte :=
  s2 o.code ++ flagByte o.faultShown ++ flagByte o.sourceFault ++ optional 1 (fun c : Fin 8 => b1 c) o.chosen ++
    b1 o.period.mode.byte ++ b1 o.period.prescale

/-- GET STATION, in the order of R174, R49, R97, R139 and R165. The level of the SOLO strap is 1 when it is tied and 0
when it is not, and the level of the STORM wire goes as `levelByte` codes it (log 27). The access in progress,
which may be none, stands behind a presence byte (log 13). -/
def StationReport.bytes (r : StationReport) : List Byte :=
  flagByte r.solo ++
    (flagByte r.test.plan.isSome ++ optional 16 (fun p => (Item.test p).bytes) r.test.plan ++
      optional 2 b2 (r.test.plan.map fun _ => r.test.remaining) ++ optional 4 s4 r.test.supplied) ++
    (b1 r.storm.state.byte ++ b2 r.storm.tail ++ b1 r.storm.nExc ++ flagByte r.storm.localStorm ++
      optional 2 (fun w : WireSample => levelByte w.high ++ flagByte w.ownPull) r.storm.wire ++
      flagByte r.storm.station ++ flagByte r.storm.pull ++ optional 4 bytes4 r.storm.stamp) ++
    (r.ringSizes.toList.flatMap b2 ++ r.heads.toList.flatMap (fun h => b4 h.1 ++ b4 h.2) ++ b1 r.queueCount ++
      b2 r.loss ++ optional 1 b1 r.access.code) ++
    r.outputs.toList.flatMap Retransmit.report

/-- The owner of the proposal buffer, none in EMPTY (R192). -/
def Proposal.owner (p : Proposal) : Option PortId :=
  match p with
  | .empty => none
  | .draft o _ _ => some o
  | .posted o _ _ => some o
  | .committing o _ _ => some o

/-- The items held. -/
def Proposal.items (p : Proposal) : List Item :=
  match p with
  | .empty => []
  | .draft _ i _ => i
  | .posted _ i _ => i
  | .committing _ _ i => i

/-- The draft idle count, in DRAFT. -/
def Proposal.idle (p : Proposal) : Option Nat :=
  match p with
  | .draft _ _ n => some n
  | _ => none

/-- The confirm count, in POSTED. -/
def Proposal.window (p : Proposal) : Option Nat :=
  match p with
  | .posted _ _ n => some n
  | _ => none

/-- GET PROPOSAL, in the order of R192. -/
def ProposalReport.bytes (r : ProposalReport) : List Byte :=
  b1 r.proposal.byte ++ optional 1 (fun p => b1 (portByte p)) r.proposal.owner ++ bytes2 r.number ++
    optional 1 b1 r.proposal.idle ++ optional 1 b1 r.proposal.window ++ b1 r.proposal.items.length ++
    r.proposal.items.flatMap (fun i => b1 i.name.1 ++ b1 i.name.2) ++ optional 0 Item.bytes r.contents

/-- GET NOTICES: the flags, then the details in category bit order (R195). -/
def Notices.bytes (n : Notices) : List Byte :=
  [n.flags, n.alarm] ++ bytes2 n.half ++ bytes2 n.overwrite ++ [n.settings, n.link, n.test, n.reply, n.time]

/-- COLLECT, DONE (R195). -/
def batchBytes (b : Batch) (skip : Nat) : List Byte :=
  b1 b.ring ++ b4 b.start ++ b1 b.records.length ++ flagByte b.gap ++ b4 b.oldest ++ b4 b.next ++ b2 skip ++
    b.records.flatMap StoredRecord.bytes

/-- A reply's body bytes. -/
def ReplyBody.bytes (b : ReplyBody) : List Byte :=
  match b with
  | .empty => []
  | .channel c => c.report
  | .head l address latest => l.report address latest
  | .alarms entries c lines => alarmsReport entries c lines
  | .station r => r.bytes
  | .setting i => i.bytes
  | .proposal r => r.bytes
  | .acknowledged count entries => b1 count ++ bytes4 entries
  | .place r cursor oldest next skip => b1 r ++ b4 cursor ++ b4 oldest ++ b4 next ++ b2 skip
  | .queued r count start => b1 r ++ b1 count ++ b4 start
  | .batch b skip => batchBytes b skip
  | .cursors cs => cs.toList.flatMap fun c => b4 c.cursor ++ b2 c.skip
  | .drafted count position => b1 count ++ b1 position
  | .posted number committing => bytes2 number ++ b1 (if committing then 3 else 2)
  | .invalid check c => b1 check ++ b1 c
  | .notices n => n.bytes
  | .mask m flags => [m, flags]
  | .option on => flagByte on
  | .restarted portRestart => flagByte portRestart

/-- The reply header with its live fields as they stand (R169, R195). Its proposal field is the buffer's state and the
proposal number, as those rules list it, and no owner, which R184 would see there (log 29). -/
def State.header (s : State) (p : PortId) (r : Reply) : List Byte :=
  let q := s.port p
  b1 r.status.byte ++ [r.code] ++ b1 r.body.bytes.length ++ bytes2 s.generation ++ bytes4 s.timebase.time ++
    b1 q.slot.byte ++ [q.raised] ++ b1 s.proposal.byte ++ bytes2 s.number

/-- The reply frame that a transfer beginning now carries (R169): header, body, and the CRC-16 over both. -/
def State.replyFrame (s : State) (p : PortId) : List Byte :=
  let r := (s.port p).due
  let frame := s.header p r ++ r.body.bytes
  frame ++ bytes2 (crc16 frame)

end Sys2Proof.Machine
end

