-- ==== Sys2Proof/WellFormed.lean ====
section
/-! DEFINITION. Which commands can stand for something that happens at the part. Most operands are well formed at
every value: an out-of-range argument is answered by its request. One carries bytes of a length of its own, and one
bits that make up no request. -/

namespace Sys2Proof

/-- A DRAFT ITEM that is taken has the field bytes of its kind, or at most 248 of them when its kind byte names no
kind (R168); a FRAME ERROR carries bits that the decoder does not take (R168). -/
def Instr.wellFormed (i : Instr) : Bool :=
  match i with
  | .draftItem _ kind index fields => lengthTaken 23 (kind :: index :: fields)
  | .frameError p bits =>
    match judgeTransfer p false bits with
    | .request _ => false
    | .frameError | .unknownRequest => true
  | _ => true

end Sys2Proof
end

