-- ==== Sys2Proof/Machine/Transfers.lean ====
section
/-! DEFINITION. The port transfers as such: TRANSFER_START (R166, R169), what SDO shows through a transfer (R166, R195),
and FRAME_ERROR (R168). -/

namespace Sys2Proof.Machine

/-- TRANSFER_START: SEL falls, and the reply frame that the transfer carries is fixed, its live header fields as they
stand (R169). On a port whose SEL is low already, it does not fall (log 2). -/
def execTransferStart (p : PortId) (s : State) : Host.Outcome State Fault Refusal :=
  .next <|
    match (s.port p).transfer with
    | .idle => s.updPort p fun q => { q with transfer := .active (s.replyFrame p) }
    | .active _ | .ignored => s

/-- The port's SDO output after so many falling edges of SCK in a transfer (R166): none while SEL is high, for SDO is
driven only while SEL is low; from the fall of SEL the first bit of the reply frame, one bit further at each falling
edge, the most significant bit of each byte first; and bits of 0 once the frame is out whole (R195, Filler). What the
rest of a transfer shows that a reset has cut no rule states (R172): a free value (log 10). -/
def Transfer.sdo (t : Transfer) (falls : Nat) : Option Bool :=
  match t with
  | .idle => none
  | .active frame => some ((bitsOf frame).getD falls false)
  | .ignored => some (Config.sdoAfterReset falls)

/-- The reply to a frame that is not taken: it echoes the first byte clocked in, or 0 (R168). -/
def errorReply (status : Status) (bytes : List Byte) : Reply := bare status (bytes.headD 0)

/-- FRAME_ERROR: a transfer ends whose frame is cut short, fails its CRC or length check, or names no request (R168).
Bits that carry a request are that request's command, and no frame error happens (log 2). -/
def execFrameError (p : PortId) (bits : List Bool) (s : State) : Host.Outcome State Fault Refusal :=
  .next <|
    match judgeTransfer p s.solo bits with
    | .frameError => s.endTransfer p fun s => (s, errorReply .frameError (wholeBytes bits))
    | .unknownRequest => s.endTransfer p fun s => (s, errorReply .unknownRequest (wholeBytes bits))
    | .request _ => s

end Sys2Proof.Machine
end

