-- ==== Sys2Proof/Machine/Clock.lean ====
section
/-! DEFINITION. One period of the part's own clock (log 8): what REFCLK moves when no command is waiting, and the
events that it brings about, which join the queue as commands (R20, R23, R135, R149, R162, R163). -/

namespace Sys2Proof.Machine

/-- A discard timer runs in READY alone (R149). -/
def Port.clock (q : Port) : Port :=
  match q.slot with
  | .ready _ => { q with timer := q.timer - 1 }
  | .idle | .working _ => q

/-- The counters one REFCLK period on: both dividers, the discard timers and the PWM period counters. -/
def State.clock (s : State) : State :=
  { s with
    timebase := { s.timebase with frameDiv := s.timebase.frameDiv + 1, secondDiv := s.timebase.secondDiv + 1 }
    ports := s.ports.all Port.clock
    outputs := tab fun o => { nth s.outputs o with counter := (nth s.outputs o).counter + 1 } }

/-- A command when its event falls. -/
def whenDue (due : Bool) (i : Instr) : List Instr := if due then [i] else []

/-- Whether a port's discard timer has run out (R149, R152). -/
def Port.discardDue (q : Port) : Bool :=
  match q.slot with
  | .ready _ => q.timer == 0
  | .idle | .working _ => false

/-- The event of a retransmit output at this count: its period over (R162), or its pulse (R163). -/
def Retransmit.due (o : Retransmit) (i : Fin 2) : List Instr :=
  if o.period.length ≤ o.counter then [.pwmPeriodStart i]
  else whenDue (o.period.pulse.any fun n => o.counter == n * o.period.prescale) (.pwmPulseEnd i)

/-- The event of the store: a grant that the arbiter has to give (R135), or the end of the access in progress, whose
moment is left free (log 6). -/
def State.storeDue (s : State) (ends : Bool) : List Instr :=
  match s.store.access with
  | .idle => whenDue (!s.store.queue.isEmpty || s.nextWorking.isSome) .storeGrant
  | .write _ => whenDue ends .writeComplete
  | .copy _ _ => whenDue ends .copyComplete

/-- The events that the counters have brought about. `pulled` says whether another part pulls the STORM wire low
(log 4). -/
def State.due (s : State) (pulled ends : Bool) : List Instr :=
  whenDue (decide (s.timebase.framePeriod ≤ s.timebase.frameDiv)) .frameTick ++
    whenDue (decide (secondPeriods ≤ s.timebase.secondDiv)) (.secondTick pulled) ++
    whenDue s.ports.a.discardDue (.discardTimerExpiry .a) ++
    whenDue s.ports.b.discardDue (.discardTimerExpiry .b) ++
    whenDue s.ports.c.discardDue (.discardTimerExpiry .c) ++
    (nth s.outputs 0).due 0 ++ (nth s.outputs 1).due 1 ++ s.storeDue ends

/-- The order in which events that fall together are taken: left free (log 7). -/
def clockOrder : Nat → Nat → List Instr → List Instr
  | 0, _, l => l
  | fuel + 1, seed, l =>
    match l with
    | [] => []
    | [i] => [i]
    | h :: _ =>
      let c := l.getD (Config.pick seed % l.length) h
      c :: clockOrder fuel (seed + 1) (l.erase c)

/-- One REFCLK period with no command waiting (log 8): the counters move, and the events that fall join the queue. -/
def State.idle (s : State) : State :=
  let t := s.clock
  let events := t.due (Config.stormPulled s.free) (Config.accessEnds s.free)
  { t with pending := s.pending ++ clockOrder events.length s.free events, free := s.free + events.length + 1 }

end Sys2Proof.Machine
end

