-- ==== Sys2Proof/Machine/Dispatch.lean ====
section
/-! DEFINITION. One arm for each command: a direct call of its meaning. -/

namespace Sys2Proof.Machine

def exec (i : Instr) (s : State) : Host.Outcome State Fault Refusal :=
  match i with
  | .powerOnReset solo => Sys2Proof.Machine.execPowerOnReset solo s
  | .frameTick => Sys2Proof.Machine.execFrameTick s
  | .frameArrival input frame => Sys2Proof.Machine.execFrameArrival input frame s
  | .headCmdStart input => Sys2Proof.Machine.execHeadCmdStart input s
  | .headCmdSent input => Sys2Proof.Machine.execHeadCmdSent input s
  | .linkRetry input pulled => Sys2Proof.Machine.execLinkRetry input pulled s
  | .secondTick pulled => Sys2Proof.Machine.execSecondTick pulled s
  | .staleEntry channel pulled => Sys2Proof.Machine.execStaleEntry channel pulled s
  | .learningEnd channel pulled => Sys2Proof.Machine.execLearningEnd channel pulled s
  | .tailEnd pulled => Sys2Proof.Machine.execTailEnd pulled s
  | .testExpiry pulled => Sys2Proof.Machine.execTestExpiry pulled s
  | .draftExpiry pulled => Sys2Proof.Machine.execDraftExpiry pulled s
  | .confirmExpiry pulled => Sys2Proof.Machine.execConfirmExpiry pulled s
  | .commit pulled => Sys2Proof.Machine.execCommit pulled s
  | .storeGrant => Sys2Proof.Machine.execStoreGrant s
  | .writeComplete => Sys2Proof.Machine.execWriteComplete s
  | .copyComplete => Sys2Proof.Machine.execCopyComplete s
  | .discardTimerExpiry port => Sys2Proof.Machine.execDiscardTimerExpiry port s
  | .pwmPeriodStart output => Sys2Proof.Machine.execPwmPeriodStart output s
  | .transferStart port => Sys2Proof.Machine.execTransferStart port s
  | .frameError port bits => Sys2Proof.Machine.execFrameError port bits s
  | .nop port => Sys2Proof.Machine.execNop port s
  | .getChannel port channel => Sys2Proof.Machine.execGetChannel port channel s
  | .getHead port input => Sys2Proof.Machine.execGetHead port input s
  | .getAlarms port channel => Sys2Proof.Machine.execGetAlarms port channel s
  | .getStation port => Sys2Proof.Machine.execGetStation port s
  | .getSetting port kind index => Sys2Proof.Machine.execGetSetting port kind index s
  | .getProposal port position => Sys2Proof.Machine.execGetProposal port position s
  | .acknowledge port selector mask => Sys2Proof.Machine.execAcknowledge port selector mask s
  | .setTime port time => Sys2Proof.Machine.execSetTime port time s
  | .sendHeadCommand port input code => Sys2Proof.Machine.execSendHeadCommand port input code s
  | .stopTest port => Sys2Proof.Machine.execStopTest port s
  | .seek port ring sequence => Sys2Proof.Machine.execSeek port ring sequence s
  | .rewind port ring => Sys2Proof.Machine.execRewind port ring s
  | .fetch port ring count => Sys2Proof.Machine.execFetch port ring count s
  | .collect port => Sys2Proof.Machine.execCollect port s
  | .cancel port => Sys2Proof.Machine.execCancel port s
  | .draftItem port kind index fields => Sys2Proof.Machine.execDraftItem port kind index fields s
  | .post port => Sys2Proof.Machine.execPost port s
  | .confirm port number => Sys2Proof.Machine.execConfirm port number s
  | .withdraw port => Sys2Proof.Machine.execWithdraw port s
  | .getNotices port => Sys2Proof.Machine.execGetNotices port s
  | .setNoticeMask port mask => Sys2Proof.Machine.execSetNoticeMask port mask s
  | .setPortOptions port option => Sys2Proof.Machine.execSetPortOptions port option s
  | .restartPort port => Sys2Proof.Machine.execRestartPort port s
  | .pwmPulseEnd output => Sys2Proof.Machine.execPwmPulseEnd output s

end Sys2Proof.Machine
end

