-- ==== Sys2Proof/Safety.lean ====
section
/-! DEFINITION. What a sound state of the part is: the bounds and matches that the manual states of the machine as a
whole. Each is meant to hold at power-on and to be kept by every step. -/

namespace Sys2Proof.Machine

/-! ## The Record Writer and the History Store -/

/-- The write queue holds at most 64 records (R131), and the loss count stays within its range (R132). -/
def State.queueBounded (s : State) : Prop := s.store.queue.length ≤ 64 ∧ s.store.loss ≤ 65535

/-- A ring holds the records numbered oldest up to next − 1, in order, no more than its slots, and its heads lie within
1..4,294,967,295 (R119). -/
def Ring.sound (r : Ring) (size : Nat) : Prop :=
  1 ≤ r.oldest ∧ r.oldest ≤ r.next ∧ r.next ≤ topSequence ∧ r.next - r.oldest ≤ size ∧
    r.records.map (·.seq) = List.range' r.oldest (r.next - r.oldest)

/-- Every ring is sound, and a write in progress goes to a ring whose numbers are not used up (R121). -/
def State.ringsSound (s : State) : Prop :=
  (∀ r, (nth s.store.rings r).sound (s.settings.ringSize r)) ∧
    ∀ q, s.store.access = .write q → (nth s.store.rings q.ring).next < topSequence

/-- For every ring and every port, the port's cursor lies within oldest..next of that ring (R140). -/
def State.cursorsWithin (s : State) : Prop :=
  ∀ p r, (nth s.store.rings r).oldest ≤ (nth (s.port p).cursors r).cursor ∧
    (nth (s.port p).cursors r).cursor ≤ (nth s.store.rings r).next

/-! ## Channels -/

/-- Every exposure lies within 0..2·X_lim of the limit in force, in the channel and in its snapshot (R85). -/
def State.exposureBounded (s : State) : Prop :=
  ∀ c, (nth s.channels c).x ≤ 2 * (nth s.settings.exposure c).limit ∧
    ∀ n, nth s.test.snapshots c = some n → n.x ≤ 2 * (nth s.settings.exposure c).limit

/-- A current within −131071..131071. -/
def inCurrentRange (i : Int) : Prop := -131071 ≤ i ∧ i ≤ 131071

/-- A test plan whose amplitude is one that R37 admits. -/
def Item.amplitudeInRange (i : Item) : Prop := ∀ v, i = .test v → inCurrentRange v.amplitude

/-- Envelope, baseline and deviation within their ranges in every channel (R66), with what feeds them: snapshots, the
running plan and the plans that wait in the proposal buffer (R37, R41). -/
def State.currentsBounded (s : State) : Prop :=
  (∀ c, (nth s.channels c).eAcc ≤ 256 * 131071 ∧
      -(131071 * 65536) ≤ (nth s.channels c).bAcc ∧ (nth s.channels c).bAcc ≤ 131071 * 65536 ∧
      (∀ l v, (nth s.channels c).latest = some l → l.value = some v → inCurrentRange v.d) ∧
      ∀ n, nth s.test.snapshots c = some n → n.eAcc ≤ 256 * 131071) ∧
    (∀ p, s.test.plan = some p → inCurrentRange p.amplitude ∧ inCurrentRange s.test.ramp) ∧
    ∀ i ∈ s.proposal.items, i.amplitudeInRange

/-! ## The Alarm Table -/

/-- An entry is active when its channel condition is true and not active when it is false (Section 6.2), a DISABLED
channel has every condition false and every entry NORMAL (R53, R104), and a snapshot is held for channels in TEST alone
(Chapter 3). -/
def State.alarmsMatched (s : State) : Prop :=
  ∀ c, (∀ k, (nth s.alarms (entryOf c k)).state.active = (nth s.channels c).condition k) ∧
    ((nth s.channels c).state = .disabled →
      (nth s.channels c).conds = .none ∧ ∀ k, (nth s.alarms (entryOf c k)).state = .normal) ∧
    ((nth s.test.snapshots c).isSome → (nth s.channels c).state = .test)

/-! ## Links -/

/-- A link that is not LOCKED holds no head word, no counter reference and no command (R12, R18), one that is OFF or
LOST has no frame in flight and its lines low (R1; that they go low at once is log 22), and every count is within its
range (Section 1.2). -/
def Link.sound (l : Link) : Prop :=
  (l.state ≠ .locked → l.word = none ∧ l.counterRef = none ∧ l.command = none) ∧
    (l.command = none → l.sending = false) ∧
    (l.state.requested = false → l.inFlight = none ∧ l.lck = false ∧ l.lsyncMark = false ∧ l.lsyncBit = false) ∧
    l.badRun ≤ 16 ∧ l.goodCycles ≤ 2 ∧ l.slipCycles ≤ 8

/-- Every link is sound. -/
def State.linksSound (s : State) : Prop := ∀ n, (nth s.links n).sound

/-! ## The proposal buffer -/

/-- A proposal holds 1 to 16 items, no two of one kind and index (R184), its window has not run out (R185, R189), and a
committing one was confirmed by no port of its own (R187). -/
def Proposal.sound (p : Proposal) : Prop :=
  match p with
  | .empty => True
  | .draft _ items idle => 1 ≤ items.length ∧ items.length ≤ 16 ∧ (items.map Item.name).Nodup ∧ 1 ≤ idle ∧ idle ≤ 60
  | .posted _ items window =>
    1 ≤ items.length ∧ items.length ≤ 16 ∧ (items.map Item.name).Nodup ∧ 1 ≤ window ∧ window ≤ 120
  | .committing owner confirmer items =>
    1 ≤ items.length ∧ items.length ≤ 16 ∧ (items.map Item.name).Nodup ∧ confirmer ≠ some owner

/-! ## What the statements speak of -/

/-- The port's transfer is judged when it ends, and the reply it carries is no batch, so that its delivery moves no
cursor (R151, R166, R172). -/
def State.plain (s : State) (p : PortId) : Prop :=
  (s.port p).transfer ≠ .ignored ∧ ∀ b k, (s.port p).due.body ≠ .batch b k

/-- A port whose cursor for a ring has been put at a place, its half-unread mark judged by R142's table against the
ring's size and next. -/
def Port.movedTo (q : Port) (r : Fin 9) (cursor skip size next : Nat) : Port :=
  let half := decide (size ≠ 0 ∧ size ≤ 2 * (next - cursor))
  { q with
    cursors := put q.cursors r { cursor, skip, armed := !half }
    notices := if half && (nth q.cursors r).armed then q.notices.addHalf r else q.notices }

/-- The state after a transfer of port `p` that changed nothing but the due reply (R166, step 3). -/
def State.answered (s : State) (p : PortId) (r : Reply) : State :=
  s.updPort p fun q => { q with transfer := .idle, due := r }

/-- No proposal commits at the next second tick (R190). -/
def State.uncommitted (s : State) : Prop := commits s = false

/-- No test is running, or the one that runs does not end at the next second tick (R44), so that what the tick makes of
a channel stands after it. -/
def State.testGoesOn (s : State) : Prop := s.test.plan = none ∨ 2 ≤ s.test.remaining

/-- The channel condition that feeds an alarm entry of a kind (Section 6.1): DATA is true while the channel is STALE. -/
def AlarmKind.holds (k : AlarmKind) (v : Channel) : Bool :=
  match k with
  | .warn => v.conds.warn
  | .alarm => v.conds.alarm
  | .exposure => v.conds.exposure
  | .data => v.state == .stale

/-- The value handed with a change of that condition (R74). -/
def AlarmKind.handed (k : AlarmKind) (v : Channel) : Nat :=
  match k with
  | .warn | .alarm => v.eAcc / 256
  | .exposure => v.x
  | .data => v.absence

/-- What a channel's change from `old` to `new` makes of its entry of a kind at a moment (R100, R101, R105): a rise
raises an entry that is not active, with the test mark of the new state; a fall takes an active one to RETURNED when it
was RAISED and its kind must be acknowledged, and else to NORMAL; and with no change of the condition it stands. -/
def AlarmEntry.moved (e : AlarmEntry) (k : AlarmKind) (old new : Channel) (policy : PolicyItem) (now : Time) :
    AlarmEntry :=
  match k.holds old, k.holds new with
  | false, true =>
    if e.state = .raised ∨ e.state = .accepted then e
    else
      { state := .raised, raises := if 255 ≤ e.raises then 255 else e.raises + 1, lastRaise := some now
        lastChange := some now, peak := k.handed new, ackPort := none, mark := new.state == .test }
  | true, false =>
    if e.state = .raised ∨ e.state = .accepted then
      { e with state := if e.state = .raised ∧ policy.required k = true then .returned else .normal
               lastChange := some now }
    else e
  | true, true | false, false => e

/-- The interval record made of a channel's open interval, written out from R127 with the flag bits of R196: TIME_SET is
bit 8, set where the close or the interval is marked so, and NO_DATA bit 9. -/
def Interval.record (v : Interval) (c : Fin 8) (timeSet : Bool) : IntervalRecord where
  channel := c
  start := (v.first.map (·.2)).getD 0
  length := v.length
  dataSeconds := v.dataSeconds
  meanD := if v.dataSeconds = 0 then none else some (roundDiv v.sumD v.dataSeconds)
  dRange := if v.dataSeconds = 0 then none else v.dRange
  peakE := v.peakE
  b := (v.last.map (·.1)).getD 0
  x := (v.last.map (·.2)).getD 0
  flags :=
    v.flags ||| (if timeSet = true ∨ v.timeSet = true then 0x0100#16 else 0#16) |||
      if v.dataSeconds = 0 then 0x0200#16 else 0#16

/-- What the next second tick hands to the Channel Map for an input, when no proposal commits at it, written out from
the rules: S divided by 16·n, rounded and clamped, or no value when n is 0 (R29), and for an input that a running test
targets the value of its form (R40 to R43). -/
def State.secondInput (s : State) (n : Fin 8) : Option Int :=
  let a := nth s.averagers n
  let averaged := if a.n = 0 then none else some (clamp (-131071) 131071 (roundDiv a.sum (16 * a.n)))
  match s.test.plan with
  | none => averaged
  | some p =>
    if p.inputs.getLsbD n.val then
      match p.form with
      | .level => some p.amplitude
      | .ramp => some s.test.ramp
      | .square => some (if s.test.squarePlus then p.amplitude else -p.amplitude)
      | .prbs => some (if s.test.prbs.getLsbD 14 != s.test.prbs.getLsbD 13 then p.amplitude else -p.amplitude)
    else averaged

/-- The second value g of a channel at the next second tick, when no proposal commits at it, written out from the
rules: its one input's value (R32), or the sum or difference of its two inputs' values, clamped, and absent when either
is absent (R33). -/
def State.secondValue (s : State) (c : Fin 8) : Option Int :=
  let m := nth s.settings.map c
  match m.secondary with
  | none => s.secondInput m.primary
  | some (n, plus) =>
    match s.secondInput m.primary, s.secondInput n with
    | some a, some b => some (clamp (-131071) 131071 (if plus then a + b else a - b))
    | _, _ => none

/-- Two states that differ at most in the store, the ports, the generation and the counter of free values. -/
def State.agrees (s t : State) : Prop :=
  { s with store := t.store, ports := t.ports, generation := t.generation, free := t.free } = t

/-- The state that a commit's items leave for the second which its tick ends: no proposal is left to commit. -/
def State.emptied (s : State) : State := { s with proposal := .empty }

/-- A request of port `p` (R195). -/
def isRequestOf (i : Instr) (p : PortId) : Prop := ∃ code args, requestBytes i = some (p, code, args)

/-- The link transitions of R3's table. -/
def linkTransitions : List (LinkState × LinkState) :=
  [(.seeking, .locked), (.slipped, .locked), (.locked, .slipped), (.locked, .lost), (.slipped, .lost),
    (.lost, .seeking), (.off, .seeking), (.seeking, .off), (.locked, .off), (.slipped, .off), (.lost, .off),
    (.locked, .seeking), (.slipped, .seeking)]

/-- The event record that a block hands over at this moment (R129), as it joins a queue with room (R132). -/
def State.eventRecord (s : State) (source : EventSource) (body : EventBody) : QueuedRecord :=
  { ring := 8, record := .event { time := s.timebase.time, source, body, loss := s.store.loss } }

/-- The event record that follows another event of the same step into the queue: the loss count has been carried by
the one before it (R132). -/
def State.followingRecord (s : State) (source : EventSource) (body : EventBody) : QueuedRecord :=
  { ring := 8, record := .event { time := s.timebase.time, source, body, loss := 0 } }

end Sys2Proof.Machine
end

