-- ==== Sys2Proof/Certificates/Slice0/Obligations.lean ====
section
/-! DEFINITION. The statements that are asked of the provers, one `def Obligations.<Name> : Prop` each, in the order of
OBLIGATIONS.json. `exec` answers a next state in every statement about a command: the part refuses none. -/

section

open Sys2Proof Sys2Proof.Machine

/-! ## The queue, the clock and power-on -/

/-- A waiting command is carried out by the next step, on the state with the queue's rest. -/
def Obligations.StepRunsFrontCommand : Prop :=
  ∀ (c : Instr) (rest : List Instr) (s : State),
    step { s with pending := c :: rest } = exec c { s with pending := rest }

/-- With no command waiting, one REFCLK period passes (log 8, the model's choice of what an empty queue means): the
counters move by one, nothing else changes, and the events that a count brings about join the queue. -/
def Obligations.IdleStepRunsClock : Prop :=
  ∀ s : State, s.pending = [] → ∃ t, step s = .next t ∧
    t.timebase = { s.timebase with frameDiv := s.timebase.frameDiv + 1, secondDiv := s.timebase.secondDiv + 1 } ∧
    (∀ p, t.port p =
      match (s.port p).slot with
      | .ready _ => { s.port p with timer := (s.port p).timer - 1 }
      | .idle | .working _ => s.port p) ∧
    (∀ o, nth t.outputs o = { nth s.outputs o with counter := (nth s.outputs o).counter + 1 }) ∧
    { t with pending := s.pending, timebase := s.timebase, ports := s.ports, outputs := s.outputs, free := s.free }
      = s ∧
    (Instr.frameTick ∈ t.pending ↔ s.timebase.framePeriod ≤ s.timebase.frameDiv + 1) ∧
    ((∃ pulled, Instr.secondTick pulled ∈ t.pending) ↔ 2048000 ≤ s.timebase.secondDiv + 1) ∧
    (∀ p, Instr.discardTimerExpiry p ∈ t.pending ↔ (∃ b, (s.port p).slot = .ready b) ∧ (s.port p).timer ≤ 1) ∧
    (Instr.storeGrant ∈ t.pending ↔
      s.store.access = .idle ∧ (s.store.queue ≠ [] ∨ ∃ p f, (s.port p).slot = .working f)) ∧
    (Instr.writeComplete ∈ t.pending → ∃ q, s.store.access = .write q) ∧
    (Instr.copyComplete ∈ t.pending → ∃ p r, s.store.access = .copy p r) ∧
    (∀ o, Instr.pwmPeriodStart o ∈ t.pending ↔
      128 * (nth s.outputs o).period.prescale ≤ (nth s.outputs o).counter + 1) ∧
    ∀ o, Instr.pwmPulseEnd o ∈ t.pending ↔
      (nth s.outputs o).counter + 1 < 128 * (nth s.outputs o).period.prescale ∧
        ∃ n, (nth s.outputs o).period.pulse = some n ∧
          (nth s.outputs o).counter + 1 = n * (nth s.outputs o).period.prescale

/-- POWER_ON_RESET from any state leaves every block as its own rule states it, every setting at its power-on value,
START alone in the write queue, and a transfer that was under way to be ignored. The SOLO strap is as the command has
it, and the waiting commands and the SEL lines stay (log 1, log 9, log 24); the working registers to which the manual
gives no power-on value are empty, clear or 0, and the square sign is + (log 19, the model's choice). -/
def Obligations.PowerOnState : Prop :=
  ∀ (solo : Bool) (s : State), ∃ t, exec (.powerOnReset solo) s = .next t ∧
    t.pending = s.pending ∧ t.free = s.free ∧ t.solo = solo ∧
    t.timebase = { frameDiv := 0, framePeriod := 2560, frameCounter := 0, secondDiv := 0, time := 0 } ∧
    (∀ n, nth t.links n =
      { state := .seeking, badRun := 0, badSeen := false, goodCycles := 0, slipCycles := 0, cycleGood := 0, wbits := 0,
        inFlight := none, word := none, counterRef := none, zeroPending := false, zeroSeen := false, command := none,
        sending := false, lck := false, lsyncMark := false, lsyncBit := false }) ∧
    (∀ n, nth t.averagers n = { cycleSum := 0, cycleValid := 0, sum := 0, n := 0, latest := none }) ∧
    (∀ c, nth t.settings.map c = { enabled := true, primary := c, secondary := none } ∧
      nth t.settings.analysis c = { baselineShift := 12, startMode := .zero, decayShift := 5, staleLimit := 5 } ∧
      nth t.settings.levels c =
        { excT := 300, excH := 100, warnT := 1500, warnH := 300, alarmT := 5000, alarmH := 1000 } ∧
      nth t.settings.exposure c = { knee := 1000, cooling := 200, limit := 3000000 } ∧
      nth t.settings.link c = { enabled := true, address := BitVec.ofFin c } ∧ nth t.settings.partition c = 448) ∧
    t.settings.policy = { warn := false, alarm := true, exposure := true, data := true } ∧
    nth t.settings.output 0 =
      { channels := 0xFF, kinds := 0b0110, mode := .active, includeTest := false, failsafe := false } ∧
    nth t.settings.output 1 =
      { channels := 0xFF, kinds := 0b1111, mode := .unack, includeTest := false, failsafe := false } ∧
    nth t.settings.output 2 =
      { channels := 0xFF, kinds := 0b1000, mode := .active, includeTest := false, failsafe := false } ∧
    nth t.settings.output 3 =
      { channels := 0xFF, kinds := 0b0001, mode := .active, includeTest := false, failsafe := false } ∧
    t.settings.station = { stormCount := 2, stormHold := 600, joinExternal := true, drivePin := true } ∧
    t.settings.recording = { normal := 300, storm := 30 } ∧ t.settings.divider = 1536 ∧
    nth t.settings.retransmit 0 =
      { mode := .off, source := .channel 0, fullScale := 5000, prescale := 1, signal := true } ∧
    nth t.settings.retransmit 1 =
      { mode := .off, source := .stationPeak, fullScale := 5000, prescale := 1, signal := true } ∧
    t.test =
      { plan := none, remaining := 0, ramp := 0, squareCount := 0, squarePlus := true, prbs := 0, supplied := none,
        snapshots := tab fun _ => none } ∧
    (∀ c, nth t.channels c =
      { state := .armed, left := .armed, bAcc := 0, eAcc := 0,
        conds := { excursion := false, warn := false, alarm := false, exposure := false }, x := 0, absence := 0,
        learned := 0, latest := none }) ∧
    t.storm =
      { state := .quiet, tail := 0, nExc := 0, localStorm := false, wire := none, station := false, pull := false,
        stamp := none } ∧
    (∀ i, nth t.alarms i =
      { state := .normal, raises := 0, lastRaise := none, lastChange := none, peak := 0, ackPort := none,
        mark := false }) ∧
    (∀ l, nth t.lines l = { asserted := none, pin := false }) ∧
    (∀ c, nth t.intervals c = some
      { first := none, length := 0, dataSeconds := 0, sumD := 0, dRange := none, peakE := 0, last := none, flags := 0,
        timeSet := false }) ∧
    (∀ r, nth t.store.rings r = { oldest := 1, next := 1, records := [] }) ∧
    t.store.queue =
      [{ ring := 8, record := .event { time := 0, source := .station, body := .start, loss := 0 } }] ∧
    t.store.loss = 0 ∧ t.store.access = .idle ∧ t.store.turn = .c ∧
    (∀ o, nth t.outputs o =
      { code := 0, faultShown := false, sourceFault := false, chosen := none, counter := 0,
        period := { mode := .off, prescale := 1, code := 0, fault := false }, pinA := false, pinB := false }) ∧
    (∀ p, t.port p =
      { transfer :=
          match (s.port p).transfer with
          | .idle => .idle
          | .active _ | .ignored => .ignored
        due := { status := .restarted, code := 0, body := .restarted false }
        notices := { flags := 0, alarm := 0, half := 0, overwrite := 0, settings := 0, link := 0, test := 0, reply := 0,
                     time := 0 }
        mask := 0xFF, shortDiscard := false, slot := .idle, timer := 0, discarded := false
        cursors := tab fun _ => { cursor := 1, skip := 0, armed := true } }) ∧
    t.generation = 0#16 ∧ t.number = 0#16 ∧ t.proposal = .empty


/-! ## Chapter 1 and 2: links and cycles -/

/-- A frame tick with no frame in flight: one frame is requested on every link in SEEKING, LOCKED or SLIPPED and on no
other, with the frame-0 mark and the command bit of its index; a command of a LOCKED link begins to go out at index 0
and has gone out in full at index 15, and at every index between it stays as it stands, loaded and going out or not; the
counter advances; and at index 0 a cycle begins on every input at once, from which a word of age 4 is stale (log 12, an
inference from R12). The frame divider begins again at 0 wherever it stood (log 20, the model's choice). Frames that are
still in flight at the tick are first taken as frames of 32 ones, each link by its own arrival (log 3, the model's
choice). -/
def Obligations.FrameTickRequests : Prop :=
  (∀ s : State, (∀ n, (nth s.links n).inFlight = none) → ∃ t, exec .frameTick s = .next t ∧
     t.timebase = { s.timebase with
       frameDiv := 0, framePeriod := 4096 - s.settings.divider, frameCounter := s.timebase.frameCounter + 1 } ∧
     (∀ n,
       (if (nth s.links n).state = .seeking ∨ (nth s.links n).state = .locked ∨ (nth s.links n).state = .slipped then
         (nth t.links n).inFlight =
             some { index := s.timebase.frameCounter, current := true, abandoned := false } ∧
           (nth t.links n).lck = true ∧ (nth t.links n).lsyncMark = (s.timebase.frameCounter == 0) ∧
           (nth t.links n).lsyncBit =
             (((nth s.links n).sending || ((nth s.links n).state == .locked && s.timebase.frameCounter == 0)) &&
               (nth s.links n).command.any fun c => c.code.getLsbD (3 - s.timebase.frameCounter.val % 4))
       else
         (nth t.links n).inFlight = none ∧ (nth t.links n).lck = false ∧ (nth t.links n).lsyncMark = false ∧
           (nth t.links n).lsyncBit = false) ∧
       (nth t.links n).state = (nth s.links n).state ∧ (nth t.links n).badRun = (nth s.links n).badRun ∧
       (nth t.links n).badSeen = (nth s.links n).badSeen ∧
       (nth t.links n).goodCycles = (nth s.links n).goodCycles ∧
       (nth t.links n).slipCycles = (nth s.links n).slipCycles ∧
       (nth t.links n).counterRef = (nth s.links n).counterRef ∧
       (nth t.links n).zeroPending = (nth s.links n).zeroPending ∧
       (nth t.links n).zeroSeen = (nth s.links n).zeroSeen ∧
       (let going := (nth s.links n).state = .locked ∧ (nth s.links n).command.isSome
        let last := s.timebase.frameCounter = 15 ∧ (nth s.links n).sending = true
        (nth t.links n).command = (if going ∧ last then none else (nth s.links n).command) ∧
          (nth t.links n).sending =
            (if going ∧ s.timebase.frameCounter = 0 then true else if going ∧ last then false
             else (nth s.links n).sending)) ∧
       if s.timebase.frameCounter = 0 then
         (nth t.links n).cycleGood = 0 ∧ (nth t.links n).wbits = 0#16 ∧
           (nth t.links n).word =
            (nth s.links n).word.map (fun w => { w with stale := w.stale || decide (4 ≤ w.age) }) ∧
           nth t.averagers n = { nth s.averagers n with cycleSum := 0, cycleValid := 0 }
       else
         (nth t.links n).cycleGood = (nth s.links n).cycleGood ∧ (nth t.links n).wbits = (nth s.links n).wbits ∧
           (nth t.links n).word = (nth s.links n).word ∧ nth t.averagers n = nth s.averagers n) ∧
     { t with timebase := s.timebase, links := s.links, averagers := s.averagers, store := s.store, free := s.free }
       = s ∧
     { t.store with queue := s.store.queue, loss := s.store.loss } = s.store) ∧
  ∀ (s : State) (f : Fin 8 → State), (∀ n, exec (.frameArrival n 0xFFFFFFFF#32) s = .next (f n)) →
    ∃ t v, exec .frameTick s = .next t ∧
      exec .frameTick { s with links := tab fun n => nth (f n).links n
                               averagers := tab fun n => nth (f n).averagers n } = .next v ∧
      t.links = v.links ∧ t.averagers = v.averagers ∧ t.timebase = v.timebase

/-- A command loaded on a LOCKED link begins to go out at the frame-0 request, its first bit on LSYNC; at the frame-15
request its last bit goes out, the slot becomes EMPTY, and HEAD_CMD SENT is produced. HEAD_CMD_START and HEAD_CMD_SENT
name that request within a frame tick, and each command is the whole tick (log 2, the model's choice). -/
def Obligations.HeadCommandGoesOut : Prop :=
  ∀ (s : State) (n : Fin 8) (c : HeadCommand), (∀ m, (nth s.links m).inFlight = none) →
    (nth s.links n).state = .locked → (nth s.links n).command = some c →
    (s.timebase.frameCounter = 0 → (nth s.links n).sending = false →
      ∃ t, exec (.headCmdStart n) s = .next t ∧ exec .frameTick s = .next t ∧ (nth t.links n).command = some c ∧
        (nth t.links n).sending = true ∧ (nth t.links n).lsyncMark = true ∧
        (nth t.links n).lsyncBit = c.code.getLsbD 3) ∧
    (s.timebase.frameCounter = 15 → (nth s.links n).sending = true →
      ∃ t, exec (.headCmdSent n) s = .next t ∧ exec .frameTick s = .next t ∧ (nth t.links n).command = none ∧
        (nth t.links n).sending = false ∧ (nth t.links n).lsyncMark = false ∧
        (nth t.links n).lsyncBit = c.code.getLsbD 0 ∧
        ((∀ m, m ≠ n → (nth s.links m).command = none) → s.store.queue.length < 64 →
          t.store.queue = s.store.queue ++ [s.eventRecord (.input n) (.headCmd n c false)] ∧ t.store.loss = 0))

/-- A bad or absent frame in LOCKED or SLIPPED adds one to the bad run; the 16th takes the link to LOST, SILENT when
all 16 were absent and BAD_FRAMES otherwise, with the LINK event and notice and the drop of a loaded command. Its cause
is this one also where that frame ends the eighth cycle in SLIPPED (log 33, the model's choice), and its clock line goes
low at once (log 22, an inference). -/
def Obligations.BadRunLosesLink : Prop :=
  ∀ (s : State) (n : Fin 8) (f : InFlight) (frame : BitVec 32),
    ((nth s.links n).state = .locked ∨ (nth s.links n).state = .slipped) → (nth s.links n).inFlight = some f →
    classify (nth s.settings.link n).address frame ≠ .good → (nth s.links n).badRun ≤ 15 →
    ∃ t, exec (.frameArrival n frame) s = .next t ∧
      if (nth s.links n).badRun = 15 then
        (nth t.links n).state = .lost ∧ (nth t.links n).badRun = 0 ∧ (nth t.links n).inFlight = none ∧
          (nth t.links n).lck = false ∧
          ((nth s.links n).state = .locked →
            (nth t.links n).word = none ∧ (nth t.links n).counterRef = none ∧ (nth t.links n).command = none) ∧
          (∀ p, t.port p = { s.port p with notices := (s.port p).notices.addLink n }) ∧
          (s.store.queue.length ≤ 62 → t.store.queue = s.store.queue ++
            [s.eventRecord (.input n) (.link n (nth s.links n).state .lost
              (if (nth s.links n).badSeen = false ∧ frame = 0xFFFFFFFF#32 then .silent else .badFrames))] ++
            match (nth s.links n).state, (nth s.links n).command with
            | .locked, some c =>
              [s.followingRecord (.input n) (.headCmd n c true)]
            | _, _ => [])
      else
        ((nth s.links n).state = .locked → (nth t.links n).state = .locked ∧
          (nth t.links n).badRun = (nth s.links n).badRun + 1 ∧
          (nth t.links n).badSeen = ((nth s.links n).badSeen || frame != 0xFFFFFFFF#32)) ∧
        (f.index ≠ 15 → nth t.links n = { nth s.links n with
          inFlight := none, badRun := (nth s.links n).badRun + 1,
          badSeen := (nth s.links n).badSeen || frame != 0xFFFFFFFF#32 } ∧ t.ports = s.ports ∧ t.store = s.store)

/-- A good frame in LOCKED whose MARK does not agree with its index sends the link to SLIPPED at its arrival: its
sample is not added, the head word and its reference are discarded, a loaded command is dropped, and the LINK event
stands before the HEAD_CMD DROPPED event. -/
def Obligations.MarkOutOfPlaceSlips : Prop :=
  ∀ (s : State) (n : Fin 8) (f : InFlight) (frame : BitVec 32),
    (nth s.links n).state = .locked → (nth s.links n).inFlight = some f →
    classify (nth s.settings.link n).address frame = .good → frameMark frame ≠ (f.index == 0) →
    ∃ t, exec (.frameArrival n frame) s = .next t ∧ (nth t.links n).state = .slipped ∧
      (nth t.links n).word = none ∧ (nth t.links n).counterRef = none ∧ (nth t.links n).command = none ∧
      (nth t.links n).sending = false ∧ (nth t.links n).badRun = 0 ∧ (nth t.links n).goodCycles = 0 ∧
      (nth t.links n).slipCycles = (if f.index = 15 ∧ f.abandoned = false then 1 else 0) ∧
      (nth t.links n).zeroPending = (nth s.links n).zeroPending ∧
      (nth t.averagers n).cycleSum = (nth s.averagers n).cycleSum ∧
      (nth t.averagers n).cycleValid = (nth s.averagers n).cycleValid ∧
      (∀ p, t.port p = { s.port p with notices := (s.port p).notices.addLink n }) ∧
      (s.store.queue.length ≤ 62 → t.store.queue = s.store.queue ++
        [s.eventRecord (.input n) (.link n .locked .slipped .mark)] ++
        match (nth s.links n).command with
        | some c =>
          [s.followingRecord (.input n) (.headCmd n c true)]
        | none => [])

/-- The arrival of a frame and the Cycle Averager: a valid sample is added to the cycle, an invalid one changes
nothing, and frame 15 ends the cycle, which joins the second when all 16 samples were valid. A frame of an abandoned
cycle adds nothing, and no other input is touched. On the link itself, a good frame that ends no cycle and keeps the
state clears the bad run but in SEEKING, and counts in its cycle, with its WBIT in LOCKED, when it was requested in the
present state and its MARK stands where it should; a bad or absent one changes nothing in SEEKING. -/
def Obligations.SampleAndCycle : Prop :=
  ∀ (s : State) (n : Fin 8) (f : InFlight) (frame : BitVec 32), (nth s.links n).inFlight = some f →
    ∃ t, exec (.frameArrival n frame) s = .next t ∧
      (let a := nth s.averagers n
       let b : Averager :=
        if f.abandoned = false ∧ classify (nth s.settings.link n).address frame = .good ∧ frameOvr frame = false ∧
            (nth s.links n).state = .locked ∧ frameMark frame = (f.index == 0) ∧
            ((nth s.links n).word.any fun w => !w.stale && !wordFault w.bits && !wordZeroing w.bits) = true then
          { a with cycleSum := a.cycleSum + frameSample frame, cycleValid := a.cycleValid + 1 }
        else a
       nth t.averagers n =
        if f.abandoned = false ∧ f.index = 15 ∧ b.cycleValid = 16 ∧ b.n < 125 then
          { b with sum := b.sum + b.cycleSum, n := b.n + 1 }
        else b) ∧
      (∀ m, m ≠ n → nth t.averagers m = nth s.averagers m ∧ nth t.links m = nth s.links m) ∧
      (f.index ≠ 15 ∨ f.abandoned = true →
        let l := nth s.links n
        let good := decide (classify (nth s.settings.link n).address frame = .good)
        let counted := f.current && !f.abandoned && (frameMark frame == (f.index == 0))
        (good = true → l.state = .seeking ∨ l.state = .slipped ∨
            l.state = .locked ∧ frameMark frame = (f.index == 0) →
          nth t.links n =
            { l with
              inFlight := none
              badRun := if l.state = .seeking then l.badRun else 0
              badSeen := if l.state = .seeking then l.badSeen else false
              cycleGood := if counted then l.cycleGood + 1 else l.cycleGood
              wbits := if counted && l.state == .locked then
                  (l.wbits <<< 1) ||| (if frameWbit frame then 1#16 else 0#16)
                else l.wbits } ∧ t.ports = s.ports ∧ t.store = s.store) ∧
        (good = false → l.state = .seeking →
          nth t.links n = { l with inFlight := none } ∧ t.ports = s.ports ∧ t.store = s.store)) ∧
      { t with links := s.links, averagers := s.averagers, test := s.test, channels := s.channels, alarms := s.alarms,
               lines := s.lines, ports := s.ports, store := s.store, free := s.free } = s

/-- A cycle end in SEEKING and SLIPPED, whatever its frame 15 was: two whole and properly marked cycles in a row take
the link to LOCKED (ACQUIRED, REALIGNED), where the good cycles count starts cleared; any other cycle clears the count;
and the eighth cycle end in SLIPPED that does not realign the link takes it to LOST (NO_RELOCK). -/
def Obligations.WholeCyclesLock : Prop :=
  ∀ (s : State) (n : Fin 8) (f : InFlight) (frame : BitVec 32) (good whole : Bool),
    good = decide (classify (nth s.settings.link n).address frame = .good) →
    whole = (good && f.current && !frameMark frame && (nth s.links n).cycleGood == 15) →
    ((nth s.links n).state = .seeking ∨ (nth s.links n).state = .slipped) → (nth s.links n).inFlight = some f →
    f.index = 15 → f.abandoned = false → (nth s.links n).cycleGood ≤ 15 →
    ((nth s.links n).state = .slipped → good = false → (nth s.links n).badRun ≤ 14) →
    ∃ t, exec (.frameArrival n frame) s = .next t ∧
      if whole = true ∧ 1 ≤ (nth s.links n).goodCycles then
        (nth t.links n).state = .locked ∧ (nth t.links n).badRun = 0 ∧ (nth t.links n).goodCycles = 0 ∧
          (nth t.links n).inFlight = none ∧
          (∀ p, t.port p = { s.port p with notices := (s.port p).notices.addLink n }) ∧
          (s.store.queue.length ≤ 63 → t.store.queue = s.store.queue ++
            [s.eventRecord (.input n) (.link n (nth s.links n).state .locked
              (if (nth s.links n).state = .seeking then .acquired else .realigned))])
      else if (nth s.links n).state = .slipped ∧ 7 ≤ (nth s.links n).slipCycles then
        (nth t.links n).state = .lost ∧ (nth t.links n).badRun = 0 ∧ (nth t.links n).inFlight = none ∧
          (∀ p, t.port p = { s.port p with notices := (s.port p).notices.addLink n }) ∧
          (s.store.queue.length ≤ 63 → t.store.queue = s.store.queue ++
            [s.eventRecord (.input n) (.link n .slipped .lost .noRelock)])
      else
        (nth t.links n).state = (nth s.links n).state ∧ (nth t.links n).inFlight = none ∧
          (nth t.links n).goodCycles = (if whole then 1 else 0) ∧
          (nth t.links n).slipCycles =
            (if (nth s.links n).state = .slipped then (nth s.links n).slipCycles + 1
             else (nth s.links n).slipCycles) ∧
          (nth t.links n).badRun =
            (if (nth s.links n).state = .seeking then (nth s.links n).badRun
             else if good then 0 else (nth s.links n).badRun + 1) ∧
          t.ports = s.ports ∧ t.store = s.store

/-- The head word of a cycle that ends in LOCKED, whatever its frame 15 was: with all 16 frames good it is accepted when
no reference is held or its counter is one more than the reference, and rejected otherwise, which clears the reference;
with fewer, no word is formed. A word that is kept ages by one. A word accepted with ZEROING set sets the pending flag
and is seen for the second in progress. A good frame 15 with MARK set, and a bad run that
reaches 16, leave LOCKED, and other statements speak of them. -/
def Obligations.HeadWordJudged : Prop :=
  ∀ (s : State) (n : Fin 8) (f : InFlight) (frame : BitVec 32) (good : Bool),
    good = decide (classify (nth s.settings.link n).address frame = .good) →
    (nth s.links n).state = .locked → (nth s.links n).inFlight = some f → f.index = 15 → f.abandoned = false →
    (good = true → frameMark frame = false) → (good = false → (nth s.links n).badRun ≤ 14) →
    (nth s.links n).cycleGood ≤ 15 →
    ∃ t, exec (.frameArrival n frame) s = .next t ∧ (nth t.links n).state = .locked ∧
      (nth t.links n).badRun = (if good then 0 else (nth s.links n).badRun + 1) ∧
      (let w : BitVec 16 := ((nth s.links n).wbits <<< 1) ||| (if frameWbit frame then 1#16 else 0#16)
       let all := good && f.current && (nth s.links n).cycleGood == 15
       if all = true ∧ ((nth s.links n).counterRef.all fun r => wordCounter w == r + 1) = true then
        (nth t.links n).word = some { bits := w, age := 0, stale := false } ∧
          (nth t.links n).counterRef = some (wordCounter w) ∧ (nth t.links n).zeroPending = wordZeroing w ∧
          (nth t.links n).zeroSeen = ((nth s.links n).zeroSeen || wordZeroing w)
      else
        (nth t.links n).word = (nth s.links n).word.map (fun v => { v with age := satSucc 65535 v.age }) ∧
          (nth t.links n).counterRef = (if all then none else (nth s.links n).counterRef) ∧
          (nth t.links n).zeroPending = (nth s.links n).zeroPending ∧
          (nth t.links n).zeroSeen = (nth s.links n).zeroSeen ∧ t.channels = s.channels ∧ t.store = s.store)

/-- The end of zeroing: a valid word with ZEROING clear, accepted while the pending flag is set, clears the flag, sets
b_acc of every channel that uses the input to 0 and applies its start mode (to its snapshot in TEST), and produces one
ZERO_END event that names those channels. The entries follow the conditions that fall, with their ALARM events and
notices, and the lines follow the entries. A channel outside TEST whose source record an agreed proposal is to change at
the next second tick is left to the one reset of that commit (R79, R116; log 26, the model's choice). The value handed
with a fall is that of the channel after the start mode (log 17, an inference). -/
def Obligations.ZeroingEnds : Prop :=
  ∀ (s : State) (n : Fin 8) (f : InFlight) (frame : BitVec 32),
    (nth s.links n).state = .locked → (nth s.links n).inFlight = some f → f.index = 15 → f.current = true →
    f.abandoned = false → classify (nth s.settings.link n).address frame = .good → frameMark frame = false →
    (nth s.links n).cycleGood = 15 → (nth s.links n).zeroPending = true →
    wordZeroing (((nth s.links n).wbits <<< 1) ||| (if frameWbit frame then 1#16 else 0#16)) = false →
    ((nth s.links n).counterRef.all fun r =>
      wordCounter (((nth s.links n).wbits <<< 1) ||| (if frameWbit frame then 1#16 else 0#16)) == r + 1) = true →
    ∃ t, exec (.frameArrival n frame) s = .next t ∧ (nth t.links n).zeroPending = false ∧
      (let agreed : Fin 8 → Bool := fun c =>
        match s.proposal with
        | .committing _ _ items => decide (nth (s.settings.applyAll items).map c ≠ nth s.settings.map c)
        | .empty | .draft _ _ _ | .posted _ _ _ => false
       (∀ c, nth t.channels c =
        if (nth s.settings.map c).uses n = false ∨ (nth s.channels c).state = .disabled then nth s.channels c
        else if (nth s.channels c).state = .test then { nth s.channels c with bAcc := 0 }
        else if agreed c = true then nth s.channels c
        else
          match (nth s.settings.analysis c).startMode with
          | .zero =>
            { nth s.channels c with bAcc := 0, state := .armed, left := .armed, learned := 0, absence := 0 }
          | .learn =>
            { nth s.channels c with
              bAcc := 0, eAcc := 0, x := 0, conds := .none, state := .learning, left := .learning, learned := 0,
              absence := 0 }) ∧
       (∀ c, nth t.test.snapshots c =
        if (nth s.settings.map c).uses n = true ∧ (nth s.channels c).state = .test then
          (nth s.test.snapshots c).map fun v =>
            match (nth s.settings.analysis c).startMode with
            | .zero => { v with learning := false, learned := 0 }
            | .learn => { eAcc := 0, x := 0, conds := .none, learning := true, learned := 0 }
        else nth s.test.snapshots c)) ∧
      (∀ c k, nth t.alarms (entryOf c k) =
        (nth s.alarms (entryOf c k)).moved k (nth s.channels c) (nth t.channels c) s.settings.policy s.timebase.time) ∧
      (∀ l, nth t.lines l =
        if (nth s.lines l).asserted = none then nth s.lines l
        else evaluateLine (nth s.settings.output l) t.alarms) ∧
      (∀ c k, (nth t.alarms (entryOf c k)).state ≠ (nth s.alarms (entryOf c k)).state →
        (∀ p, (t.port p).notices.flags.getLsbD 0 = true ∧ (t.port p).notices.alarm.getLsbD c.val = true) ∧
        (s.store.loss = 0 → s.store.queue.length ≤ 31 →
          s.eventRecord (.channel c) (.alarm (entryOf c k) (nth s.alarms (entryOf c k)).state
            (nth t.alarms (entryOf c k)).state (k.handed (nth t.channels c)) .condition) ∈ t.store.queue)) ∧
      (s.store.loss = 0 → s.store.queue.length ≤ 31 →
        s.eventRecord (.input n) (.zeroEnd n (maskOf 8 fun c => (nth s.settings.map c).uses n)) ∈ t.store.queue)

/-- Whatever the command, a link keeps its state or makes one of the transitions that R3's table lists. -/
def Obligations.LinkTransitionsAllowed : Prop :=
  ∀ (i : Instr) (s t : State) (n : Fin 8), (∀ solo, i ≠ .powerOnReset solo) → exec i s = .next t →
    (nth t.links n).state = (nth s.links n).state ∨
      ((nth s.links n).state, (nth t.links n).state) ∈ linkTransitions

/-! ## Chapters 2 to 6: the second tick -/

/-- Every second tick forms each input's second from S and n, empties them, and moves station time on by one; neither
the frame divider nor the period that is running is touched. What was seen of zeroing in the second is begun afresh from
the head word that is held: the indication is true while that word shows ZEROING and is not stale. The second divider
begins again at 0 wherever it stood (log 20, the model's choice). -/
def Obligations.InputSecondFormed : Prop :=
  ∀ (s : State) (pulled : Bool), ∃ t, exec (.secondTick pulled) s = .next t ∧
    t.timebase.time = s.timebase.time + 1 ∧ t.timebase.secondDiv = 0 ∧
    t.timebase.frameDiv = s.timebase.frameDiv ∧ t.timebase.framePeriod = s.timebase.framePeriod ∧
    (∀ n, (nth t.averagers n).sum = 0 ∧ (nth t.averagers n).n = 0 ∧
      (nth t.averagers n).latest = some
        { stamp := s.timebase.time
          value :=
            if (nth s.averagers n).n = 0 then none
            else some (clamp (-131071) 131071 (roundDiv (nth s.averagers n).sum (16 * (nth s.averagers n).n)))
          n := (nth s.averagers n).n }) ∧
    (∀ n, (nth t.links n).zeroSeen = (nth t.links n).word.any fun w => !w.stale && wordZeroing w.bits) ∧
    (s.uncommitted → (∀ n, (nth s.links n).state ≠ .lost →
        nth t.links n = { nth s.links n with zeroSeen := (nth t.links n).zeroSeen }) ∧
      t.timebase.frameCounter = s.timebase.frameCounter ∧ t.settings = s.settings ∧
      ∀ n, (nth t.averagers n).cycleSum = (nth s.averagers n).cycleSum ∧
        (nth t.averagers n).cycleValid = (nth s.averagers n).cycleValid)

/-- A present second of ARMED, of TEST, or of STALE that returns to ARMED: deviation, envelope, level conditions,
exposure, and the baseline, which moves only in ARMED, out of excursion, in a second decided QUIET. -/
def Obligations.PresentSecond : Prop :=
  ∀ (s : State) (pulled : Bool) (c : Fin 8), s.uncommitted → s.testGoesOn →
    ((nth s.channels c).state = .armed ∨ (nth s.channels c).state = .test ∨
      (nth s.channels c).state = .stale ∧ (nth s.channels c).left = .armed) →
    ∀ g, s.secondValue c = some g → ∃ t, exec (.secondTick pulled) s = .next t ∧
      (let old := nth s.channels c
       let new := nth t.channels c
       let levels := nth s.settings.levels c
       let exposure := nth s.settings.exposure c
       let d := clamp (-131071) 131071 (g - roundDiv old.bAcc 65536)
       let m := d.natAbs
       let j := (nth s.settings.analysis c).decayShift
       let e := new.eAcc / 256
       new.latest = some { stamp := s.timebase.time, value := some { g, d, m } } ∧ new.absence = 0 ∧
        new.state = (if old.state = .test then .test else .armed) ∧ new.learned = old.learned ∧
        new.eAcc =
          (if old.eAcc ≤ 256 * m then 256 * m else old.eAcc - (old.eAcc - 256 * m + 2 ^ j - 1) / 2 ^ j) ∧
        new.conds.excursion =
          (decide (levels.excT ≤ e) || (old.conds.excursion && decide (levels.excT - levels.excH ≤ e))) ∧
        new.conds.warn =
          (decide (levels.warnT ≤ e) || (old.conds.warn && decide (levels.warnT - levels.warnH ≤ e))) ∧
        new.conds.alarm =
          (decide (levels.alarmT ≤ e) || (old.conds.alarm && decide (levels.alarmT - levels.alarmH ≤ e))) ∧
        new.x =
          (if exposure.knee < m then min (old.x + (m - exposure.knee)) (2 * exposure.limit)
           else old.x - exposure.cooling) ∧
        new.conds.exposure =
          (if exposure.limit ≤ new.x then true
           else if new.x < exposure.limit / 2 then false else old.conds.exposure) ∧
        new.bAcc =
          if old.state ≠ .test ∧ new.conds.excursion = false ∧ t.storm.state = .quiet then
            old.bAcc + (g * 65536 - old.bAcc).tdiv (2 ^ (nth s.settings.analysis c).baselineShift)
          else old.bAcc)

/-- A present second of LEARNING, or of STALE that returns to it: the envelope, the exposure and the conditions are held
at nothing, the baseline moves with shift 4 whatever the storm state, and the 64th such second ends LEARNING.
LEARNING_END names that end within a second tick, and the command is the whole tick (log 2, the model's choice). -/
def Obligations.LearningSecond : Prop :=
  ∀ (s : State) (pulled : Bool) (c : Fin 8), s.uncommitted → s.testGoesOn →
    ((nth s.channels c).state = .learning ∨
      (nth s.channels c).state = .stale ∧ (nth s.channels c).left = .learning) →
    ∀ g, s.secondValue c = some g → ∃ t, exec (.secondTick pulled) s = .next t ∧
      (63 ≤ (nth s.channels c).learned → exec (.learningEnd c pulled) s = .next t) ∧
      (let old := nth s.channels c
       let d := clamp (-131071) 131071 (g - roundDiv old.bAcc 65536)
       nth t.channels c =
        { old with
          state := if 63 ≤ old.learned then .armed else .learning
          bAcc := old.bAcc + (g * 65536 - old.bAcc).tdiv 16
          eAcc := 0, x := 0
          conds := { excursion := false, warn := false, alarm := false, exposure := false }
          absence := 0
          learned := min 64 (old.learned + 1)
          latest := some { stamp := s.timebase.time, value := some { g, d, m := d.natAbs } } })

/-- An absent second of an enabled channel: everything is held but the absence count, which waits while a used input
was zeroing, and a LEARNING or ARMED channel whose count reaches its stale limit goes to STALE. STALE_ENTRY names
that entry within a second tick, and the command is the whole tick (log 2, the model's choice). -/
def Obligations.AbsentSecond : Prop :=
  ∀ (s : State) (pulled : Bool) (c : Fin 8), s.uncommitted → s.testGoesOn →
    (nth s.channels c).state ≠ .disabled → s.secondValue c = none →
    ∃ t, exec (.secondTick pulled) s = .next t ∧
      (let old := nth s.channels c
       let zeroing := (List.finRange 8).any fun n => (nth s.settings.map c).uses n && (nth s.links n).zeroSeen
       let absence :=
        if old.state = .test then 0 else if zeroing then old.absence
        else if 65535 ≤ old.absence then 65535 else old.absence + 1
       let stale := (old.state = .learning ∨ old.state = .armed) ∧
        (nth s.settings.analysis c).staleLimit ≤ absence
       nth t.channels c =
          { old with
            absence
            latest := some { stamp := s.timebase.time, value := none }
            state := if stale then .stale else old.state
            left := if stale then (if old.state = .learning then .learning else .armed) else old.left } ∧
        (stale → exec (.staleEntry c pulled) s = .next t))

/-- The alarm entries of an enabled channel follow the changes that its second makes to its conditions: a rise raises
the entry afresh, a fall ends its activity by the kind's policy, a condition that stays true moves the peak up, and a
change of state produces the ALARM event of cause CONDITION and sets the ALARM notice of the channel on every port. A
DISABLED channel's entries do not move. -/
def Obligations.EntriesFollowConditions : Prop :=
  ∀ (s : State) (pulled : Bool) (c : Fin 8) (k : AlarmKind), s.uncommitted → s.testGoesOn →
    ∃ t, exec (.secondTick pulled) s = .next t ∧
      (let condition : Channel → Bool := fun v =>
        match k with
        | .warn => v.conds.warn
        | .alarm => v.conds.alarm
        | .exposure => v.conds.exposure
        | .data => v.state == .stale
       let was := condition (nth s.channels c)
       let now := condition (nth t.channels c)
       let value : Nat :=
        match k with
        | .warn | .alarm => (nth t.channels c).eAcc / 256
        | .exposure => (nth t.channels c).x
        | .data => (nth t.channels c).absence
       let old := nth s.alarms (entryOf c k)
       let new := nth t.alarms (entryOf c k)
       let present := ((nth t.channels c).latest.bind (·.value)).isSome
       new =
          (if (nth s.channels c).state = .disabled then old
           else if was = false ∧ now = true ∧ old.state.active = false then
            { state := .raised
              raises := if 255 ≤ old.raises then 255 else old.raises + 1
              lastRaise := some s.timebase.time
              lastChange := some s.timebase.time
              peak := value
              ackPort := none
              mark := (nth t.channels c).state == .test }
           else if was = true ∧ now = false ∧ old.state.active = true then
            { old with
              state := if old.state = .raised ∧ s.settings.policy.required k = true then .returned else .normal
              lastChange := some s.timebase.time }
           else if was = true ∧ now = true ∧ old.state.active = true ∧ (present = true ∨ k = .data) then
            { old with peak := max old.peak value }
           else old) ∧
        (new.state ≠ old.state →
          (∀ p, (t.port p).notices.flags.getLsbD 0 = true ∧ (t.port p).notices.alarm.getLsbD c.val = true) ∧
          (s.store.queue = [] → s.store.loss = 0 →
            s.eventRecord (.channel c) (.alarm (entryOf c k) old.state new.state value .condition) ∈ t.store.queue)))

/-- After every second tick each line stands as its rule judges the entries: asserted when a selected entry is in a
state its mode names, its pin the assertion under NORMAL polarity and its opposite under FAILSAFE. -/
def Obligations.LinesFollowEntries : Prop :=
  ∀ (s : State) (pulled : Bool), ∃ t, exec (.secondTick pulled) s = .next t ∧
    ∀ l, ∃ on, nth t.lines l = { asserted := some on, pin := on != (nth t.settings.output l).failsafe } ∧
      (on = true ↔ ∃ i : Fin 32,
        (nth t.settings.output l).channels.getLsbD (i.val / 4) = true ∧
          (nth t.settings.output l).kinds.getLsbD (i.val % 4) = true ∧
          ((nth t.settings.output l).includeTest = true ∨ (nth t.alarms i).mark = false) ∧
          ((nth t.settings.output l).mode = .active ∧
              ((nth t.alarms i).state = .raised ∨ (nth t.alarms i).state = .accepted) ∨
            (nth t.settings.output l).mode = .unack ∧
              ((nth t.alarms i).state = .raised ∨ (nth t.alarms i).state = .returned) ∨
            (nth t.settings.output l).mode = .any ∧ (nth t.alarms i).state ≠ .normal))

/-- The Storm Monitor's decision at a second tick: N_exc, the local condition, the wire sample, the station condition,
the storm state with its tail count, and the part's own pull; and the STORM event and notice of a transition. A tail
that goes to QUIET is the TAIL_END, which names that end within the tick and is the whole tick (log 2, the model's
choice): it comes with a count of at most 1, nothing heard on the wire and no channel that counts toward a storm, each
channel being DISABLED, in TEST, absent or LEARNING with no excursion, or present below its levels. -/
def Obligations.StormDecided : Prop :=
  (∀ (s : State) (pulled : Bool), s.uncommitted → s.testGoesOn → ∃ t, exec (.secondTick pulled) s = .next t ∧
     (let v := s.settings.station
      let count := ((List.finRange 8).filter fun c =>
       ((nth t.channels c).state == .armed || (nth t.channels c).state == .stale) &&
         (nth t.channels c).conds.excursion).length
      let loc := decide (v.stormCount ≤ count)
      let station := loc || (pulled && !s.storm.pull && v.joinExternal)
      t.storm =
         { state :=
             if station then .storm
             else
               match s.storm.state with
               | .quiet => .quiet
               | .storm => if v.stormHold = 0 then .quiet else .tail
               | .tail => if s.storm.tail ≤ 1 then .quiet else .tail
           tail :=
             if station then 0
             else
               match s.storm.state with
               | .quiet => 0
               | .storm => v.stormHold
               | .tail => s.storm.tail - 1
           nExc := count
           localStorm := loc
           wire := some { high := !(s.storm.pull || pulled), ownPull := s.storm.pull }
           station
           pull := loc && v.drivePin
           stamp := some s.timebase.time } ∧
       (t.storm.state ≠ s.storm.state → (∀ p, (t.port p).notices.flags.getLsbD 2 = true) ∧
         (s.store.queue = [] → s.store.loss = 0 →
           s.eventRecord .station (.storm s.storm.state t.storm.state count) ∈ t.store.queue)) ∧
       (s.storm.state = .tail → t.storm.state = .quiet → exec (.tailEnd pulled) s = .next t))) ∧
  ∀ (s : State) (pulled : Bool), s.uncommitted → s.storm.state = .tail → s.storm.tail ≤ 1 →
    1 ≤ s.settings.station.stormCount →
    (pulled = false ∨ s.storm.pull = true ∨ s.settings.station.joinExternal = false) →
    (∀ c, (nth s.channels c).state = .disabled ∨ (nth s.channels c).state = .test ∨
      ((nth s.channels c).conds.excursion = false ∧
        ((nth s.channels c).state = .learning ∨ s.secondValue c = none)) ∨
      ∃ g, s.secondValue c = some g ∧
        (let old := nth s.channels c
         let levels := nth s.settings.levels c
         let m := (clamp (-131071) 131071 (g - roundDiv old.bAcc 65536)).natAbs
         let j := (nth s.settings.analysis c).decayShift
         let e :=
          (if old.eAcc ≤ 256 * m then 256 * m else old.eAcc - (old.eAcc - 256 * m + 2 ^ j - 1) / 2 ^ j) / 256
         e < levels.excT ∧ (old.conds.excursion = false ∨ e < levels.excT - levels.excH))) →
    ∃ t, exec (.tailEnd pulled) s = .next t ∧ exec (.secondTick pulled) s = .next t ∧
      t.storm.state = .quiet ∧ t.storm.tail = 0 ∧ t.storm.station = false ∧
      ∀ p, (t.port p).notices.flags.getLsbD 2 = true

/-- A test second that is not the last: the Test Generator supplies the value of its form, moves the form's counters,
and counts the second. The last test second: after its evaluation the test expires. Every channel with a snapshot is put
back, the baseline excepted, and its interval closed; its entries follow the conditions that the restore changes from
what a tick with no expiry would leave, the value handed with one being that of the restored channel (log 17, an
inference); the Test Generator is IDLE and holds nothing (its remaining
duration goes to 0, log 30, the model's choice); and the TEST event ENDED of cause EXPIRED and the TEST notice ENDED are
produced. TEST_EXPIRY names that end within a second tick and is the whole tick (log 2, the model's choice). -/
def Obligations.TestSupplies : Prop :=
  (∀ (s : State) (pulled : Bool) (v : TestItem), s.uncommitted → s.test.plan = some v → 2 ≤ s.test.remaining →
     ∃ t, exec (.secondTick pulled) s = .next t ∧ t.test.plan = some v ∧
       t.test.remaining = s.test.remaining - 1 ∧ t.test.snapshots = s.test.snapshots ∧
       (v.form = .level → t.test.supplied = some v.amplitude) ∧
       (v.form = .ramp →
         t.test.supplied = some s.test.ramp ∧ t.test.ramp = clamp (-131071) 131071 (s.test.ramp + v.slope)) ∧
       (v.form = .square →
         t.test.supplied = some (if s.test.squarePlus then v.amplitude else -v.amplitude) ∧
           t.test.squareCount = (if s.test.squareCount ≤ 1 then v.halfPeriod else s.test.squareCount - 1) ∧
           t.test.squarePlus = (if s.test.squareCount ≤ 1 then !s.test.squarePlus else s.test.squarePlus)) ∧
       (v.form = .prbs →
         t.test.prbs.getLsbD 0 = (s.test.prbs.getLsbD 14 != s.test.prbs.getLsbD 13) ∧
           (∀ k : Fin 14, t.test.prbs.getLsbD (k.val + 1) = s.test.prbs.getLsbD k.val) ∧
           t.test.supplied = some (if t.test.prbs.getLsbD 0 then v.amplitude else -v.amplitude))) ∧
  ∀ (s : State) (pulled : Bool) (v : TestItem), s.uncommitted → s.test.plan = some v → s.test.remaining ≤ 1 →
    ∃ t, exec (.testExpiry pulled) s = .next t ∧ exec (.secondTick pulled) s = .next t ∧
      t.test.plan = none ∧ t.test.remaining = 0 ∧ t.test.supplied = none ∧
      (∀ c, nth t.test.snapshots c = none) ∧
      (∀ c n, nth s.test.snapshots c = some n →
        (nth t.channels c).eAcc = n.eAcc ∧ (nth t.channels c).x = n.x ∧ (nth t.channels c).conds = n.conds ∧
          (nth t.channels c).state = (if n.learning then .learning else .armed) ∧
          (n.learning = true → (nth t.channels c).learned = n.learned) ∧ (nth t.channels c).absence = 0 ∧
          ((nth s.channels c).state = .test → (nth t.channels c).bAcc = (nth s.channels c).bAcc)) ∧
      (∃ w, exec (.secondTick pulled) { s with test := { s.test with remaining := 2 } } = .next w ∧
        ∀ c k, nth t.alarms (entryOf c k) =
          (nth w.alarms (entryOf c k)).moved k (nth w.channels c) (nth t.channels c) s.settings.policy
            s.timebase.time) ∧
      (∀ c, (nth s.test.snapshots c).isSome →
        nth t.intervals c = (nth s.intervals c).map fun _ =>
          { first := none, length := 0, dataSeconds := 0, sumD := 0, dRange := none, peakE := 0, last := none,
            flags := 0, timeSet := false }) ∧
      (∀ p, (t.port p).notices.flags.getLsbD 5 = true ∧ (t.port p).notices.test.getLsbD 1 = true) ∧
      (s.store.loss = 0 → t.store.queue.length < 64 →
        s.eventRecord .station (.test true v.inputs v.form .expired) ∈ t.store.queue)

/-- The windows of a proposal count down at each second tick; the draft or the posted proposal that runs out ends with
its PROPOSAL_ENDED event and the SETTINGS notice EXPIRED on every port. DRAFT_EXPIRY and
CONFIRM_EXPIRY name that end within a second tick, and each command is the whole tick (log 2, the model's choice). -/
def Obligations.ProposalWindows : Prop :=
  ∀ (s : State) (pulled : Bool) (owner : PortId) (items : List Item) (left : Nat),
    (s.proposal = .draft owner items left → ∃ t, exec (.secondTick pulled) s = .next t ∧
      if left ≤ 1 then
        exec (.draftExpiry pulled) s = .next t ∧ t.proposal = .empty ∧
          (∀ p, (t.port p).notices.flags.getLsbD 3 = true ∧ (t.port p).notices.settings.getLsbD 2 = true) ∧
          (s.testGoesOn → s.store.queue = [] → s.store.loss = 0 →
            s.eventRecord .station (.proposalEnded s.number .draftExpired) ∈ t.store.queue)
      else t.proposal = .draft owner items (left - 1)) ∧
    (s.proposal = .posted owner items left → ∃ t, exec (.secondTick pulled) s = .next t ∧
      if left ≤ 1 then
        exec (.confirmExpiry pulled) s = .next t ∧ t.proposal = .empty ∧
          (∀ p, (t.port p).notices.flags.getLsbD 3 = true ∧ (t.port p).notices.settings.getLsbD 2 = true) ∧
          (s.testGoesOn → s.store.queue = [] → s.store.loss = 0 →
            s.eventRecord .station (.proposalEnded s.number .confirmExpired) ∈ t.store.queue)
      else t.proposal = .posted owner items (left - 1))

/-- The commit of an agreed proposal: its items are in force together, a hysteresis above its threshold taken as the
threshold and a divider above 3072 as 3072, and every item it does not name stands; the generation goes up by one, the
buffer is EMPTY, the SETTINGS notice COMMITTED stands on every port, and the COMMIT event is the last record of the
step, unless the queue is full and it is counted as lost. COMMIT names that work within a second tick and is the whole
tick (log 2, the model's choice). -/
def Obligations.CommitCloses : Prop :=
  ∀ (s : State) (pulled : Bool) (owner : PortId) (confirmer : Option PortId) (items : List Item),
    s.proposal = .committing owner confirmer items →
    ∃ t, exec (.commit pulled) s = .next t ∧ exec (.secondTick pulled) s = .next t ∧
      t.settings = s.settings.applyAll items ∧
      ((items.map Item.name).Nodup →
        (∀ i ∈ items,
          match i with
          | .map c v => nth t.settings.map c = v
          | .analysis c v => nth t.settings.analysis c = v
          | .levels c v =>
            nth t.settings.levels c =
              { v with
                excH := if v.excT < v.excH then v.excT else v.excH
                warnH := if v.warnT < v.warnH then v.warnT else v.warnH
                alarmH := if v.alarmT < v.alarmH then v.alarmT else v.alarmH }
          | .exposure c v => nth t.settings.exposure c = v
          | .link n v => nth t.settings.link n = v
          | .policy v => t.settings.policy = v
          | .output l v => nth t.settings.output l = v
          | .station v => t.settings.station = v
          | .recording v => t.settings.recording = v
          | .partition sizes => t.settings.partition = sizes
          | .timebase d => t.settings.divider = (if 3072 < d then 3072 else d)
          | .retransmit o v => nth t.settings.retransmit o = v
          | .test _ | .clear => True) ∧
        ∀ kind index : Byte, (kind.toNat, index.toNat) ∉ items.map Item.name →
          t.settings.item kind index = s.settings.item kind index) ∧
      t.generation = s.generation + 1 ∧ t.proposal = .empty ∧
      (∀ p, (t.port p).notices.flags.getLsbD 3 = true ∧ (t.port p).notices.settings.getLsbD 3 = true) ∧
      ((∃ before loss, t.store.queue = before ++
          [{ ring := 8, record := .event
              { time := s.timebase.time, source := .station,
                body := .commit (s.generation + 1) owner confirmer (items.map Item.name), loss } }]) ∨
        64 ≤ t.store.queue.length ∧ 1 ≤ t.store.loss)

/-- The commit of a MAP item that changes a channel's source record. The channel is reset, its four entries go to NORMAL
by RESET, its interval is closed, and its start mode, or TEST with a fresh snapshot where the record uses an input of
the running test, or DISABLED, follows; the second that the tick ends is then evaluated under the new record, as it is
from the state so reset. Among other items of the same proposal, an ANALYSIS item gives the start mode of that reset,
LEVELS and EXPOSURE items are in force from that evaluation, and a TEST item starts its test under the new record and
after the reset, as its own commit would. When the item disables the channel, it holds nothing after that second either.
(That COMMIT is the whole tick is log 2, the model's choice.) -/
def Obligations.MapCommit : Prop :=
  (∀ (s u : State) (pulled : Bool) (owner : PortId) (confirmer : Option PortId) (items : List Item) (c : Fin 8)
     (v : MapItem) (analysis : Option AnalysisItem) (levels : Option LevelsItem) (exposure : Option ExposureItem)
     (test : Option TestItem),
    s.proposal = .committing owner confirmer items → nth s.settings.map c ≠ v →
    (∀ i, i ∈ items ↔ i = .map c v ∨ (∃ x, analysis = some x ∧ i = .analysis c x) ∨
      (∃ x, levels = some x ∧ i = .levels c x) ∨ (∃ x, exposure = some x ∧ i = .exposure c x) ∨
      ∃ x, test = some x ∧ i = .test x) →
    (let old := nth s.channels c
     let learn := (analysis.getD (nth s.settings.analysis c)).startMode == .learn
     let targeted := v.enabled && s.test.plan.any fun p => (List.finRange 8).any fun n =>
      p.inputs.getLsbD n.val && (v.primary == n || v.secondary.any fun m => m.1 == n)
     let saved : Option Snapshot := if targeted then
        some
          { eAcc := 0, x := 0, conds := { excursion := false, warn := false, alarm := false, exposure := false }
            learning := learn, learned := 0 }
      else none
     let entries : Tab 32 AlarmEntry := tab fun i =>
      if channelOf i = c then
        { nth s.alarms i with state := .normal, lastChange := some s.timebase.time, ackPort := none }
      else nth s.alarms i
     u = { s with
      settings :=
        { s.settings with
          map := put s.settings.map c v
          analysis := put s.settings.analysis c (analysis.getD (nth s.settings.analysis c))
          levels := put s.settings.levels c
            (match levels with
            | none => nth s.settings.levels c
            | some x =>
              { x with
                excH := if x.excT < x.excH then x.excT else x.excH
                warnH := if x.warnT < x.warnH then x.warnT else x.warnH
                alarmH := if x.alarmT < x.alarmH then x.alarmT else x.alarmH })
          exposure := put s.settings.exposure c (exposure.getD (nth s.settings.exposure c)) }
      channels := put s.channels c
        { state :=
            if v.enabled = false then .disabled else if targeted then .test else if learn then .learning else .armed
          left :=
            if v.enabled = false ∨ old.state = .test then old.left else if learn then .learning else .armed
          bAcc := 0, eAcc := 0, x := 0
          conds := { excursion := false, warn := false, alarm := false, exposure := false }
          absence := 0, learned := 0
          latest := if v.enabled then old.latest else none }
      test := { s.test with snapshots := put s.test.snapshots c saved }
      alarms := entries
      lines := tab fun l =>
        if (nth s.lines l).asserted = none then nth s.lines l else evaluateLine (nth s.settings.output l) entries
      intervals := put s.intervals c (if v.enabled then some Interval.opened else none)
      proposal :=
        match test with
        | none => .empty
        | some x => .committing owner confirmer [.test x] }) →
    ∃ t w, exec (.commit pulled) s = .next t ∧ exec (.secondTick pulled) u = .next w ∧ t.agrees w ∧
      (∀ p, (t.port p).notices.flags.getLsbD 0 = true ∧ (t.port p).notices.alarm.getLsbD c.val = true) ∧
      (s.store.loss = 0 → s.store.queue.length ≤ 59 →
        (∀ k, s.eventRecord (.channel c)
          (.alarm (entryOf c k) (nth s.alarms (entryOf c k)).state .normal (nth s.alarms (entryOf c k)).peak .reset) ∈
            t.store.queue) ∧
        ∀ i, nth s.intervals c = some i → i.length ≠ 0 → s.settings.ringSize c.castSucc ≠ 0 →
          ({ ring := c.castSucc, record := .interval (i.record c false) } : QueuedRecord) ∈ t.store.queue)) ∧
  ∀ (s : State) (pulled : Bool) (owner : PortId) (confirmer : Option PortId) (c : Fin 8) (v : MapItem),
    s.proposal = .committing owner confirmer [.map c v] → v.enabled = false → nth s.settings.map c ≠ v →
    ∃ t, exec (.commit pulled) s = .next t ∧ nth t.settings.map c = v ∧
      nth t.channels c =
        { state := .disabled, left := (nth s.channels c).left, bAcc := 0, eAcc := 0,
          conds := { excursion := false, warn := false, alarm := false, exposure := false }, x := 0, absence := 0,
          learned := 0, latest := none } ∧
      (∀ k, nth t.alarms (entryOf c k) =
        { nth s.alarms (entryOf c k) with
          state := .normal, lastChange := some s.timebase.time, ackPort := none }) ∧
      nth t.intervals c = none ∧ nth t.test.snapshots c = none ∧
      ∀ p, (t.port p).notices.alarm.getLsbD c.val = true

/-- The commit of a LINK item, by R9's table: OFF and DISABLED, SEEKING and ENABLED, SEEKING and ADDRESS, or no move;
the zeroing pending flag, the head word and its reference are cleared on going to OFF and on a new address; and the
second that the tick ends is then evaluated from the state so left. A LOST link goes to SEEKING at the next second tick,
with the LINK event and notice of a RETRY. Three things the rules do not say in words: a link that goes to OFF drops its
frame in flight with its LCK and LSYNC low at once, and one that goes to SEEKING keeps it, not counted (log 22, an
inference); and the good cycles count stands in OFF, and the slip cycles count after SLIPPED (log 31, an inference).
COMMIT and LINK_RETRY name work within a second tick, and each command is the whole tick (log 2, the model's choice). -/
def Obligations.LinkCommit : Prop :=
  (∀ (s : State) (pulled : Bool) (owner : PortId) (confirmer : Option PortId) (n : Fin 8) (v : LinkItem),
    s.proposal = .committing owner confirmer [.link n v] →
    (let l := nth s.links n
     let moved := (nth s.settings.link n).address ≠ v.address
     let parted := if l.state = .locked then
        { l with word := none, counterRef := none, command := none, sending := false } else l
     let forgot := fun (l : Link) => { l with zeroPending := false, word := none, counterRef := none }
     let off : Link := forgot
      { parted with state := .off, badRun := 0, badSeen := false, cycleGood := 0, inFlight := none, lck := false
                    lsyncMark := false, lsyncBit := false }
     let seeking : Link :=
      { parted with state := .seeking, badRun := 0, badSeen := false, goodCycles := 0, cycleGood := 0
                    inFlight := l.inFlight.map fun f => { f with current := false } }
     let outcome : Link × Option (LinkState × LinkCause) :=
      if v.enabled = false then if l.state = .off then (l, none) else (off, some (.off, .disabled))
      else if l.state = .off then (if moved then forgot seeking else seeking, some (.seeking, .enabled))
      else if moved then
        if l.state = .seeking then ({ forgot l with goodCycles := 0 }, none)
        else (forgot seeking, some (.seeking, .address))
      else (l, none)
     let u := { s with
      settings := { s.settings with link := put s.settings.link n v }, links := put s.links n outcome.1 }
     ∃ t w, exec (.commit pulled) s = .next t ∧ exec (.secondTick pulled) u.emptied = .next w ∧ t.agrees w ∧
      ∀ dest cause, outcome.2 = some (dest, cause) →
        (∀ p, (t.port p).notices.flags.getLsbD 4 = true ∧ (t.port p).notices.link.getLsbD n.val = true) ∧
        (s.store.queue.length ≤ 62 →
          s.eventRecord (.input n) (.link n l.state dest cause) ∈ t.store.queue ∧
            ∀ command, l.state = .locked → l.command = some command →
              s.followingRecord (.input n) (.headCmd n command true) ∈ t.store.queue))) ∧
  ∀ (s : State) (pulled : Bool) (n : Fin 8), s.uncommitted → (nth s.links n).state = .lost →
    ∃ t, exec (.linkRetry n pulled) s = .next t ∧ exec (.secondTick pulled) s = .next t ∧
      (nth t.links n).state = .seeking ∧ (nth t.links n).badRun = 0 ∧ (nth t.links n).goodCycles = 0 ∧
      (nth t.links n).zeroPending = (nth s.links n).zeroPending ∧
      (∀ p, (t.port p).notices.flags.getLsbD 4 = true ∧ (t.port p).notices.link.getLsbD n.val = true) ∧
      (s.testGoesOn → s.store.queue = [] → s.store.loss = 0 →
        s.eventRecord (.input n) (.link n .lost .seeking .retry) ∈ t.store.queue)

/-- The commit of a TEST item with no test running. The plan is copied, the counters are set for the first test second,
every enabled channel that uses a targeted input is saved in a snapshot and enters TEST with its interval closed, and
the DATA entry of one that was STALE falls; TEST STARTED is produced with its notice; and the second that the tick ends
is then the first test second, evaluated from the state so left. (That COMMIT is the whole tick is log 2, the model's
choice.) -/
def Obligations.TestStarted : Prop :=
  ∀ (s u : State) (pulled : Bool) (owner : PortId) (confirmer : Option PortId) (v : TestItem),
    s.proposal = .committing owner confirmer [.test v] → s.test.plan = none →
    (let targeted : Fin 8 → Bool := fun c => (nth s.settings.map c).enabled && (List.finRange 8).any fun n =>
      v.inputs.getLsbD n.val &&
        ((nth s.settings.map c).primary == n || (nth s.settings.map c).secondary.any fun m => m.1 == n)
     let entries : Tab 32 AlarmEntry := tab fun i =>
      if targeted (channelOf i) && (i.val % 4 == 3) && ((nth s.channels (channelOf i)).state == .stale) &&
          (nth s.alarms i).state.active then
        { nth s.alarms i with
          state := if (nth s.alarms i).state = .raised ∧ s.settings.policy.data = true then .returned else .normal
          lastChange := some s.timebase.time }
      else nth s.alarms i
     u = { s with
      test :=
        { plan := some v, remaining := v.duration, ramp := v.amplitude, squareCount := v.halfPeriod
          squarePlus := true, prbs := v.seed, supplied := none
          snapshots := tab fun c =>
            let ch := nth s.channels c
            if targeted c then
              some
                { eAcc := ch.eAcc, x := ch.x, conds := ch.conds
                  learning := ch.state == .learning || ch.state == .stale && ch.left == .learning
                  learned := ch.learned }
            else nth s.test.snapshots c }
      channels := tab fun c =>
        if targeted c then { nth s.channels c with state := .test, absence := 0 } else nth s.channels c
      alarms := entries
      lines := tab fun l =>
        if (nth s.lines l).asserted = none then nth s.lines l else evaluateLine (nth s.settings.output l) entries
      intervals := tab fun c =>
        if targeted c then (nth s.intervals c).map fun _ => Interval.opened else nth s.intervals c }) →
    ∃ t w, exec (.commit pulled) s = .next t ∧ exec (.secondTick pulled) u.emptied = .next w ∧ t.agrees w ∧
      (∀ p, (t.port p).notices.flags.getLsbD 5 = true ∧ (t.port p).notices.test.getLsbD 0 = true) ∧
      (s.store.loss = 0 → s.store.queue.length ≤ 47 →
        s.eventRecord .station (.test false v.inputs v.form .commit) ∈ t.store.queue)

/-- The commit of one item of any other kind but PARTITION and CLEAR, and of a MAP item that changes nothing: what it
sets at the tick, beside the setting itself, before the second that the tick ends is evaluated. STATION cuts a running
tail to the new hold; a new divider restarts the frame counter and abandons the cycle in progress on every input; OUTPUT
evaluates its line under the new rule; RETRANSMIT to OFF or OFFSET clears or clamps the code; a lowered exposure limit
clamps the exposure, in the snapshot too; ANALYSIS, LEVELS and EXPOSURE close the channel's interval; POLICY and
RECORDING do nothing more; and a MAP item that repeats the source record in force leaves the channel, its snapshot and
its interval as they are. (That COMMIT is the whole tick is log 2, the model's choice.) -/
def Obligations.SettingsCommit : Prop :=
  ∀ (s : State) (pulled : Bool) (owner : PortId) (confirmer : Option PortId),
    (let leaves := fun (i : Item) (u : State) => s.proposal = .committing owner confirmer [i] →
      ∃ t w, exec (.commit pulled) s = .next t ∧ exec (.secondTick pulled) u.emptied = .next w ∧ t.agrees w
     let closed := fun (c : Fin 8) => put s.intervals c ((nth s.intervals c).map fun _ => Interval.opened)
     let clamped := fun (v : LevelsItem) =>
      { v with
        excH := if v.excT < v.excH then v.excT else v.excH
        warnH := if v.warnT < v.warnH then v.warnT else v.warnH
        alarmH := if v.alarmT < v.alarmH then v.alarmT else v.alarmH }
     (∀ c, leaves (.map c (nth s.settings.map c)) s) ∧
      (∀ v, leaves (.station v)
        { s with
          settings := { s.settings with station := v }
          storm := if s.storm.state = .tail then
              { s.storm with tail := if v.stormHold < s.storm.tail then v.stormHold else s.storm.tail }
            else s.storm }) ∧
      (∀ d d', d' = (if 3072 < d then 3072 else d) → leaves (.timebase d)
        (if d' = s.settings.divider then s
         else
          { s with
            settings := { s.settings with divider := d' }
            timebase := { s.timebase with frameCounter := 0 }
            links := tab fun n =>
              { nth s.links n with
                cycleGood := 0, wbits := 0, sending := false
                inFlight := (nth s.links n).inFlight.map fun f => { f with abandoned := true } }
            averagers := tab fun n => { nth s.averagers n with cycleSum := 0, cycleValid := 0 } })) ∧
      (∀ l v, leaves (.output l v)
        { s with
          settings := { s.settings with output := put s.settings.output l v }
          lines := put s.lines l (evaluateLine v s.alarms) }) ∧
      (∀ o v, leaves (.retransmit o v)
        { s with
          settings := { s.settings with retransmit := put s.settings.retransmit o v }
          outputs := put s.outputs o
            (match v.mode with
            | .off => { nth s.outputs o with code := 0, faultShown := false, chosen := none }
            | .offset => { nth s.outputs o with code := clamp (-126) 126 (nth s.outputs o).code }
            | .split => nth s.outputs o) }) ∧
      (∀ c v, leaves (.exposure c v)
        (let top := if v.limit < (nth s.settings.exposure c).limit then some (2 * v.limit) else none
         let cut := fun (x : Nat) => match top with
          | some top => if top < x then top else x
          | none => x
         { s with
          settings := { s.settings with exposure := put s.settings.exposure c v }
          channels := put s.channels c { nth s.channels c with x := cut (nth s.channels c).x }
          test := { s.test with snapshots := upd s.test.snapshots c (·.map fun n => { n with x := cut n.x }) }
          intervals := closed c })) ∧
      (∀ c v, leaves (.analysis c v)
        { s with settings := { s.settings with analysis := put s.settings.analysis c v }, intervals := closed c }) ∧
      (∀ c v, leaves (.levels c v)
        { s with
          settings := { s.settings with levels := put s.settings.levels c (clamped v) }
          intervals := closed c }) ∧
      (∀ v, leaves (.policy v) { s with settings := { s.settings with policy := v } }) ∧
      (∀ v, leaves (.recording v) { s with settings := { s.settings with recording := v } }) ∧
      ∀ (c : Fin 8) (i : Item) (v : Interval), s.proposal = .committing owner confirmer [i] →
        ((∃ x, i = .analysis c x) ∨ (∃ x, i = .levels c x) ∨ ∃ x, i = .exposure c x) →
        nth s.intervals c = some v → v.length ≠ 0 → s.settings.ringSize c.castSucc ≠ 0 →
        s.store.queue.length ≤ 63 → ∃ t, exec (.commit pulled) s = .next t ∧
          ({ ring := c.castSucc, record := .interval (v.record c false) } : QueuedRecord) ∈ t.store.queue)

/-- The retransmit outputs at a second tick: a channel source that is DISABLED or STALE is in fault, one with an absent
second leaves the code standing; STATION PEAK takes the eligible channel with the largest m, the lowest number on a tie,
and is in fault when there is none; and the code is 127·d/F, rounded and clamped for the mode. Both are judged on the
state that the tick leaves, in which a channel in its 64th LEARNING second is ARMED (log 11, an inference). -/
def Obligations.OutputCodes : Prop :=
  ∀ (s : State) (pulled : Bool) (o : Fin 2), s.uncommitted → s.testGoesOn →
    ∃ t, exec (.secondTick pulled) s = .next t ∧
      (let v := nth s.settings.retransmit o
       let old := nth s.outputs o
       let new := nth t.outputs o
       let code := fun d : Int =>
        if v.mode = .offset then clamp (-126) 126 (clamp (-127) 127 (roundDiv (127 * d) v.fullScale))
        else clamp (-127) 127 (roundDiv (127 * d) v.fullScale)
       { new with code := old.code, faultShown := old.faultShown, sourceFault := old.sourceFault,
                  chosen := old.chosen } = old ∧
        (v.mode = .off → new.code = old.code ∧ new.faultShown = old.faultShown ∧ new.chosen = old.chosen) ∧
        (v.mode ≠ .off → ∀ i, v.source = .channel i →
          if (nth t.channels i).state = .disabled ∨ (nth t.channels i).state = .stale then
            new.code = old.code ∧ new.faultShown = v.signal ∧ new.sourceFault = true
          else
            (∀ u, (nth t.channels i).latest.bind (·.value) = some u →
              new.code = code u.d ∧ new.faultShown = false ∧ new.sourceFault = false) ∧
            ((nth t.channels i).latest.bind (·.value) = none →
              new.code = old.code ∧ new.faultShown = false ∧ new.sourceFault = false)) ∧
        (v.mode ≠ .off → v.source = .stationPeak →
          ((∀ i, (nth t.channels i).state = .disabled ∨ (nth t.channels i).state = .learning ∨
              (nth t.channels i).latest.bind (·.value) = none) →
            new.code = old.code ∧ new.faultShown = v.signal ∧ new.sourceFault = true ∧ new.chosen = none) ∧
          ∀ i u, (nth t.channels i).latest.bind (·.value) = some u →
            (nth t.channels i).state ≠ .disabled → (nth t.channels i).state ≠ .learning →
            (∀ j, (nth t.channels j).state ≠ .disabled → (nth t.channels j).state ≠ .learning →
              ∀ w, (nth t.channels j).latest.bind (·.value) = some w → w.m < u.m ∨ w.m = u.m ∧ i ≤ j) →
            new.code = code u.d ∧ new.faultShown = false ∧ new.sourceFault = false ∧ new.chosen = some i))

/-- A second joins the channel's open interval, after a change of storm class has closed the one before it, and the
interval closes when station time reaches a multiple of the length in force. A closed interval of at least one second
goes to the channel's ring. The flags are those of the state that the tick leaves, in which a channel in its
64th LEARNING second is ARMED (log 11, an inference). -/
def Obligations.IntervalGathers : Prop :=
  ∀ (s : State) (pulled : Bool) (c : Fin 8) (v : Interval), s.uncommitted → s.testGoesOn →
    (nth s.channels c).state ≠ .disabled → nth s.intervals c = some v →
    ∃ t, exec (.secondTick pulled) s = .next t ∧
      (let ch := nth t.channels c
       let d := (ch.latest.bind (·.value)).map (·.d)
       let cls : StormClass := if t.storm.state = .quiet then .quiet else .storm
       let changed := v.first.any fun f => f.1 ≠ cls
       let base := if changed then Interval.opened else v
       let next : Interval :=
        { first := some (base.first.getD (cls, s.timebase.time))
          length := base.length + 1
          dataSeconds := base.dataSeconds + (if d.isSome then 1 else 0)
          sumD := base.sumD + d.getD 0
          dRange := d.elim base.dRange fun d =>
            some (base.dRange.elim (d, d) fun r => (min r.1 d, max r.2 d))
          peakE := max base.peakE (ch.eAcc / 256)
          last := some (roundDiv ch.bAcc 65536, ch.x)
          flags :=
            base.flags ||| (if t.storm.state = .quiet then 0#16 else 0x01#16) |||
              (if ch.state = .test then 0x02#16 else 0#16) ||| (if ch.state = .stale then 0x04#16 else 0#16) |||
              (if ch.state = .learning then 0x08#16 else 0#16) |||
              (if ch.conds.excursion = true then 0x10#16 else 0#16) |||
              (if ch.conds.warn = true then 0x20#16 else 0#16) |||
              (if ch.conds.alarm = true then 0x40#16 else 0#16) |||
              if ch.conds.exposure = true then 0x80#16 else 0#16
          timeSet := base.timeSet }
       let closes := (s.timebase.time + 1).toNat %
        (if cls = .quiet then s.settings.recording.normal else s.settings.recording.storm) = 0
       nth t.intervals c = some (if closes then Interval.opened else next) ∧
        (s.store.queue = [] → s.settings.ringSize c.castSucc ≠ 0 →
          (changed = true → v.length ≠ 0 →
            ({ ring := c.castSucc, record := .interval (v.record c false) } : QueuedRecord) ∈ t.store.queue) ∧
          (closes →
            ({ ring := c.castSucc, record := .interval (next.record c false) } : QueuedRecord) ∈ t.store.queue)))

/-- A command that names an event that is not due at that moment changes nothing (log 2, the model's choice: such a
command is an event that does not happen): a frame with none in flight; a head command that does not begin or end at the
frame index, on the link as an unanswered frame in flight leaves it; at a second tick that commits nothing, the retry of
a link that is not LOST, a tail that does not run out, a test that goes on, a channel that is not LEARNING or ARMED, is
present or stays below its stale limit, and one that is not in its 64th present second of LEARNING; a window that does
not run out; a commit of nothing agreed; a grant during an access, and the end of one that is not in progress; a discard
timer outside READY; the fall of a SEL line that is low; a pulse that does not run; and a frame error whose bits carry a
request. -/
def Obligations.EventsNotDue : Prop :=
  ∀ (s : State) (n : Fin 8) (p : PortId) (pulled : Bool) (frame : BitVec 32),
    ((nth s.links n).inFlight = none → exec (.frameArrival n frame) s = .next s) ∧
    (s.uncommitted → (nth s.links n).state ≠ .lost → exec (.linkRetry n pulled) s = .next s) ∧
    (∀ u, exec (.frameArrival n 0xFFFFFFFF#32) s = .next u →
      let l := nth u.links n
      let going := l.state = .locked ∧ l.command.isSome
      (¬(going ∧ l.sending = false ∧ s.timebase.frameCounter = 0) → exec (.headCmdStart n) s = .next s) ∧
        (¬(going ∧ l.sending = true ∧ s.timebase.frameCounter = 15) → exec (.headCmdSent n) s = .next s)) ∧
    (s.uncommitted → s.storm.state ≠ .tail ∨ 2 ≤ s.storm.tail → exec (.tailEnd pulled) s = .next s) ∧
    (s.uncommitted → ∀ t, exec (.secondTick pulled) s = .next t → t.storm.state ≠ .quiet →
      exec (.tailEnd pulled) s = .next s) ∧
    (s.uncommitted → s.testGoesOn → exec (.testExpiry pulled) s = .next s) ∧
    (s.uncommitted →
      let c := nth s.channels n
      let zeroing := (List.finRange 8).any fun m => (nth s.settings.map n).uses m && (nth s.links m).zeroSeen
      let absence := if zeroing then c.absence else if 65535 ≤ c.absence then 65535 else c.absence + 1
      (¬((c.state = .learning ∨ c.state = .armed) ∧ s.secondValue n = none ∧
          (nth s.settings.analysis n).staleLimit ≤ absence) → exec (.staleEntry n pulled) s = .next s) ∧
        (¬((c.state = .learning ∨ c.state = .stale ∧ c.left = .learning) ∧ (s.secondValue n).isSome ∧
          63 ≤ c.learned) → exec (.learningEnd n pulled) s = .next s)) ∧
    ((∀ o i, s.proposal ≠ .draft o i 0 ∧ s.proposal ≠ .draft o i 1) → exec (.draftExpiry pulled) s = .next s) ∧
    ((∀ o i, s.proposal ≠ .posted o i 0 ∧ s.proposal ≠ .posted o i 1) → exec (.confirmExpiry pulled) s = .next s) ∧
    (s.uncommitted → exec (.commit pulled) s = .next s) ∧
    (s.store.access ≠ .idle → exec .storeGrant s = .next s) ∧
    ((∀ q, s.store.access ≠ .write q) → exec .writeComplete s = .next s) ∧
    ((∀ q r, s.store.access ≠ .copy q r) → exec .copyComplete s = .next s) ∧
    ((∀ b, (s.port p).slot ≠ .ready b) → exec (.discardTimerExpiry p) s = .next s) ∧
    ((s.port p).transfer ≠ .idle → exec (.transferStart p) s = .next s) ∧
    (∀ o : Fin 2,
      let u := nth s.outputs o
      u.period.mode = .off ∨ u.period.fault = true ∨
          u.period.mode = .offset ∧ ¬(u.pinA = true ∧ u.pinB = false) ∨
          u.period.mode = .split ∧ (u.period.code = 0 ∨
            ¬(u.pinA = decide (0 < u.period.code) ∧ u.pinB = decide (u.period.code < 0))) →
        exec (.pwmPulseEnd o) s = .next s) ∧
    ∀ solo bits i, judgeTransfer p solo bits = .request i → exec (.frameError p bits) s = .next s

/-! ## Chapters 7 and 8: the History Store and its reading -/

/-- A grant with no access in progress. With a record in the queue it goes to the writer: the record leaves the queue;
one for a ring of size 0 ends at once with nothing written; and one for a ring whose numbers are used up first clears
that ring, with a HISTORY_CLEARED event of cause WRAP at the head of the queue. With the queue empty it goes to the
first port in WORKING after the round-robin position: its FETCH restarts at oldest, with GAP, when its record is gone;
it is finished at the end of the ring; and otherwise one record is read. With no port in WORKING no access begins. -/
def Obligations.StoreGranted : Prop :=
  (∀ (s : State) (q : QueuedRecord) (rest : List QueuedRecord),
    s.store.access = .idle → s.store.queue = q :: rest →
    ∃ t, exec .storeGrant s = .next t ∧
      if s.settings.ringSize q.ring = 0 then t = { s with store := { s.store with queue := rest } }
      else if (nth s.store.rings q.ring).next < 4294967295 then
        t = { s with store := { s.store with queue := rest, access := .write q } }
      else
        t.store.access = .write q ∧ t.store.loss = 0 ∧
          nth t.store.rings q.ring = { oldest := 1, next := 1, records := [] } ∧
          (∀ r, r ≠ q.ring → nth t.store.rings r = nth s.store.rings r) ∧
          t.store.queue =
            ⟨8, .event ⟨s.timebase.time, .station, .historyCleared .wrap (1#16 <<< q.ring.val),
              min 65535 (s.store.loss + (rest.length - 63))⟩⟩ :: rest.take 63 ∧
          ∀ p, (∀ r, nth (t.port p).cursors r =
              if r = q.ring then { cursor := 1, skip := 0, armed := true } else nth (s.port p).cursors r) ∧
            if (s.port p).slot.ring = some q.ring then
              (t.port p).slot = .idle ∧ (t.port p).timer = 0 ∧ (t.port p).discarded = true ∧
                (t.port p).notices = (s.port p).notices.addReply 2
            else
              (t.port p).slot = (s.port p).slot ∧ (t.port p).timer = (s.port p).timer ∧
                (t.port p).discarded = (s.port p).discarded ∧ (t.port p).notices = (s.port p).notices) ∧
  (∀ (s : State) (p : PortId) (f : Fetch) (before after : List PortId),
    s.store.access = .idle → s.store.queue = [] →
    (match s.store.turn with
      | .a => [PortId.b, .c, .a]
      | .b => [.c, .a, .b]
      | .c => [.a, .b, .c]) = before ++ p :: after →
    (∀ q ∈ before, ∀ g, (s.port q).slot ≠ .working g) → (s.port p).slot = .working f →
    ∃ t, exec .storeGrant s = .next t ∧
      (let ring := nth s.store.rings f.ring
       let g : Fetch :=
        if f.wanted < ring.oldest then
          { f with held := [], wanted := ring.oldest, start := ring.oldest, gap := true,
                   atGrant := (ring.oldest, ring.next) }
        else { f with atGrant := (ring.oldest, ring.next) }
       if ring.next ≤ g.wanted then
        t = { s with store := { s.store with turn := p } }.updPort p fun q =>
          { q with
            slot := .ready { ring := f.ring, start := g.start, gap := g.gap, oldest := ring.oldest, next := ring.next,
                             records := g.held }
            timer := if q.shortDiscard then 512000 else 4096000
            notices := q.notices.addReply 0 }
       else
        t = { s with store :=
              { s.store with turn := p, access := .copy p (ring.records[g.wanted - ring.oldest]?) } }.updPort p
            fun q => { q with slot := .working { g with wanted := g.wanted + 1 } })) ∧
  ∀ s : State, s.store.access = .idle → s.store.queue = [] → (∀ p g, (s.port p).slot ≠ .working g) →
    exec .storeGrant s = .next s

/-- The end of a write: a full ring loses its oldest record, the record takes the number next, and every port is told,
which pushes on a cursor that stood at the removed record, with a skip and an OVERWRITE notice, and judges the
half-unread mark. A ring of size 0 takes no record: no run reaches a write to one, and the model ends such a write with
nothing done (log 23). -/
def Obligations.WriteEnds : Prop :=
  ∀ (s : State) (q : QueuedRecord), s.store.access = .write q →
    ∃ t, exec .writeComplete s = .next t ∧
      (let size := s.settings.ringSize q.ring
       let old := nth s.store.rings q.ring
       let full := old.next - old.oldest = size
       if size = 0 then t = { s with store := { s.store with access := .idle } }
       else
        t.store =
            { s.store with
              access := .idle
              rings := put s.store.rings q.ring
                { oldest := if full then old.oldest + 1 else old.oldest
                  next := old.next + 1
                  records := (if full then old.records.tail else old.records) ++
                    [{ seq := old.next, record := q.record }] } } ∧
          { t with store := s.store, ports := s.ports } = s ∧
          ∀ p,
            let cu := nth (s.port p).cursors q.ring
            t.port p =
              if full ∧ cu.cursor = old.oldest then
                { s.port p with notices := (s.port p).notices.addOverwrite q.ring }.movedTo q.ring (cu.cursor + 1)
                  (if 65535 ≤ cu.skip then 65535 else cu.skip + 1) size (old.next + 1)
              else (s.port p).movedTo q.ring cu.cursor cu.skip size (old.next + 1))

/-- The commit of CLEAR, of PARTITION or of both: every ring is emptied at its next, every cursor goes there with a skip
count of 0 and an armed mark, every FETCH in WORKING or READY is discarded with the mark and the REPLY notice CLEARED, a
write in progress goes back to the head of the queue, and one HISTORY_CLEARED event stands before it, the newest records
making room and being counted in it. The settings, the entries and the second are as with no clear. (That COMMIT is the
whole tick is log 2, the model's choice.) -/
def Obligations.StoreCleared : Prop :=
  ∀ (s : State) (pulled : Bool) (owner : PortId) (confirmer : Option PortId) (items : List Item) (cause : ClearCause),
    s.proposal = .committing owner confirmer items → (items.map Item.name).Nodup →
    (∀ i ∈ items, i = .clear ∨ ∃ sizes, i = .partition sizes) →
    ((∃ sizes, .partition sizes ∈ items) ∧ cause = .partition ∨
      (∀ sizes, .partition sizes ∉ items) ∧ .clear ∈ items ∧ cause = .clear) →
    ∃ t w u : State, exec (.commit pulled) s = .next t ∧ exec (.secondTick pulled) u.emptied = .next w ∧ t.agrees w ∧
      { u with settings := s.settings } = s ∧ { u.settings with partition := s.settings.partition } = s.settings ∧
      (∀ sizes, .partition sizes ∈ items → u.settings.partition = sizes) ∧
      (cause = .clear → u.settings.partition = s.settings.partition) ∧
      (∀ r, nth t.store.rings r =
        { oldest := (nth s.store.rings r).next, next := (nth s.store.rings r).next, records := [] }) ∧
      t.store.turn = s.store.turn ∧
      t.store.access =
        (match s.store.access with
        | .idle | .write _ => .idle
        | .copy p r => .copy p (if (s.port p).slot = .idle then r else none)) ∧
      (let back := match s.store.access with
        | .write q => [q]
        | .idle | .copy _ _ => []
       let queue := back ++ s.store.queue
       let cleared : EventRecord :=
        { time := s.timebase.time, source := .station, body := .historyCleared cause 0x01FF#16
          loss := min 65535 (s.store.loss + (queue.length - 63)) }
       ∃ later, t.store.queue = { ring := 8, record := .event cleared } :: queue.take 63 ++ later) ∧
      ∀ p,
        { t.port p with notices := (s.port p).notices } =
          { s.port p with
            cursors := tab fun r => { cursor := (nth s.store.rings r).next, skip := 0, armed := true }
            slot := .idle
            timer := if (s.port p).slot = .idle then (s.port p).timer else 0
            discarded := if (s.port p).slot = .idle then (s.port p).discarded else true } ∧
          ((s.port p).slot ≠ .idle →
            (t.port p).notices.flags.getLsbD 6 = true ∧ (t.port p).notices.reply.getLsbD 2 = true)

/-- SEEK and REWIND: a ring outside 0..8 is BAD_ARGUMENT; a FETCH for the ring in WORKING or READY is BUSY; and
otherwise the cursor goes to the given sequence clamped to oldest..next, or to oldest, the skip count is kept, the
half-unread mark is judged, and the reply is DONE with the place. -/
def Obligations.CursorPlaced : Prop :=
  ∀ (s : State) (p : PortId) (x : Byte) (sequence : BitVec 32), s.plain p →
    (9 ≤ x.toNat → exec (.seek p x sequence) s = .next (s.answered p (bare .badArgument 17)) ∧
      exec (.rewind p x) s = .next (s.answered p (bare .badArgument 18))) ∧
    ∀ r : Fin 9, x.toNat = r.val →
      ((s.port p).slot.ring = some r → exec (.seek p x sequence) s = .next (s.answered p (bare .busy 17)) ∧
        exec (.rewind p x) s = .next (s.answered p (bare .busy 18))) ∧
      ((s.port p).slot.ring ≠ some r →
        (let ring := nth s.store.rings r
         let skip := (nth (s.port p).cursors r).skip
         let place :=
          if sequence.toNat < ring.oldest then ring.oldest
          else if ring.next < sequence.toNat then ring.next else sequence.toNat
         exec (.seek p x sequence) s = .next
            ((s.updPort p fun q => q.movedTo r place skip (s.settings.ringSize r) ring.next).answered p
              { status := .done, code := 17, body := .place r place ring.oldest ring.next skip }) ∧
          exec (.rewind p x) s = .next
            ((s.updPort p fun q => q.movedTo r ring.oldest skip (s.settings.ringSize r) ring.next).answered p
              { status := .done, code := 18, body := .place r ring.oldest ring.oldest ring.next skip })))

/-- The deferred slot. FETCH: a ring outside 0..8 is BAD_ARGUMENT, an occupied slot is BUSY, and in IDLE the slot goes
to WORKING from the port's cursor with the count clamped to 1..4, answered QUEUED. COLLECT in READY hands the batch over
with the present skip count, and in WORKING and IDLE it reports the nine places; it clears the discarded mark each time.
CANCEL throws a FETCH away, with its copy in progress, and moves no mark and no notice. The end of a copy gives its
record to the FETCH, which is finished when its count is reached; a copy whose port has left WORKING is thrown away. A
discard timer that runs out throws the waiting reply away, with the discarded mark and the REPLY notice DISCARDED. -/
def Obligations.DeferredSlot : Prop :=
  (∀ (s : State) (p : PortId) (x count : Byte), s.plain p →
     (9 ≤ x.toNat → exec (.fetch p x count) s = .next (s.answered p (bare .badArgument 19))) ∧
     (∀ r : Fin 9, x.toNat = r.val →
       ((s.port p).slot ≠ .idle → exec (.fetch p x count) s = .next (s.answered p (bare .busy 19))) ∧
       ((s.port p).slot = .idle →
         (let start := (nth (s.port p).cursors r).cursor
          let n := if count.toNat < 1 then 1 else if 4 < count.toNat then 4 else count.toNat
          let f : Fetch :=
           { ring := r, count := n, wanted := start, start, gap := false, held := []
             atGrant := ((nth s.store.rings r).oldest, (nth s.store.rings r).next) }
          exec (.fetch p x count) s = .next
           ((s.updPort p fun q => { q with slot := .working f }).answered p
             { status := .queued, code := 19, body := .queued r n start })))) ∧
     (∀ b, (s.port p).slot = .ready b →
       exec (.collect p) s = .next
         ((s.updPort p fun q => { q with slot := .idle, timer := 0, discarded := false }).answered p
           { status := .done, code := 11, body := .batch b (nth (s.port p).cursors b.ring).skip })) ∧
     (∀ f, (s.port p).slot = .working f →
       exec (.collect p) s = .next ((s.updPort p fun q => { q with discarded := false }).answered p
         { status := .pending, code := 11, body := .cursors (s.port p).cursors })) ∧
     ((s.port p).slot = .idle →
       exec (.collect p) s = .next ((s.updPort p fun q => { q with discarded := false }).answered p
         { status := if (s.port p).discarded then .discarded else .emptySlot, code := 11
           body := .cursors (s.port p).cursors })) ∧
     ((s.port p).slot ≠ .idle → ∃ t, exec (.cancel p) s = .next t ∧
       t.port p = { s.port p with slot := .idle, timer := 0, transfer := .idle, due := bare .done 12 } ∧
       (∀ q, q ≠ p → t.port q = s.port q) ∧
       t.store = { s.store with access :=
         match s.store.access with
         | .copy q r => if q = p then .copy q none else .copy q r
         | .idle => .idle
         | .write q => .write q } ∧
       { t with ports := s.ports, store := s.store } = s) ∧
     ((s.port p).slot = .idle → exec (.cancel p) s = .next (s.answered p (bare .emptySlot 12)))) ∧
  (∀ (s : State) (p : PortId) (r : StoredRecord) (f : Fetch), s.store.access = .copy p (some r) →
    (s.port p).slot = .working f →
    exec .copyComplete s = .next ({ s with store := { s.store with access := .idle } }.updPort p fun q =>
      if f.count ≤ f.held.length + 1 then
        { q with
          slot := .ready { ring := f.ring, start := f.start, gap := f.gap, oldest := f.atGrant.1, next := f.atGrant.2,
                           records := f.held ++ [r] }
          timer := if q.shortDiscard then 512000 else 4096000
          notices := q.notices.addReply 0 }
      else { q with slot := .working { f with held := f.held ++ [r] } })) ∧
  (∀ (s : State) (p : PortId), s.store.access = .copy p none →
    exec .copyComplete s = .next { s with store := { s.store with access := .idle } }) ∧
  ∀ (s : State) (p : PortId) (b : Batch), (s.port p).slot = .ready b →
    exec (.discardTimerExpiry p) s = .next (s.updPort p fun q =>
      { q with slot := .idle, timer := 0, discarded := true, notices := q.notices.addReply 1 })

/-- A store record in its slot, filled up to 48 bytes with zeros: an interval record field by field, and an event
record's type code, source code, number, time, LOSS and body, each kind's body byte by byte with its codes. -/
def Obligations.RecordBytes : Prop :=
  (∀ (seq : Nat) (v : IntervalRecord), StoredRecord.bytes { seq, record := .interval v } =
    [0x00#8, BitVec.ofNat 8 v.channel.val] ++ bytes4 (BitVec.ofNat 32 seq) ++ bytes4 v.start ++
      bytes2 (BitVec.ofNat 16 v.length) ++ bytes2 (BitVec.ofNat 16 v.dataSeconds) ++ bytes2 v.flags ++
      bytes4 (BitVec.ofInt 32 (v.meanD.getD 0)) ++ bytes4 (BitVec.ofInt 32 ((v.dRange.map (·.1)).getD 0)) ++
      bytes4 (BitVec.ofInt 32 ((v.dRange.map (·.2)).getD 0)) ++ bytes4 (BitVec.ofNat 32 v.peakE) ++
      bytes4 (BitVec.ofInt 32 v.b) ++ bytes4 (BitVec.ofNat 32 v.x) ++ List.replicate 8 0#8) ∧
  ∀ (seq : Nat) (time : Time) (source : EventSource) (loss : Nat),
    (let sourceCode : Byte :=
      match source with
      | .channel c => BitVec.ofNat 8 c.val
      | .input n => BitVec.ofNat 8 (16 + n.val)
      | .port .a => 32
      | .port .b => 33
      | .port .c => 34
      | .station => 48
     let laid := fun (body : EventBody) (type : Byte) (bytes : List Byte) =>
      StoredRecord.bytes { seq, record := .event { time, source, body, loss } } =
        [type, sourceCode] ++ bytes4 (BitVec.ofNat 32 seq) ++ bytes4 time ++ bytes2 (BitVec.ofNat 16 loss) ++ bytes ++
          List.replicate (36 - bytes.length) 0#8
     let alarmCode : AlarmState → Byte := fun
      | .normal => 0
      | .raised => 1
      | .accepted => 2
      | .returned => 3
     let linkCode : LinkState → Byte := fun
      | .off => 0
      | .seeking => 1
      | .locked => 2
      | .slipped => 3
      | .lost => 4
     let stormCode : StormState → Byte := fun
      | .quiet => 0
      | .storm => 1
      | .tail => 2
     let portCode : PortId → Byte := fun
      | .a => 1
      | .b => 2
      | .c => 3
     let commandCode : HeadCommand → Byte := fun
      | .zero => 1
      | .restart => 2
     let formCode : TestForm → Byte := fun
      | .level => 0
      | .ramp => 1
      | .square => 2
      | .prbs => 3
     let linkCauses : List (LinkCause × Byte) :=
      [(.acquired, 0), (.realigned, 1), (.mark, 2), (.silent, 3), (.badFrames, 4), (.noRelock, 5), (.retry, 6),
        (.enabled, 7), (.disabled, 8), (.address, 9)]
     (∀ i was now value cause code,
        (cause, code) ∈ [(AlarmCause.condition, (0 : Byte)), (.acknowledge, 1), (.reset, 2)] →
        laid (.alarm i was now value cause) 1
          ([BitVec.ofNat 8 i.val, alarmCode was, alarmCode now, code] ++ bytes4 (BitVec.ofNat 32 value))) ∧
      (∀ p count entries,
        laid (.ack p count entries) 2 ([portCode p, BitVec.ofNat 8 count] ++ bytes4 entries)) ∧
      (∀ n was now cause code, (cause, code) ∈ linkCauses →
        laid (.link n was now cause) 3 [BitVec.ofNat 8 n.val, linkCode was, linkCode now, code]) ∧
      (∀ was now count,
        laid (.storm was now count) 4 [stormCode was, stormCode now, BitVec.ofNat 8 count]) ∧
      (∀ generation poster confirmer (items : List (Nat × Nat)), items.length ≤ 16 →
        laid (.commit generation poster confirmer items) 5
          (bytes2 generation ++ [portCode poster, (confirmer.map portCode).getD 0, BitVec.ofNat 8 items.length] ++
            items.map fun i => BitVec.ofNat 8 (16 * i.1 + i.2))) ∧
      (∀ number cause code, (cause, code) ∈
          [(EndCause.withdrawn, (0 : Byte)), (.draftExpired, 1), (.confirmExpired, 2), (.portRestart, 3)] →
        laid (.proposalEnded number cause) 6 (bytes2 number ++ [code])) ∧
      (∀ ended inputs form cause code,
        (cause, code) ∈ [(TestCause.commit, (0 : Byte)), (.expired, 1), (.stopped, 2)] →
        laid (.test ended inputs form cause) 7 [if ended then 1 else 0, inputs, formCode form, code]) ∧
      (∀ old new p, laid (.time old new p) 8 (bytes4 old ++ bytes4 new ++ [portCode p])) ∧
      (∀ n command dropped, laid (.headCmd n command dropped) 9
        [BitVec.ofNat 8 n.val, commandCode command, if dropped then 1 else 0]) ∧
      (∀ n channels, laid (.zeroEnd n channels) 10 [BitVec.ofNat 8 n.val, channels]) ∧
      laid .start 11 [] ∧
      ∀ cause code rings,
        (cause, code) ∈ [(ClearCause.clear, (0 : Byte)), (.partition, 1), (.wrap, 2)] →
        laid (.historyCleared cause rings) 12 ([code] ++ bytes2 rings))

/-! ## Chapter 9: the retransmit outputs -/

/-- A PWM period takes the mode, prescale, code and fault as they stand and drives its pins by R163's table; the pulse
ends after its segments, pin B the complement of pin A under OFFSET; and a period with one level throughout has no
pulse to end. The counts that the two commands leave, which are the moments they stand for, are log 20, and that a
PWM_PULSE_END with no pulse to end changes nothing is log 2 (the model's choices). -/
def Obligations.PwmWaveform : Prop :=
  ∀ (s : State) (o : Fin 2),
    (∃ t, exec (.pwmPeriodStart o) s = .next t ∧ { t with outputs := s.outputs } = s ∧
      (∀ i, i ≠ o → nth t.outputs i = nth s.outputs i) ∧
      (let v := nth s.settings.retransmit o
       let old := nth s.outputs o
       let pins :=
        match v.mode, old.faultShown with
        | .off, _ => (false, false)
        | .offset, false => (true, false)
        | .offset, true => (false, false)
        | .split, false => (decide (0 < old.code), decide (old.code < 0))
        | .split, true => (true, true)
       nth t.outputs o = { old with
        counter := 0
        period := { mode := v.mode, prescale := v.prescale, code := old.code, fault := old.faultShown }
        pinA := pins.1, pinB := pins.2 })) ∧
    (∀ d : PwmPeriod, (nth s.outputs o).period = d → d.fault = false →
      (d.mode = .offset → (nth s.outputs o).pinA = true → (nth s.outputs o).pinB = false →
        exec (.pwmPulseEnd o) s = .next { s with outputs := put s.outputs o { nth s.outputs o with
          counter := (64 + d.code.tdiv 2).toNat * d.prescale, pinA := false, pinB := true } }) ∧
      (d.mode = .split → d.code ≠ 0 → (nth s.outputs o).pinA = decide (0 < d.code) →
        (nth s.outputs o).pinB = decide (d.code < 0) →
        exec (.pwmPulseEnd o) s = .next { s with outputs := put s.outputs o { nth s.outputs o with
          counter := d.code.natAbs * d.prescale, pinA := false, pinB := false } })) ∧
    ((nth s.outputs o).period.mode = .off ∨ (nth s.outputs o).period.fault = true ∨
        ((nth s.outputs o).period.mode = .split ∧ (nth s.outputs o).period.code = 0) →
      exec (.pwmPulseEnd o) s = .next s)

/-! ## Chapter 10: ports -/

/-- The reply frame that a transfer carries is fixed at the fall of SEL: a header of 14 bytes with its live fields as
they then stand, the body, and the CRC-16 over both. SDO is driven only while SEL is low: from the fall of SEL it shows
the frame, one bit further at each falling edge of SCK and the most significant bit of each byte first, and then
filler bytes of 0. -/
def Obligations.TransferCarriesReply : Prop :=
  ∀ (s : State) (p : PortId), (s.port p).transfer = .idle →
    (let q := s.port p
     let head : List Byte :=
      [BitVec.ofNat 8 q.due.status.byte, q.due.code, BitVec.ofNat 8 q.due.body.bytes.length] ++
        bytes2 s.generation ++ bytes4 s.timebase.time ++
        [match q.slot with
          | .idle => 0
          | .working _ => 1
          | .ready _ => 2,
         q.notices.flags &&& q.mask,
         match s.proposal with
          | .empty => 0
          | .draft _ _ _ => 1
          | .posted _ _ _ => 2
          | .committing _ _ _ => 3] ++ bytes2 s.number
     head.length = 14 ∧
      (∀ falls, (s.port p).transfer.sdo falls = none) ∧
      ∃ t, exec (.transferStart p) s = .next t ∧
        (let frame := head ++ q.due.body.bytes ++ bytes2 (crc16 (head ++ q.due.body.bytes))
         t = s.updPort p (fun q => { q with transfer := .active frame }) ∧
          ∀ falls, (t.port p).transfer.sdo falls =
            some ((frame.getD (falls / 8) 0#8).getLsbD (7 - falls % 8))))

/-- A transfer whose frame is not taken changes nothing but the due reply: FRAME_ERROR for a frame cut short, a CRC that
does not agree or a length the request does not take, and UNKNOWN_REQUEST for a whole frame whose code names none; the
reply echoes the first byte. Bits travel the most significant bit of a byte first, and those of a byte left incomplete
are discarded. -/
def Obligations.DamagedFrames : Prop :=
  ∀ (s : State) (p : PortId) (odd : List Bool), s.plain p → odd.length < 8 →
    (let bits : List Byte → List Bool := fun bytes =>
      (bytes.flatMap fun x => [7, 6, 5, 4, 3, 2, 1, 0].map fun i => x.getLsbD i) ++ odd
     (∀ bytes : List Byte, bytes.length < 4 →
        exec (.frameError p (bits bytes)) s = .next (s.answered p (bare .frameError (bytes.headD 0)))) ∧
      (∀ (code len : Byte) (rest : List Byte), rest.length < len.toNat + 2 →
        exec (.frameError p (bits (code :: len :: rest))) s = .next (s.answered p (bare .frameError code))) ∧
      ∀ (code len hi lo : Byte) (args more : List Byte), args.length = len.toNat →
        (word2 hi lo ≠ crc16 (code :: len :: args) →
          exec (.frameError p (bits (code :: len :: (args ++ hi :: lo :: more)))) s =
            .next (s.answered p (bare .frameError code))) ∧
        (word2 hi lo = crc16 (code :: len :: args) → 24 ≤ code.toNat →
          exec (.frameError p (bits (code :: len :: (args ++ hi :: lo :: more)))) s =
            .next (s.answered p (bare .unknownRequest code))) ∧
        (word2 hi lo = crc16 (code :: len :: args) → code.toNat ≤ 23 →
          250 < len.toNat ∨ lengthTaken code args = false →
          exec (.frameError p (bits (code :: len :: (args ++ hi :: lo :: more)))) s =
            .next (s.answered p (bare .frameError code))))

/-- The reading requests change nothing but the due reply, which is DONE with the block as it stands, or BAD_ARGUMENT
for a name outside its range. GET STATION reads the level of the SOLO strap as it stands, which is the command's operand
(log 9, the model's choice). -/
def Obligations.ReadingRequests : Prop :=
  ∀ (s : State) (p : PortId) (x y : Byte), s.plain p →
    exec (.nop p) s = .next (s.answered p (bare .done 0)) ∧
    (∀ c : Fin 8, x.toNat = c.val →
      exec (.getChannel p x) s =
          .next (s.answered p { status := .done, code := 1, body := .channel (nth s.channels c) }) ∧
        exec (.getHead p x) s = .next (s.answered p
          { status := .done, code := 2
            body := .head (nth s.links c) (nth s.settings.link c).address (nth s.averagers c).latest }) ∧
        exec (.getAlarms p x) s =
          .next (s.answered p { status := .done, code := 3, body := .alarms s.alarms c s.lines })) ∧
    (8 ≤ x.toNat → exec (.getChannel p x) s = .next (s.answered p (bare .badArgument 1)) ∧
      exec (.getHead p x) s = .next (s.answered p (bare .badArgument 2)) ∧
      exec (.getAlarms p x) s = .next (s.answered p (bare .badArgument 3))) ∧
    (∀ solo, exec (.getStation ⟨p, solo⟩) s = .next ({ s with solo }.answered p
      { status := .done, code := 4
        body := .station
          { solo, test := s.test, storm := s.storm, ringSizes := tab fun r => s.settings.ringSize r
            heads := tab fun r => ((nth s.store.rings r).oldest, (nth s.store.rings r).next)
            queueCount := s.store.queue.length, loss := s.store.loss, access := s.store.access
            outputs := s.outputs } })) ∧
    (∀ c : Fin 8, y.toNat = c.val → ∀ i,
      (x = 0 ∧ i = .map c (nth s.settings.map c) ∨ x = 1 ∧ i = .analysis c (nth s.settings.analysis c) ∨
        x = 2 ∧ i = .levels c (nth s.settings.levels c) ∨ x = 3 ∧ i = .exposure c (nth s.settings.exposure c) ∨
        x = 4 ∧ i = .link c (nth s.settings.link c)) →
      exec (.getSetting p x y) s = .next (s.answered p { status := .done, code := 5, body := .setting i })) ∧
    (y = 0 → ∀ i,
      (x = 5 ∧ i = .policy s.settings.policy ∨ x = 7 ∧ i = .station s.settings.station ∨
        x = 8 ∧ i = .recording s.settings.recording ∨ x = 9 ∧ i = .partition s.settings.partition ∨
        x = 10 ∧ i = .timebase s.settings.divider) →
      exec (.getSetting p x y) s = .next (s.answered p { status := .done, code := 5, body := .setting i })) ∧
    (∀ l : Fin 4, x = 6 → y.toNat = l.val → exec (.getSetting p x y) s = .next (s.answered p
      { status := .done, code := 5, body := .setting (.output l (nth s.settings.output l)) })) ∧
    (∀ o : Fin 2, x = 11 → y.toNat = o.val → exec (.getSetting p x y) s = .next (s.answered p
      { status := .done, code := 5, body := .setting (.retransmit o (nth s.settings.retransmit o)) })) ∧
    (12 ≤ x.toNat ∨ x.toNat ≤ 4 ∧ 8 ≤ y.toNat ∨ x = 6 ∧ 4 ≤ y.toNat ∨ x = 11 ∧ 2 ≤ y.toNat ∨
        (x = 5 ∨ x = 7 ∨ x = 8 ∨ x = 9 ∨ x = 10) ∧ y ≠ 0 →
      exec (.getSetting p x y) s = .next (s.answered p (bare .badArgument 5))) ∧
    exec (.getProposal p x) s = .next (s.answered p
      { status := .done, code := 6
        body := .proposal
          { proposal := s.proposal, number := s.number
            contents := s.proposal.items[if 15 < x.toNat then 15 else x.toNat]? } })

/-- ACKNOWLEDGE: an empty mask or an unknown selector is BAD_ARGUMENT; of the named entries, RAISED goes to ACCEPTED and
RETURNED to NORMAL and every other is not pending; the reply counts and names those that changed; and their ALARM
events, in entry order, stand before the ACK event. -/
def Obligations.EntriesAcknowledged : Prop :=
  ∀ (s : State) (p : PortId) (selector : Byte) (mask : BitVec 32), s.plain p →
    (2 ≤ selector.toNat ∨ selector = 0 ∧ mask = 0 →
      exec (.acknowledge p selector mask) s = .next (s.answered p (bare .badArgument 7))) ∧
    (selector = 1 ∨ selector = 0 ∧ mask ≠ 0 → ∃ changed : BitVec 32,
      (∀ i : Fin 32, changed.getLsbD i.val =
        ((selector == 1 || mask.getLsbD i.val) &&
          ((nth s.alarms i).state == .raised || (nth s.alarms i).state == .returned))) ∧
      (changed = 0 → exec (.acknowledge p selector mask) s = .next (s.answered p
        { status := .notPending, code := 7, body := .acknowledged 0 0 })) ∧
      (changed ≠ 0 → ∃ t, exec (.acknowledge p selector mask) s = .next t ∧
        (let named := (List.finRange 32).filter fun i => changed.getLsbD i.val
         (t.port p).due = { status := .done, code := 7, body := .acknowledged named.length changed } ∧
          (t.port p).transfer = .idle ∧
          (∀ i, nth t.alarms i =
            if changed.getLsbD i.val then
              { nth s.alarms i with
                state := if (nth s.alarms i).state = .raised then .accepted else .normal
                lastChange := some s.timebase.time
                ackPort := some p }
            else nth s.alarms i) ∧
          (∀ l, nth t.lines l =
            if (nth s.lines l).asserted = none then nth s.lines l
            else evaluateLine (nth s.settings.output l) t.alarms) ∧
          (∀ q, (t.port q).notices.flags.getLsbD 0 = true ∧ ∀ c : Fin 8,
            ((t.port q).notices.alarm.getLsbD c.val = true ↔
              (s.port q).notices.alarm.getLsbD c.val = true ∨
                ∃ k : Fin 4, changed.getLsbD (4 * c.val + k.val) = true)) ∧
          (s.store.loss = 0 → s.store.queue.length ≤ 31 → t.store.queue = s.store.queue ++
            named.map (fun i => s.eventRecord (.channel (channelOf i))
              (.alarm i (nth s.alarms i).state (if (nth s.alarms i).state = .raised then .accepted else .normal)
                (nth s.alarms i).peak .acknowledge)) ++
            [s.eventRecord (.port p) (.ack p named.length changed)]) ∧
          { t with alarms := s.alarms, lines := s.lines, ports := s.ports, store := s.store, free := s.free } = s)))

/-- SET TIME: station time is the new value at once, every divider count stands, the TIME notice is set on the other two
ports, every open interval closes with TIME_SET, and the TIME event and the closed intervals are all that joins the
queue. -/
def Obligations.StationTimeSet : Prop :=
  ∀ (s : State) (p : PortId) (time : BitVec 32), s.plain p →
    ∃ t, exec (.setTime p time) s = .next t ∧ t.timebase = { s.timebase with time } ∧
      t.port p = { s.port p with transfer := .idle, due := bare .done 8 } ∧
      (∀ q, q ≠ p → t.port q = { s.port q with notices := (s.port q).notices.addTime p }) ∧
      (∀ c, nth t.intervals c = (nth s.intervals c).map fun _ => Interval.opened) ∧
      (s.store.loss = 0 → s.store.queue.length ≤ 55 → ∃ l : List QueuedRecord,
        t.store.queue = s.store.queue ++ l ∧
        l.Perm
          (t.eventRecord (.port p) (.time s.timebase.time time p) ::
            (List.finRange 8).filterMap fun c => (nth s.intervals c).bind fun v =>
              if v.length = 0 ∨ s.settings.ringSize c.castSucc = 0 then none
              else some { ring := c.castSucc, record := .interval (v.record c true) })) ∧
      { t with timebase := s.timebase, ports := s.ports, intervals := s.intervals, store := s.store,
               free := s.free } = s

/-- SEND HEAD COMMAND: its conditions are judged in the rule's order, and the command is loaded when none applies. -/
def Obligations.HeadCommandTaken : Prop :=
  ∀ (s : State) (p : PortId) (x code : Byte), s.plain p →
    (8 ≤ x.toNat ∨ code ≠ 1 ∧ code ≠ 2 →
      exec (.sendHeadCommand p x code) s = .next (s.answered p (bare .badArgument 9))) ∧
    ∀ (n : Fin 8) (command : HeadCommand), x.toNat = n.val →
      (code = 1 ∧ command = .zero ∨ code = 2 ∧ command = .restart) →
      exec (.sendHeadCommand p x code) s = .next
        (if (nth s.links n).command.isSome then s.answered p (bare .busy 9)
        else if (nth s.links n).state ≠ .locked then s.answered p (bare .refused 9)
        else if command = .zero ∧
            ((∃ c, (nth s.settings.map c).uses n = true ∧ (nth s.channels c).conds.excursion = true) ∨
              s.storm.state = .storm ∨ s.storm.state = .tail) then
          s.answered p (bare .refused 9)
        else
          { s with links := put s.links n { nth s.links n with command := some command, sending := false } }.answered p
            (bare .done 9))

/-- STOP TEST: REFUSED in IDLE; in RUNNING the test ends at once, every channel with a snapshot is put back and its
interval closed, the Test Generator is IDLE, and TEST ENDED is produced with cause STOPPED. The entries follow the
conditions that the restore changes, with their ALARM events and notices, and the lines follow the entries; the value
handed with a change is that of the restored channel (log 17, an inference). A channel
restored to ARMED keeps its learning count (log 16, an inference), and the remaining duration goes to 0 (log 30, the
model's choice). -/
def Obligations.TestStopped : Prop :=
  ∀ (s : State) (p : PortId), s.plain p →
    (s.test.plan = none → exec (.stopTest p) s = .next (s.answered p (bare .refused 10))) ∧
    ∀ v, s.test.plan = some v → ∃ t, exec (.stopTest p) s = .next t ∧
      (t.port p).due = bare .done 10 ∧ (t.port p).transfer = .idle ∧ t.test.plan = none ∧ t.test.remaining = 0 ∧
      t.test.supplied = none ∧ (∀ c, nth t.test.snapshots c = none) ∧
      (∀ c, nth t.channels c =
        match nth s.test.snapshots c with
        | none => nth s.channels c
        | some n =>
          { nth s.channels c with
            eAcc := n.eAcc, x := n.x, conds := n.conds
            state := if n.learning then .learning else .armed
            learned := if n.learning then n.learned else (nth s.channels c).learned
            absence := 0 }) ∧
      (∀ c, nth t.intervals c =
        if (nth s.test.snapshots c).isSome then (nth s.intervals c).map fun _ => Interval.opened
        else nth s.intervals c) ∧
      (∀ c k, nth t.alarms (entryOf c k) =
        (nth s.alarms (entryOf c k)).moved k (nth s.channels c) (nth t.channels c) s.settings.policy s.timebase.time) ∧
      (∀ l, nth t.lines l =
        if (nth s.lines l).asserted = none then nth s.lines l
        else evaluateLine (nth s.settings.output l) t.alarms) ∧
      (∀ c k, (nth t.alarms (entryOf c k)).state ≠ (nth s.alarms (entryOf c k)).state →
        (∀ q, (t.port q).notices.flags.getLsbD 0 = true ∧ (t.port q).notices.alarm.getLsbD c.val = true) ∧
        (s.store.loss = 0 → s.store.queue.length ≤ 23 →
          s.eventRecord (.channel c) (.alarm (entryOf c k) (nth s.alarms (entryOf c k)).state
            (nth t.alarms (entryOf c k)).state (k.handed (nth t.channels c)) .condition) ∈ t.store.queue)) ∧
      (∀ q, (t.port q).notices.flags.getLsbD 5 = true ∧ (t.port q).notices.test.getLsbD 1 = true) ∧
      (s.store.loss = 0 → s.store.queue.length ≤ 23 →
        s.eventRecord (.port p) (.test true v.inputs v.form .stopped) ∈ t.store.queue) ∧
      t.settings = s.settings ∧ t.timebase = s.timebase ∧ t.links = s.links ∧ t.averagers = s.averagers ∧
      t.storm = s.storm ∧ t.outputs = s.outputs ∧ t.proposal = s.proposal

/-- GET NOTICES returns the notices and clears them in one step; SET NOTICE MASK replaces the mask and reports it with
the flags; and SET PORT OPTIONS takes 0 and 1 alone. RESTART PORT: the port's slot, mark, timer, notices, mask, option,
cursors, skip counts and half-unread marks are reset, with the HALF notices that the judgement sets; its own draft ends;
and nothing else of the part is reached. The ATTN output of a port is active exactly while one of its flags is set whose
mask bit is on. -/
def Obligations.PortRestarted : Prop :=
  (∀ q : Port, q.attnActive = true ↔
     ∃ k : Fin 8, q.notices.flags.getLsbD k.val = true ∧ q.mask.getLsbD k.val = true) ∧
  (∀ (s : State) (p : PortId) (x : Byte), s.plain p →
     exec (.getNotices p) s = .next ((s.updPort p fun q =>
       { q with notices := { flags := 0, alarm := 0, half := 0, overwrite := 0, settings := 0, link := 0, test := 0,
                             reply := 0, time := 0 } }).answered p
         { status := .done, code := 15, body := .notices (s.port p).notices }) ∧
     exec (.setNoticeMask p x) s = .next ((s.updPort p fun q => { q with mask := x }).answered p
       { status := .done, code := 21, body := .mask x (s.port p).notices.flags }) ∧
     exec (.setPortOptions p x) s = .next
       (if x = 0 then (s.updPort p fun q => { q with shortDiscard := false }).answered p
           { status := .done, code := 22, body := .option false }
       else if x = 1 then (s.updPort p fun q => { q with shortDiscard := true }).answered p
           { status := .done, code := 22, body := .option true }
       else s.answered p (bare .badArgument 22))) ∧
  ∀ (s : State) (p : PortId), s.plain p → ∃ t, exec (.restartPort p) s = .next t ∧
    (let half := fun r => decide (s.settings.ringSize r ≠ 0 ∧
      s.settings.ringSize r ≤ 2 * ((nth s.store.rings r).next - (nth s.store.rings r).oldest))
     let halves : BitVec 16 := maskOf 16 half
     t.port p =
      { transfer := .idle
        due := { status := .restarted, code := 16, body := .restarted true }
        notices := { flags := if halves = 0 then 0 else 2, alarm := 0, half := halves, overwrite := 0, settings := 0,
                     link := 0, test := 0, reply := 0, time := 0 }
        mask := 0xFF, shortDiscard := false, slot := .idle, timer := 0, discarded := false
        cursors := tab fun r => { cursor := (nth s.store.rings r).oldest, skip := 0, armed := !half r } }) ∧
    t.store.rings = s.store.rings ∧ t.store.turn = s.store.turn ∧
    t.store.access =
      (match s.store.access with
      | .copy q r => if q = p then .copy q none else .copy q r
      | .idle => .idle
      | .write q => .write q) ∧
    (∀ items left, s.proposal = .draft p items left → t.proposal = .empty ∧
      (∀ q, q ≠ p → t.port q = { s.port q with notices := (s.port q).notices.addSettings 1 }) ∧
      (s.store.queue.length < 64 → t.store.queue =
        s.store.queue ++ [s.eventRecord (.port p) (.proposalEnded s.number .portRestart)])) ∧
    ((∀ items left, s.proposal ≠ .draft p items left) →
      t.proposal = s.proposal ∧ t.store.queue = s.store.queue ∧ ∀ q, q ≠ p → t.port q = s.port q) ∧
    { t with ports := s.ports, store := s.store, proposal := s.proposal, free := s.free } = s

/-- The end of a transfer. One that carried a COLLECT reply delivers it: the cursor goes to the larger of itself and the
last delivered plus one, within oldest..next, the skip count to 0, and the mark is judged; and any request, or a damaged
frame, is then taken on the state that the delivery leaves. One whose SEL fell before a power-on reset is ignored whole.
-/
def Obligations.TransferEnds : Prop :=
  (∀ (s : State) (p : PortId) (b : Batch) (k : Nat), (s.port p).transfer ≠ .ignored →
    (s.port p).due.body = .batch b k → ∃ t, exec (.nop p) s = .next t ∧
      (let ring := nth s.store.rings b.ring
       let cursor := (nth (s.port p).cursors b.ring).cursor
       let last := max cursor (b.start + b.records.length)
       let place :=
        if b.records = [] then cursor
        else if last < ring.oldest then ring.oldest else if ring.next < last then ring.next else last
       t = (s.updPort p fun q => q.movedTo b.ring place 0 (s.settings.ringSize b.ring) ring.next).answered p
        (bare .done 0)) ∧
      (∀ i, isRequestOf i p → exec i s = exec i t) ∧
      ∀ bits, (∀ solo i, judgeTransfer p solo bits ≠ .request i) →
        exec (.frameError p bits) s = exec (.frameError p bits) t) ∧
  ∀ (s : State) (p : PortId), (s.port p).transfer = .ignored →
    (∀ i, isRequestOf i p → exec i s = .next (s.updPort p fun q => { q with transfer := .idle })) ∧
    ∀ bits, (∀ solo i, judgeTransfer p solo bits ≠ .request i) →
      exec (.frameError p bits) s = .next (s.updPort p fun q => { q with transfer := .idle })

/-- What one port sends reaches the other two through notices alone: their transfers, due replies, masks, options,
cursors, slots, timers and marks stand, and no notice of theirs is cleared, neither a flag nor a detail. -/
def Obligations.PortsIsolated : Prop :=
  ∀ (s t : State) (p q : PortId) (i : Instr), q ≠ p →
    (isRequestOf i p ∨ i = .transferStart p ∨ ∃ bits, i = .frameError p bits) → exec i s = .next t →
    { t.port q with notices := (s.port q).notices } = s.port q ∧
      (let was := (s.port q).notices
       let now := (t.port q).notices
       now.flags &&& was.flags = was.flags ∧ now.alarm &&& was.alarm = was.alarm ∧
        now.half &&& was.half = was.half ∧ now.overwrite &&& was.overwrite = was.overwrite ∧
        now.settings &&& was.settings = was.settings ∧ now.link &&& was.link = was.link ∧
        now.test &&& was.test = was.test ∧ now.reply &&& was.reply = was.reply ∧ now.time &&& was.time = was.time)

/-! ## Chapter 11: proposals -/

/-- DRAFT ITEM: BUSY when the buffer is another port's draft, posted or committing; BAD_ARGUMENT when the item fails its
check or would be a seventeenth; and otherwise it opens a draft, replaces the item of its kind and index in place, or is
added at the end, with the idle count at 60. -/
def Obligations.DraftItemTaken : Prop :=
  ∀ (s : State) (p : PortId) (kind index : Byte) (fields : List Byte), s.plain p →
    lengthTaken 23 (kind :: index :: fields) = true →
    ((∃ o i w, s.proposal = .posted o i w) ∨ (∃ o c i, s.proposal = .committing o c i) ∨
        (∃ o i w, s.proposal = .draft o i w ∧ o ≠ p) →
      exec (.draftItem p kind index fields) s = .next (s.answered p (bare .busy 23))) ∧
    (s.proposal = .empty ∨ (∃ i w, s.proposal = .draft p i w) → readItem kind index fields = none →
      exec (.draftItem p kind index fields) s = .next (s.answered p (bare .badArgument 23))) ∧
    (∀ i, s.proposal = .empty → readItem kind index fields = some i →
      exec (.draftItem p kind index fields) s = .next ({ s with proposal := .draft p [i] 60 }.answered p
        { status := .done, code := 23, body := .drafted 1 0 })) ∧
    ∀ items w i, s.proposal = .draft p items w → readItem kind index fields = some i →
      (∀ before j after, items = before ++ j :: after → j.name = i.name → (∀ x ∈ before, x.name ≠ i.name) →
        exec (.draftItem p kind index fields) s = .next
          ({ s with proposal := .draft p (before ++ i :: after) 60 }.answered p
            { status := .done, code := 23, body := .drafted items.length before.length })) ∧
      ((∀ x ∈ items, x.name ≠ i.name) → items.length < 16 →
        exec (.draftItem p kind index fields) s = .next
          ({ s with proposal := .draft p (items ++ [i]) 60 }.answered p
            { status := .done, code := 23, body := .drafted (items.length + 1) items.length })) ∧
      ((∀ x ∈ items, x.name ≠ i.name) → 16 ≤ items.length →
        exec (.draftItem p kind index fields) s = .next (s.answered p (bare .badArgument 23)))

/-- POST: REFUSED but from the owner of a draft; INVALID with the first check that fails, in the rule's order; and
otherwise the next number is given and the proposal is POSTED with its window at 120, or COMMITTING under SOLO. The
strap is read as it stands when the POST is taken, which is the command's operand (log 9), and of several LEVELS items
that fail the first in the proposal's order is named (log 28; both the model's choices). -/
def Obligations.ProposalPosted : Prop :=
  ∀ (s : State) (p : PortId) (solo : Bool), s.plain p →
    ((∀ items w, s.proposal ≠ .draft p items w) →
      exec (.post ⟨p, solo⟩) s = .next ({ s with solo }.answered p (bare .refused 13))) ∧
    ∀ items w, s.proposal = .draft p items w →
      (let merged := s.settings.applyAll items
       let invalid := fun check c =>
        exec (.post ⟨p, solo⟩) s =
          .next ({ s with solo }.answered p { status := .invalid, code := 13, body := .invalid check c })
       let ordered : LevelsItem → Prop := fun v =>
        v.excT ≤ v.warnT ∧ v.warnT ≤ v.alarmT ∧
          v.excT - min v.excH v.excT ≤ v.warnT - min v.warnH v.warnT ∧
          v.warnT - min v.warnH v.warnT ≤ v.alarmT - min v.alarmH v.alarmT
       let levels := ∀ c v, .levels c v ∈ items → ordered v
       let partition := ∀ z, .partition z ∈ items → ((List.finRange 8).map fun c => nth z c).sum ≤ 3840
       let recording := merged.recording.storm ≤ merged.recording.normal
       let test := s.test.plan = none ∨ ∀ v, .test v ∉ items
       let number := if s.number = 0xFFFF#16 then 1#16 else s.number + 1
       (∀ before c v after, items = before ++ .levels c v :: after → ¬ ordered v →
          (∀ c' v', .levels c' v' ∈ before → ordered v') → invalid 0 c.val) ∧
        (levels → ¬ partition → invalid 1 0) ∧ (levels → partition → ¬ recording → invalid 2 0) ∧
        (levels → partition → recording → ¬ test → invalid 3 0) ∧
        (levels → partition → recording → test → solo = true →
          exec (.post ⟨p, solo⟩) s = .next ({ s with solo, number, proposal := .committing p none items }.answered p
            { status := .done, code := 13, body := .posted number true })) ∧
        (levels → partition → recording → test → solo = false →
          ∃ t, exec (.post ⟨p, solo⟩) s = .next t ∧
            t.port p = { s.port p with
              transfer := .idle, due := { status := .done, code := 13, body := .posted number false } } ∧
            (∀ q, q ≠ p → t.port q = { s.port q with notices := (s.port q).notices.addSettings 0 }) ∧
            { t with ports := s.ports } = { s with solo, number, proposal := .posted p items 120 }))

/-- CONFIRM and WITHDRAW: a posted proposal is confirmed by a port other than its poster that names its number, and
withdrawn by its owner, as a draft is; everything else is REFUSED. -/
def Obligations.ConfirmAndWithdraw : Prop :=
  ∀ (s : State) (p : PortId) (number : BitVec 16), s.plain p →
    (∀ owner items w, s.proposal = .posted owner items w → owner ≠ p → number = s.number →
      exec (.confirm p number) s = .next ({ s with proposal := .committing owner (some p) items }.answered p
        { status := .done, code := 20, body := .posted s.number true })) ∧
    ((∀ owner items w, s.proposal = .posted owner items w → owner = p ∨ number ≠ s.number) →
      exec (.confirm p number) s = .next (s.answered p (bare .refused 20))) ∧
    ((∃ items w, s.proposal = .draft p items w ∨ s.proposal = .posted p items w) →
      ∃ t, exec (.withdraw p) s = .next t ∧ t.proposal = .empty ∧
        t.port p = { s.port p with transfer := .idle, due := bare .done 14 } ∧
        (∀ q, q ≠ p → t.port q = { s.port q with notices := (s.port q).notices.addSettings 1 }) ∧
        (s.store.queue.length < 64 → t.store.queue =
          s.store.queue ++ [s.eventRecord (.port p) (.proposalEnded s.number .withdrawn)]) ∧
        { t with proposal := s.proposal, ports := s.ports, store := s.store, free := s.free } = s) ∧
    ((∀ items w, s.proposal ≠ .draft p items w ∧ s.proposal ≠ .posted p items w) →
      exec (.withdraw p) s = .next (s.answered p (bare .refused 14)))

/-- Which field bytes an item takes, kind by kind: exactly those that carry values within the ranges of the item's own
rule, each in its width and code; every other index, length or value is refused. The value bytes of an absent secondary
input are not read (log 15), a seed of 0 is 1 from the draft on (log 34), and a head address and a prescale are one byte
each, by value (log 35; all the model's choices). -/
def Obligations.ItemRanges : Prop :=
  ∀ (kind index : Byte) (fields : List Byte) (i : Item),
    (let flag : Bool → Byte := fun b => if b then 1 else 0
     let one : Nat → Byte := fun n => BitVec.ofNat 8 n
     let two : Nat → List Byte := fun n => bytes2 (BitVec.ofNat 16 n)
     let four : Nat → List Byte := fun n => bytes4 (BitVec.ofNat 32 n)
     let signed : Int → List Byte := fun n => bytes4 (BitVec.ofInt 32 n)
     readItem kind index fields = some i ↔
      (kind = 0 ∧ ∃ (c p : Fin 8) (enabled : Bool) (rest : List Byte) (secondary : Option (Fin 8 × Bool)),
          index = one c ∧ fields = [flag enabled, one p] ++ rest ∧
          ((secondary = none ∧ ∃ x y, rest = [0, x, y]) ∨
            ∃ (n : Fin 8) (plus : Bool), n ≠ p ∧ secondary = some (n, plus) ∧ rest = [1, one n, flag (!plus)]) ∧
          i = .map c { enabled, primary := p, secondary }) ∨
        (kind = 1 ∧ ∃ (c : Fin 8) (k j limit : Nat) (learn : Bool), index = one c ∧ 8 ≤ k ∧ k ≤ 14 ∧ 2 ≤ j ∧ j ≤ 8 ∧
          2 ≤ limit ∧ limit ≤ 60 ∧ fields = [one k, flag learn, one j, one limit] ∧
          i = .analysis c
            { baselineShift := k, startMode := if learn then .learn else .zero, decayShift := j
              staleLimit := limit }) ∨
        (kind = 2 ∧ ∃ (c : Fin 8) (v : LevelsItem), index = one c ∧ v.excT ≤ 131071 ∧ v.excH ≤ 131071 ∧
          v.warnT ≤ 131071 ∧ v.warnH ≤ 131071 ∧ v.alarmT ≤ 131071 ∧ v.alarmH ≤ 131071 ∧
          fields = four v.excT ++ four v.excH ++ four v.warnT ++ four v.warnH ++ four v.alarmT ++ four v.alarmH ∧
          i = .levels c v) ∨
        (kind = 3 ∧ ∃ (c : Fin 8) (v : ExposureItem), index = one c ∧ v.knee ≤ 131071 ∧ v.cooling ≤ 131071 ∧
          1 ≤ v.limit ∧ v.limit ≤ 1000000000 ∧ fields = four v.knee ++ four v.cooling ++ four v.limit ∧
          i = .exposure c v) ∨
        (kind = 4 ∧ ∃ (n address : Fin 8) (enabled : Bool), index = one n ∧ fields = [flag enabled, one address] ∧
          i = .link n { enabled, address := BitVec.ofFin address }) ∨
        (kind = 5 ∧ ∃ v : PolicyItem, index = 0 ∧
          fields = [flag v.warn, flag v.alarm, flag v.exposure, flag v.data] ∧ i = .policy v) ∨
        (kind = 6 ∧ ∃ (l : Fin 4) (v : OutputItem), index = one l ∧
          fields = [v.channels, one v.kinds.toNat,
            match v.mode with
            | .active => 0
            | .unack => 1
            | .any => 2, flag v.includeTest, flag v.failsafe] ∧ i = .output l v) ∨
        (kind = 7 ∧ ∃ v : StationItem, index = 0 ∧ 1 ≤ v.stormCount ∧ v.stormCount ≤ 8 ∧ v.stormHold ≤ 3600 ∧
          fields = one v.stormCount :: two v.stormHold ++ [flag v.joinExternal, flag v.drivePin] ∧ i = .station v) ∨
        (kind = 8 ∧ ∃ v : RecordingItem, index = 0 ∧ 10 ≤ v.normal ∧ v.normal ≤ 3600 ∧ 1 ≤ v.storm ∧ v.storm ≤ 600 ∧
          fields = two v.normal ++ two v.storm ∧ i = .recording v) ∨
        (kind = 9 ∧ ∃ sizes : Tab 8 Nat, index = 0 ∧ (∀ c, nth sizes c = 0 ∨ 16 ≤ nth sizes c ∧ nth sizes c ≤ 3840) ∧
          fields = ((List.finRange 8).flatMap fun c => two (nth sizes c)) ∧ i = .partition sizes) ∨
        (kind = 10 ∧ ∃ d : Nat, index = 0 ∧ d ≤ 4095 ∧ fields = two d ∧ i = .timebase d) ∨
        (kind = 11 ∧ ∃ (o : Fin 2) (v : RetransmitItem), index = one o ∧ 1 ≤ v.fullScale ∧ v.fullScale ≤ 131071 ∧
          v.prescale ∈ [1, 2, 4, 8, 16] ∧
          fields =
            ([match v.mode with
              | .off => 0
              | .offset => 1
              | .split => 2,
             match v.source with
              | .channel c => one c
              | .stationPeak => 8] : List Byte) ++ four v.fullScale ++ [one v.prescale, flag v.signal] ∧
          i = .retransmit o v) ∨
        (kind = 12 ∧ ∃ (v : TestItem) (seed : Nat), index = 0 ∧ v.inputs ≠ 0 ∧ -131071 ≤ v.amplitude ∧
          v.amplitude ≤ 131071 ∧ -131071 ≤ v.slope ∧ v.slope ≤ 131071 ∧ 1 ≤ v.halfPeriod ∧ v.halfPeriod ≤ 4095 ∧
          seed ≤ 32767 ∧ v.seed = BitVec.ofNat 15 (if seed = 0 then 1 else seed) ∧ 1 ≤ v.duration ∧
          v.duration ≤ 3600 ∧
          fields =
            ([v.inputs,
             match v.form with
              | .level => 0
              | .ramp => 1
              | .square => 2
              | .prbs => 3] : List Byte) ++ signed v.amplitude ++ signed v.slope ++ two v.halfPeriod ++ two seed ++
              two v.duration ∧
          i = .test v) ∨
        (kind = 13 ∧ index = 0 ∧ fields = [] ∧ i = .clear))

/-- An item that a DRAFT ITEM carries is named by its kind and index bytes, and its field bytes, as GET SETTING and GET
PROPOSAL report them, read back as the same item. -/
def Obligations.ItemsReadBack : Prop :=
  ∀ (kind index : Byte) (fields : List Byte) (i : Item), readItem kind index fields = some i →
    i.name = (kind.toNat, index.toNat) ∧ readItem kind index i.bytes = some i

/-! ## The whole part -/

/-- Decode and encode agree: the frame that carries a well-formed request, whatever bits follow it in the transfer, is
judged to carry that request, with every operand at every value and the SOLO strap as it stands. -/
def Obligations.FramesRoundTrip : Prop :=
  ∀ (i : Instr) (p : PortId) (solo : Bool) (frame : List Byte) (more : List Bool), i.wellFormed = true →
    encodeFrame i = some (p, frame) → judgeTransfer p solo (bitsOf frame ++ more) = .request (i.atStrap solo)

/-- Every step keeps the write queue at no more than 64 records and the loss count within its range. -/
def Obligations.QueueStaysBounded : Prop :=
  ∀ s t : State, s.queueBounded → step s = .next t → t.queueBounded

/-- Every step keeps every ring sound and every cursor within oldest..next of its ring. -/
def Obligations.RingsAndCursorsStaySound : Prop :=
  ∀ s t : State, s.ringsSound → s.cursorsWithin → step s = .next t → t.ringsSound ∧ t.cursorsWithin

/-- Every step keeps every exposure, and every exposure held in a snapshot, within 0..2·X_lim of the limit in force. -/
def Obligations.ExposureStaysBounded : Prop :=
  ∀ s t : State, s.exposureBounded → step s = .next t → t.exposureBounded

/-- Every step keeps the envelope, the baseline and the deviation of every channel within their ranges. -/
def Obligations.CurrentsStayBounded : Prop :=
  ∀ s t : State, s.currentsBounded → step s = .next t → t.currentsBounded

/-- Every step keeps each alarm entry matched with its channel condition, and every entry of a DISABLED channel
NORMAL. -/
def Obligations.AlarmsStayMatched : Prop :=
  ∀ s t : State, s.alarmsMatched → step s = .next t → t.alarmsMatched

/-- Every step keeps every link's counts within their ranges, and keeps a link that is not LOCKED without a head word, a
counter reference and a command. That a link which is OFF or LOST has no frame in flight and
its lines low at once is log 22, an inference. -/
def Obligations.LinksStaySound : Prop :=
  ∀ s t : State, s.linksSound → step s = .next t → t.linksSound

/-- Every step keeps the proposal buffer sound: 1 to 16 items, no two of one kind and index, a window that has not run
out, and no proposal confirmed by its own poster. -/
def Obligations.ProposalStaysSound : Prop :=
  ∀ s t : State, s.proposal.sound → step s = .next t → t.proposal.sound

/-- The state after power-on reset has every one of these bounds and matches. -/
def Obligations.ResetIsSound : Prop :=
  State.reset.queueBounded ∧ State.reset.ringsSound ∧ State.reset.cursorsWithin ∧ State.reset.exposureBounded ∧
    State.reset.currentsBounded ∧ State.reset.alarmsMatched ∧ State.reset.linksSound ∧ State.reset.proposal.sound

end
end

