-- ==== Sys2Proof/Laws/Word.lean ====
section
/-! SUPPORT. The laws of tables and masks: a place read after a write, and the bits of a mask. -/

namespace Sys2Proof

@[simp] theorem nth_tab {n : Nat} {α : Type} (f : Fin n → α) (i : Fin n) : nth (tab f) i = f i := by
  simp [nth, tab]

@[simp] theorem nth_put_self {n : Nat} {α : Type} (v : Tab n α) (i : Fin n) (x : α) : nth (put v i x) i = x := by
  simp [nth, put]

theorem nth_put_ne {n : Nat} {α : Type} (v : Tab n α) {i j : Fin n} (x : α) (h : i ≠ j) :
    nth (put v i x) j = nth v j := by
  have : i.val ≠ j.val := fun e => h (Fin.ext e)
  simp [nth, put, this]

theorem nth_put {n : Nat} {α : Type} (v : Tab n α) (i j : Fin n) (x : α) :
    nth (put v i x) j = if i = j then x else nth v j := by
  by_cases h : i = j
  · subst h; simp
  · simp [h, nth_put_ne v x h]

@[simp] theorem nth_upd_self {n : Nat} {α : Type} (v : Tab n α) (i : Fin n) (f : α → α) :
    nth (upd v i f) i = f (nth v i) := by simp [upd]

theorem nth_upd_ne {n : Nat} {α : Type} (v : Tab n α) {i j : Fin n} (f : α → α) (h : i ≠ j) :
    nth (upd v i f) j = nth v j := by simp [upd, nth_put_ne v _ h]

theorem nth_upd {n : Nat} {α : Type} (v : Tab n α) (i j : Fin n) (f : α → α) :
    nth (upd v i f) j = if i = j then f (nth v i) else nth v j := by simp [upd, nth_put]

/-- Two tables are equal when every place holds the same. -/
theorem tab_ext {n : Nat} {α : Type} {v w : Tab n α} (h : ∀ i, nth v i = nth w i) : v = w := by
  apply Vector.ext
  intro i hi
  exact h ⟨i, hi⟩

@[simp] theorem tab_nth {n : Nat} {α : Type} (v : Tab n α) : tab (fun i => nth v i) = v := tab_ext (by simp)

@[simp] theorem put_nth {n : Nat} {α : Type} (v : Tab n α) (i : Fin n) : put v i (nth v i) = v := by
  apply tab_ext
  intro j
  rw [nth_put]
  split
  · next h => rw [h]
  · rfl

/-- Bit `j` of a mask under construction: set before, or set for a place of the list. -/
theorem getLsbD_maskFold {n : Nat} (w : Nat) (f : Fin n → Bool) (l : List (Fin n)) (m : BitVec w) (j : Nat)
    (hj : j < w) :
    (l.foldl (fun m i => if f i then m ||| (1#w <<< i.val) else m) m).getLsbD j
      = (m.getLsbD j || l.any fun i => f i && (i.val == j)) := by
  induction l generalizing m with
  | nil => simp
  | cons a l ih =>
    rw [List.foldl_cons, ih, List.any_cons]
    have key : (if f a then m ||| (1#w <<< a.val) else m).getLsbD j = (m.getLsbD j || (f a && (a.val == j))) := by
      cases f a <;> simp [hj]
      congr 1
      rcases Nat.lt_trichotomy j a.val with h | h | h
      · have h1 : ¬ (a.val = j) := by omega
        simp [h, h1]
      · simp [h]
      · have h1 : ¬ (a.val = j) := by omega
        have h2 : ¬ (j < a.val) := by omega
        have h3 : ¬ (j - a.val = 0) := by omega
        simp [h1, h2, h3]
    rw [key, Bool.or_assoc]

/-- A mask has the bit of a place exactly when the place is in the set. -/
theorem getLsbD_maskOf {n : Nat} (w : Nat) (f : Fin n → Bool) (i : Fin n) (h : i.val < w) :
    (maskOf w f).getLsbD i.val = f i := by
  rw [maskOf, getLsbD_maskFold w f _ _ _ h]
  simp only [BitVec.getLsbD_zero, Bool.false_or]
  cases hf : f i
  · rw [List.any_eq_false]
    intro k _
    rcases eq_or_ne k i with rfl | hk
    · simp [hf]
    · simp [Fin.val_ne_of_ne hk]
  · rw [List.any_eq_true]
    exact ⟨i, List.mem_finRange i, by simp [hf]⟩

end Sys2Proof
end

