-- ==== Sys2Proof/Laws/State.lean ====
section
/-! SUPPORT. One lemma for each field that an update of the state leaves alone, so that no later proof unfolds a record
update. -/

namespace Sys2Proof.Machine

/-! ### `State.updPort` -/

@[simp] theorem State.updPort_pending (s : State) (p : PortId) (f : Port → Port) : (s.updPort p f).pending = s.pending := rfl
@[simp] theorem State.updPort_solo (s : State) (p : PortId) (f : Port → Port) : (s.updPort p f).solo = s.solo := rfl
@[simp] theorem State.updPort_timebase (s : State) (p : PortId) (f : Port → Port) : (s.updPort p f).timebase = s.timebase := rfl
@[simp] theorem State.updPort_links (s : State) (p : PortId) (f : Port → Port) : (s.updPort p f).links = s.links := rfl
@[simp] theorem State.updPort_averagers (s : State) (p : PortId) (f : Port → Port) : (s.updPort p f).averagers = s.averagers := rfl
@[simp] theorem State.updPort_test (s : State) (p : PortId) (f : Port → Port) : (s.updPort p f).test = s.test := rfl
@[simp] theorem State.updPort_channels (s : State) (p : PortId) (f : Port → Port) : (s.updPort p f).channels = s.channels := rfl
@[simp] theorem State.updPort_storm (s : State) (p : PortId) (f : Port → Port) : (s.updPort p f).storm = s.storm := rfl
@[simp] theorem State.updPort_alarms (s : State) (p : PortId) (f : Port → Port) : (s.updPort p f).alarms = s.alarms := rfl
@[simp] theorem State.updPort_lines (s : State) (p : PortId) (f : Port → Port) : (s.updPort p f).lines = s.lines := rfl
@[simp] theorem State.updPort_outputs (s : State) (p : PortId) (f : Port → Port) : (s.updPort p f).outputs = s.outputs := rfl
@[simp] theorem State.updPort_intervals (s : State) (p : PortId) (f : Port → Port) : (s.updPort p f).intervals = s.intervals := rfl
@[simp] theorem State.updPort_store (s : State) (p : PortId) (f : Port → Port) : (s.updPort p f).store = s.store := rfl
@[simp] theorem State.updPort_settings (s : State) (p : PortId) (f : Port → Port) : (s.updPort p f).settings = s.settings := rfl
@[simp] theorem State.updPort_generation (s : State) (p : PortId) (f : Port → Port) : (s.updPort p f).generation = s.generation := rfl
@[simp] theorem State.updPort_number (s : State) (p : PortId) (f : Port → Port) : (s.updPort p f).number = s.number := rfl
@[simp] theorem State.updPort_proposal (s : State) (p : PortId) (f : Port → Port) : (s.updPort p f).proposal = s.proposal := rfl
@[simp] theorem State.updPort_free (s : State) (p : PortId) (f : Port → Port) : (s.updPort p f).free = s.free := rfl

/-! ### `State.notifyAll` -/

@[simp] theorem State.notifyAll_pending (s : State) (f : Notices → Notices) : (s.notifyAll f).pending = s.pending := rfl
@[simp] theorem State.notifyAll_solo (s : State) (f : Notices → Notices) : (s.notifyAll f).solo = s.solo := rfl
@[simp] theorem State.notifyAll_timebase (s : State) (f : Notices → Notices) : (s.notifyAll f).timebase = s.timebase := rfl
@[simp] theorem State.notifyAll_links (s : State) (f : Notices → Notices) : (s.notifyAll f).links = s.links := rfl
@[simp] theorem State.notifyAll_averagers (s : State) (f : Notices → Notices) : (s.notifyAll f).averagers = s.averagers := rfl
@[simp] theorem State.notifyAll_test (s : State) (f : Notices → Notices) : (s.notifyAll f).test = s.test := rfl
@[simp] theorem State.notifyAll_channels (s : State) (f : Notices → Notices) : (s.notifyAll f).channels = s.channels := rfl
@[simp] theorem State.notifyAll_storm (s : State) (f : Notices → Notices) : (s.notifyAll f).storm = s.storm := rfl
@[simp] theorem State.notifyAll_alarms (s : State) (f : Notices → Notices) : (s.notifyAll f).alarms = s.alarms := rfl
@[simp] theorem State.notifyAll_lines (s : State) (f : Notices → Notices) : (s.notifyAll f).lines = s.lines := rfl
@[simp] theorem State.notifyAll_outputs (s : State) (f : Notices → Notices) : (s.notifyAll f).outputs = s.outputs := rfl
@[simp] theorem State.notifyAll_intervals (s : State) (f : Notices → Notices) : (s.notifyAll f).intervals = s.intervals := rfl
@[simp] theorem State.notifyAll_store (s : State) (f : Notices → Notices) : (s.notifyAll f).store = s.store := rfl
@[simp] theorem State.notifyAll_settings (s : State) (f : Notices → Notices) : (s.notifyAll f).settings = s.settings := rfl
@[simp] theorem State.notifyAll_generation (s : State) (f : Notices → Notices) : (s.notifyAll f).generation = s.generation := rfl
@[simp] theorem State.notifyAll_number (s : State) (f : Notices → Notices) : (s.notifyAll f).number = s.number := rfl
@[simp] theorem State.notifyAll_proposal (s : State) (f : Notices → Notices) : (s.notifyAll f).proposal = s.proposal := rfl
@[simp] theorem State.notifyAll_free (s : State) (f : Notices → Notices) : (s.notifyAll f).free = s.free := rfl

/-! ### `State.notifyOthers` -/

@[simp] theorem State.notifyOthers_pending (s : State) (p : PortId) (f : Notices → Notices) : (s.notifyOthers p f).pending = s.pending := rfl
@[simp] theorem State.notifyOthers_solo (s : State) (p : PortId) (f : Notices → Notices) : (s.notifyOthers p f).solo = s.solo := rfl
@[simp] theorem State.notifyOthers_timebase (s : State) (p : PortId) (f : Notices → Notices) : (s.notifyOthers p f).timebase = s.timebase := rfl
@[simp] theorem State.notifyOthers_links (s : State) (p : PortId) (f : Notices → Notices) : (s.notifyOthers p f).links = s.links := rfl
@[simp] theorem State.notifyOthers_averagers (s : State) (p : PortId) (f : Notices → Notices) : (s.notifyOthers p f).averagers = s.averagers := rfl
@[simp] theorem State.notifyOthers_test (s : State) (p : PortId) (f : Notices → Notices) : (s.notifyOthers p f).test = s.test := rfl
@[simp] theorem State.notifyOthers_channels (s : State) (p : PortId) (f : Notices → Notices) : (s.notifyOthers p f).channels = s.channels := rfl
@[simp] theorem State.notifyOthers_storm (s : State) (p : PortId) (f : Notices → Notices) : (s.notifyOthers p f).storm = s.storm := rfl
@[simp] theorem State.notifyOthers_alarms (s : State) (p : PortId) (f : Notices → Notices) : (s.notifyOthers p f).alarms = s.alarms := rfl
@[simp] theorem State.notifyOthers_lines (s : State) (p : PortId) (f : Notices → Notices) : (s.notifyOthers p f).lines = s.lines := rfl
@[simp] theorem State.notifyOthers_outputs (s : State) (p : PortId) (f : Notices → Notices) : (s.notifyOthers p f).outputs = s.outputs := rfl
@[simp] theorem State.notifyOthers_intervals (s : State) (p : PortId) (f : Notices → Notices) : (s.notifyOthers p f).intervals = s.intervals := rfl
@[simp] theorem State.notifyOthers_store (s : State) (p : PortId) (f : Notices → Notices) : (s.notifyOthers p f).store = s.store := rfl
@[simp] theorem State.notifyOthers_settings (s : State) (p : PortId) (f : Notices → Notices) : (s.notifyOthers p f).settings = s.settings := rfl
@[simp] theorem State.notifyOthers_generation (s : State) (p : PortId) (f : Notices → Notices) : (s.notifyOthers p f).generation = s.generation := rfl
@[simp] theorem State.notifyOthers_number (s : State) (p : PortId) (f : Notices → Notices) : (s.notifyOthers p f).number = s.number := rfl
@[simp] theorem State.notifyOthers_proposal (s : State) (p : PortId) (f : Notices → Notices) : (s.notifyOthers p f).proposal = s.proposal := rfl
@[simp] theorem State.notifyOthers_free (s : State) (p : PortId) (f : Notices → Notices) : (s.notifyOthers p f).free = s.free := rfl

/-! ### `State.notify` -/

@[simp] theorem State.notify_pending (s : State) (p : PortId) (f : Notices → Notices) : (s.notify p f).pending = s.pending := rfl
@[simp] theorem State.notify_solo (s : State) (p : PortId) (f : Notices → Notices) : (s.notify p f).solo = s.solo := rfl
@[simp] theorem State.notify_timebase (s : State) (p : PortId) (f : Notices → Notices) : (s.notify p f).timebase = s.timebase := rfl
@[simp] theorem State.notify_links (s : State) (p : PortId) (f : Notices → Notices) : (s.notify p f).links = s.links := rfl
@[simp] theorem State.notify_averagers (s : State) (p : PortId) (f : Notices → Notices) : (s.notify p f).averagers = s.averagers := rfl
@[simp] theorem State.notify_test (s : State) (p : PortId) (f : Notices → Notices) : (s.notify p f).test = s.test := rfl
@[simp] theorem State.notify_channels (s : State) (p : PortId) (f : Notices → Notices) : (s.notify p f).channels = s.channels := rfl
@[simp] theorem State.notify_storm (s : State) (p : PortId) (f : Notices → Notices) : (s.notify p f).storm = s.storm := rfl
@[simp] theorem State.notify_alarms (s : State) (p : PortId) (f : Notices → Notices) : (s.notify p f).alarms = s.alarms := rfl
@[simp] theorem State.notify_lines (s : State) (p : PortId) (f : Notices → Notices) : (s.notify p f).lines = s.lines := rfl
@[simp] theorem State.notify_outputs (s : State) (p : PortId) (f : Notices → Notices) : (s.notify p f).outputs = s.outputs := rfl
@[simp] theorem State.notify_intervals (s : State) (p : PortId) (f : Notices → Notices) : (s.notify p f).intervals = s.intervals := rfl
@[simp] theorem State.notify_store (s : State) (p : PortId) (f : Notices → Notices) : (s.notify p f).store = s.store := rfl
@[simp] theorem State.notify_settings (s : State) (p : PortId) (f : Notices → Notices) : (s.notify p f).settings = s.settings := rfl
@[simp] theorem State.notify_generation (s : State) (p : PortId) (f : Notices → Notices) : (s.notify p f).generation = s.generation := rfl
@[simp] theorem State.notify_number (s : State) (p : PortId) (f : Notices → Notices) : (s.notify p f).number = s.number := rfl
@[simp] theorem State.notify_proposal (s : State) (p : PortId) (f : Notices → Notices) : (s.notify p f).proposal = s.proposal := rfl
@[simp] theorem State.notify_free (s : State) (p : PortId) (f : Notices → Notices) : (s.notify p f).free = s.free := rfl

/-! ### `State.moveCursor` -/

@[simp] theorem State.moveCursor_pending (s : State) (p : PortId) (r : Fin 9) (f : Cursor → Cursor) : (s.moveCursor p r f).pending = s.pending := rfl
@[simp] theorem State.moveCursor_solo (s : State) (p : PortId) (r : Fin 9) (f : Cursor → Cursor) : (s.moveCursor p r f).solo = s.solo := rfl
@[simp] theorem State.moveCursor_timebase (s : State) (p : PortId) (r : Fin 9) (f : Cursor → Cursor) : (s.moveCursor p r f).timebase = s.timebase := rfl
@[simp] theorem State.moveCursor_links (s : State) (p : PortId) (r : Fin 9) (f : Cursor → Cursor) : (s.moveCursor p r f).links = s.links := rfl
@[simp] theorem State.moveCursor_averagers (s : State) (p : PortId) (r : Fin 9) (f : Cursor → Cursor) : (s.moveCursor p r f).averagers = s.averagers := rfl
@[simp] theorem State.moveCursor_test (s : State) (p : PortId) (r : Fin 9) (f : Cursor → Cursor) : (s.moveCursor p r f).test = s.test := rfl
@[simp] theorem State.moveCursor_channels (s : State) (p : PortId) (r : Fin 9) (f : Cursor → Cursor) : (s.moveCursor p r f).channels = s.channels := rfl
@[simp] theorem State.moveCursor_storm (s : State) (p : PortId) (r : Fin 9) (f : Cursor → Cursor) : (s.moveCursor p r f).storm = s.storm := rfl
@[simp] theorem State.moveCursor_alarms (s : State) (p : PortId) (r : Fin 9) (f : Cursor → Cursor) : (s.moveCursor p r f).alarms = s.alarms := rfl
@[simp] theorem State.moveCursor_lines (s : State) (p : PortId) (r : Fin 9) (f : Cursor → Cursor) : (s.moveCursor p r f).lines = s.lines := rfl
@[simp] theorem State.moveCursor_outputs (s : State) (p : PortId) (r : Fin 9) (f : Cursor → Cursor) : (s.moveCursor p r f).outputs = s.outputs := rfl
@[simp] theorem State.moveCursor_intervals (s : State) (p : PortId) (r : Fin 9) (f : Cursor → Cursor) : (s.moveCursor p r f).intervals = s.intervals := rfl
@[simp] theorem State.moveCursor_store (s : State) (p : PortId) (r : Fin 9) (f : Cursor → Cursor) : (s.moveCursor p r f).store = s.store := rfl
@[simp] theorem State.moveCursor_settings (s : State) (p : PortId) (r : Fin 9) (f : Cursor → Cursor) : (s.moveCursor p r f).settings = s.settings := rfl
@[simp] theorem State.moveCursor_generation (s : State) (p : PortId) (r : Fin 9) (f : Cursor → Cursor) : (s.moveCursor p r f).generation = s.generation := rfl
@[simp] theorem State.moveCursor_number (s : State) (p : PortId) (r : Fin 9) (f : Cursor → Cursor) : (s.moveCursor p r f).number = s.number := rfl
@[simp] theorem State.moveCursor_proposal (s : State) (p : PortId) (r : Fin 9) (f : Cursor → Cursor) : (s.moveCursor p r f).proposal = s.proposal := rfl
@[simp] theorem State.moveCursor_free (s : State) (p : PortId) (r : Fin 9) (f : Cursor → Cursor) : (s.moveCursor p r f).free = s.free := rfl

/-! ### `State.finishFetch` -/

@[simp] theorem State.finishFetch_pending (s : State) (p : PortId) (f : Fetch) : (s.finishFetch p f).pending = s.pending := rfl
@[simp] theorem State.finishFetch_solo (s : State) (p : PortId) (f : Fetch) : (s.finishFetch p f).solo = s.solo := rfl
@[simp] theorem State.finishFetch_timebase (s : State) (p : PortId) (f : Fetch) : (s.finishFetch p f).timebase = s.timebase := rfl
@[simp] theorem State.finishFetch_links (s : State) (p : PortId) (f : Fetch) : (s.finishFetch p f).links = s.links := rfl
@[simp] theorem State.finishFetch_averagers (s : State) (p : PortId) (f : Fetch) : (s.finishFetch p f).averagers = s.averagers := rfl
@[simp] theorem State.finishFetch_test (s : State) (p : PortId) (f : Fetch) : (s.finishFetch p f).test = s.test := rfl
@[simp] theorem State.finishFetch_channels (s : State) (p : PortId) (f : Fetch) : (s.finishFetch p f).channels = s.channels := rfl
@[simp] theorem State.finishFetch_storm (s : State) (p : PortId) (f : Fetch) : (s.finishFetch p f).storm = s.storm := rfl
@[simp] theorem State.finishFetch_alarms (s : State) (p : PortId) (f : Fetch) : (s.finishFetch p f).alarms = s.alarms := rfl
@[simp] theorem State.finishFetch_lines (s : State) (p : PortId) (f : Fetch) : (s.finishFetch p f).lines = s.lines := rfl
@[simp] theorem State.finishFetch_outputs (s : State) (p : PortId) (f : Fetch) : (s.finishFetch p f).outputs = s.outputs := rfl
@[simp] theorem State.finishFetch_intervals (s : State) (p : PortId) (f : Fetch) : (s.finishFetch p f).intervals = s.intervals := rfl
@[simp] theorem State.finishFetch_store (s : State) (p : PortId) (f : Fetch) : (s.finishFetch p f).store = s.store := rfl
@[simp] theorem State.finishFetch_settings (s : State) (p : PortId) (f : Fetch) : (s.finishFetch p f).settings = s.settings := rfl
@[simp] theorem State.finishFetch_generation (s : State) (p : PortId) (f : Fetch) : (s.finishFetch p f).generation = s.generation := rfl
@[simp] theorem State.finishFetch_number (s : State) (p : PortId) (f : Fetch) : (s.finishFetch p f).number = s.number := rfl
@[simp] theorem State.finishFetch_proposal (s : State) (p : PortId) (f : Fetch) : (s.finishFetch p f).proposal = s.proposal := rfl
@[simp] theorem State.finishFetch_free (s : State) (p : PortId) (f : Fetch) : (s.finishFetch p f).free = s.free := rfl

/-! ### `State.dropFetch` -/

@[simp] theorem State.dropFetch_pending (s : State) (p : PortId) : (s.dropFetch p).pending = s.pending := rfl
@[simp] theorem State.dropFetch_solo (s : State) (p : PortId) : (s.dropFetch p).solo = s.solo := rfl
@[simp] theorem State.dropFetch_timebase (s : State) (p : PortId) : (s.dropFetch p).timebase = s.timebase := rfl
@[simp] theorem State.dropFetch_links (s : State) (p : PortId) : (s.dropFetch p).links = s.links := rfl
@[simp] theorem State.dropFetch_averagers (s : State) (p : PortId) : (s.dropFetch p).averagers = s.averagers := rfl
@[simp] theorem State.dropFetch_test (s : State) (p : PortId) : (s.dropFetch p).test = s.test := rfl
@[simp] theorem State.dropFetch_channels (s : State) (p : PortId) : (s.dropFetch p).channels = s.channels := rfl
@[simp] theorem State.dropFetch_storm (s : State) (p : PortId) : (s.dropFetch p).storm = s.storm := rfl
@[simp] theorem State.dropFetch_alarms (s : State) (p : PortId) : (s.dropFetch p).alarms = s.alarms := rfl
@[simp] theorem State.dropFetch_lines (s : State) (p : PortId) : (s.dropFetch p).lines = s.lines := rfl
@[simp] theorem State.dropFetch_outputs (s : State) (p : PortId) : (s.dropFetch p).outputs = s.outputs := rfl
@[simp] theorem State.dropFetch_intervals (s : State) (p : PortId) : (s.dropFetch p).intervals = s.intervals := rfl
@[simp] theorem State.dropFetch_settings (s : State) (p : PortId) : (s.dropFetch p).settings = s.settings := rfl
@[simp] theorem State.dropFetch_generation (s : State) (p : PortId) : (s.dropFetch p).generation = s.generation := rfl
@[simp] theorem State.dropFetch_number (s : State) (p : PortId) : (s.dropFetch p).number = s.number := rfl
@[simp] theorem State.dropFetch_proposal (s : State) (p : PortId) : (s.dropFetch p).proposal = s.proposal := rfl
@[simp] theorem State.dropFetch_free (s : State) (p : PortId) : (s.dropFetch p).free = s.free := rfl

/-! ### `State.refreshLines` -/

@[simp] theorem State.refreshLines_pending (s : State) : (s.refreshLines).pending = s.pending := rfl
@[simp] theorem State.refreshLines_solo (s : State) : (s.refreshLines).solo = s.solo := rfl
@[simp] theorem State.refreshLines_timebase (s : State) : (s.refreshLines).timebase = s.timebase := rfl
@[simp] theorem State.refreshLines_links (s : State) : (s.refreshLines).links = s.links := rfl
@[simp] theorem State.refreshLines_averagers (s : State) : (s.refreshLines).averagers = s.averagers := rfl
@[simp] theorem State.refreshLines_test (s : State) : (s.refreshLines).test = s.test := rfl
@[simp] theorem State.refreshLines_channels (s : State) : (s.refreshLines).channels = s.channels := rfl
@[simp] theorem State.refreshLines_storm (s : State) : (s.refreshLines).storm = s.storm := rfl
@[simp] theorem State.refreshLines_alarms (s : State) : (s.refreshLines).alarms = s.alarms := rfl
@[simp] theorem State.refreshLines_outputs (s : State) : (s.refreshLines).outputs = s.outputs := rfl
@[simp] theorem State.refreshLines_intervals (s : State) : (s.refreshLines).intervals = s.intervals := rfl
@[simp] theorem State.refreshLines_store (s : State) : (s.refreshLines).store = s.store := rfl
@[simp] theorem State.refreshLines_ports (s : State) : (s.refreshLines).ports = s.ports := rfl
@[simp] theorem State.refreshLines_settings (s : State) : (s.refreshLines).settings = s.settings := rfl
@[simp] theorem State.refreshLines_generation (s : State) : (s.refreshLines).generation = s.generation := rfl
@[simp] theorem State.refreshLines_number (s : State) : (s.refreshLines).number = s.number := rfl
@[simp] theorem State.refreshLines_proposal (s : State) : (s.refreshLines).proposal = s.proposal := rfl
@[simp] theorem State.refreshLines_free (s : State) : (s.refreshLines).free = s.free := rfl

/-! ### `State.raisePeak` -/

@[simp] theorem State.raisePeak_pending (s : State) (c : Fin 8) (k : AlarmKind) (v : Nat) : (s.raisePeak c k v).pending = s.pending := rfl
@[simp] theorem State.raisePeak_solo (s : State) (c : Fin 8) (k : AlarmKind) (v : Nat) : (s.raisePeak c k v).solo = s.solo := rfl
@[simp] theorem State.raisePeak_timebase (s : State) (c : Fin 8) (k : AlarmKind) (v : Nat) : (s.raisePeak c k v).timebase = s.timebase := rfl
@[simp] theorem State.raisePeak_links (s : State) (c : Fin 8) (k : AlarmKind) (v : Nat) : (s.raisePeak c k v).links = s.links := rfl
@[simp] theorem State.raisePeak_averagers (s : State) (c : Fin 8) (k : AlarmKind) (v : Nat) : (s.raisePeak c k v).averagers = s.averagers := rfl
@[simp] theorem State.raisePeak_test (s : State) (c : Fin 8) (k : AlarmKind) (v : Nat) : (s.raisePeak c k v).test = s.test := rfl
@[simp] theorem State.raisePeak_channels (s : State) (c : Fin 8) (k : AlarmKind) (v : Nat) : (s.raisePeak c k v).channels = s.channels := rfl
@[simp] theorem State.raisePeak_storm (s : State) (c : Fin 8) (k : AlarmKind) (v : Nat) : (s.raisePeak c k v).storm = s.storm := rfl
@[simp] theorem State.raisePeak_lines (s : State) (c : Fin 8) (k : AlarmKind) (v : Nat) : (s.raisePeak c k v).lines = s.lines := rfl
@[simp] theorem State.raisePeak_outputs (s : State) (c : Fin 8) (k : AlarmKind) (v : Nat) : (s.raisePeak c k v).outputs = s.outputs := rfl
@[simp] theorem State.raisePeak_intervals (s : State) (c : Fin 8) (k : AlarmKind) (v : Nat) : (s.raisePeak c k v).intervals = s.intervals := rfl
@[simp] theorem State.raisePeak_store (s : State) (c : Fin 8) (k : AlarmKind) (v : Nat) : (s.raisePeak c k v).store = s.store := rfl
@[simp] theorem State.raisePeak_ports (s : State) (c : Fin 8) (k : AlarmKind) (v : Nat) : (s.raisePeak c k v).ports = s.ports := rfl
@[simp] theorem State.raisePeak_settings (s : State) (c : Fin 8) (k : AlarmKind) (v : Nat) : (s.raisePeak c k v).settings = s.settings := rfl
@[simp] theorem State.raisePeak_generation (s : State) (c : Fin 8) (k : AlarmKind) (v : Nat) : (s.raisePeak c k v).generation = s.generation := rfl
@[simp] theorem State.raisePeak_number (s : State) (c : Fin 8) (k : AlarmKind) (v : Nat) : (s.raisePeak c k v).number = s.number := rfl
@[simp] theorem State.raisePeak_proposal (s : State) (c : Fin 8) (k : AlarmKind) (v : Nat) : (s.raisePeak c k v).proposal = s.proposal := rfl
@[simp] theorem State.raisePeak_free (s : State) (c : Fin 8) (k : AlarmKind) (v : Nat) : (s.raisePeak c k v).free = s.free := rfl

/-! ### `State.formSeconds` -/

@[simp] theorem State.formSeconds_pending (s : State) : (s.formSeconds).pending = s.pending := rfl
@[simp] theorem State.formSeconds_solo (s : State) : (s.formSeconds).solo = s.solo := rfl
@[simp] theorem State.formSeconds_timebase (s : State) : (s.formSeconds).timebase = s.timebase := rfl
@[simp] theorem State.formSeconds_links (s : State) : (s.formSeconds).links = s.links := rfl
@[simp] theorem State.formSeconds_test (s : State) : (s.formSeconds).test = s.test := rfl
@[simp] theorem State.formSeconds_channels (s : State) : (s.formSeconds).channels = s.channels := rfl
@[simp] theorem State.formSeconds_storm (s : State) : (s.formSeconds).storm = s.storm := rfl
@[simp] theorem State.formSeconds_alarms (s : State) : (s.formSeconds).alarms = s.alarms := rfl
@[simp] theorem State.formSeconds_lines (s : State) : (s.formSeconds).lines = s.lines := rfl
@[simp] theorem State.formSeconds_outputs (s : State) : (s.formSeconds).outputs = s.outputs := rfl
@[simp] theorem State.formSeconds_intervals (s : State) : (s.formSeconds).intervals = s.intervals := rfl
@[simp] theorem State.formSeconds_store (s : State) : (s.formSeconds).store = s.store := rfl
@[simp] theorem State.formSeconds_ports (s : State) : (s.formSeconds).ports = s.ports := rfl
@[simp] theorem State.formSeconds_settings (s : State) : (s.formSeconds).settings = s.settings := rfl
@[simp] theorem State.formSeconds_generation (s : State) : (s.formSeconds).generation = s.generation := rfl
@[simp] theorem State.formSeconds_number (s : State) : (s.formSeconds).number = s.number := rfl
@[simp] theorem State.formSeconds_proposal (s : State) : (s.formSeconds).proposal = s.proposal := rfl
@[simp] theorem State.formSeconds_free (s : State) : (s.formSeconds).free = s.free := rfl

/-! ### `State.judgeChannels` -/

@[simp] theorem State.judgeChannels_pending (s : State) : (s.judgeChannels).pending = s.pending := rfl
@[simp] theorem State.judgeChannels_solo (s : State) : (s.judgeChannels).solo = s.solo := rfl
@[simp] theorem State.judgeChannels_timebase (s : State) : (s.judgeChannels).timebase = s.timebase := rfl
@[simp] theorem State.judgeChannels_averagers (s : State) : (s.judgeChannels).averagers = s.averagers := rfl
@[simp] theorem State.judgeChannels_test (s : State) : (s.judgeChannels).test = s.test := rfl
@[simp] theorem State.judgeChannels_storm (s : State) : (s.judgeChannels).storm = s.storm := rfl
@[simp] theorem State.judgeChannels_alarms (s : State) : (s.judgeChannels).alarms = s.alarms := rfl
@[simp] theorem State.judgeChannels_lines (s : State) : (s.judgeChannels).lines = s.lines := rfl
@[simp] theorem State.judgeChannels_outputs (s : State) : (s.judgeChannels).outputs = s.outputs := rfl
@[simp] theorem State.judgeChannels_intervals (s : State) : (s.judgeChannels).intervals = s.intervals := rfl
@[simp] theorem State.judgeChannels_store (s : State) : (s.judgeChannels).store = s.store := rfl
@[simp] theorem State.judgeChannels_ports (s : State) : (s.judgeChannels).ports = s.ports := rfl
@[simp] theorem State.judgeChannels_settings (s : State) : (s.judgeChannels).settings = s.settings := rfl
@[simp] theorem State.judgeChannels_generation (s : State) : (s.judgeChannels).generation = s.generation := rfl
@[simp] theorem State.judgeChannels_number (s : State) : (s.judgeChannels).number = s.number := rfl
@[simp] theorem State.judgeChannels_proposal (s : State) : (s.judgeChannels).proposal = s.proposal := rfl
@[simp] theorem State.judgeChannels_free (s : State) : (s.judgeChannels).free = s.free := rfl

/-! ### `State.moveChannels` -/

@[simp] theorem State.moveChannels_pending (s : State) : (s.moveChannels).pending = s.pending := rfl
@[simp] theorem State.moveChannels_solo (s : State) : (s.moveChannels).solo = s.solo := rfl
@[simp] theorem State.moveChannels_timebase (s : State) : (s.moveChannels).timebase = s.timebase := rfl
@[simp] theorem State.moveChannels_links (s : State) : (s.moveChannels).links = s.links := rfl
@[simp] theorem State.moveChannels_averagers (s : State) : (s.moveChannels).averagers = s.averagers := rfl
@[simp] theorem State.moveChannels_test (s : State) : (s.moveChannels).test = s.test := rfl
@[simp] theorem State.moveChannels_storm (s : State) : (s.moveChannels).storm = s.storm := rfl
@[simp] theorem State.moveChannels_alarms (s : State) : (s.moveChannels).alarms = s.alarms := rfl
@[simp] theorem State.moveChannels_lines (s : State) : (s.moveChannels).lines = s.lines := rfl
@[simp] theorem State.moveChannels_outputs (s : State) : (s.moveChannels).outputs = s.outputs := rfl
@[simp] theorem State.moveChannels_intervals (s : State) : (s.moveChannels).intervals = s.intervals := rfl
@[simp] theorem State.moveChannels_store (s : State) : (s.moveChannels).store = s.store := rfl
@[simp] theorem State.moveChannels_ports (s : State) : (s.moveChannels).ports = s.ports := rfl
@[simp] theorem State.moveChannels_settings (s : State) : (s.moveChannels).settings = s.settings := rfl
@[simp] theorem State.moveChannels_generation (s : State) : (s.moveChannels).generation = s.generation := rfl
@[simp] theorem State.moveChannels_number (s : State) : (s.moveChannels).number = s.number := rfl
@[simp] theorem State.moveChannels_proposal (s : State) : (s.moveChannels).proposal = s.proposal := rfl
@[simp] theorem State.moveChannels_free (s : State) : (s.moveChannels).free = s.free := rfl

/-! ### `State.evaluateLines` -/

@[simp] theorem State.evaluateLines_pending (s : State) : (s.evaluateLines).pending = s.pending := rfl
@[simp] theorem State.evaluateLines_solo (s : State) : (s.evaluateLines).solo = s.solo := rfl
@[simp] theorem State.evaluateLines_timebase (s : State) : (s.evaluateLines).timebase = s.timebase := rfl
@[simp] theorem State.evaluateLines_links (s : State) : (s.evaluateLines).links = s.links := rfl
@[simp] theorem State.evaluateLines_averagers (s : State) : (s.evaluateLines).averagers = s.averagers := rfl
@[simp] theorem State.evaluateLines_test (s : State) : (s.evaluateLines).test = s.test := rfl
@[simp] theorem State.evaluateLines_channels (s : State) : (s.evaluateLines).channels = s.channels := rfl
@[simp] theorem State.evaluateLines_storm (s : State) : (s.evaluateLines).storm = s.storm := rfl
@[simp] theorem State.evaluateLines_alarms (s : State) : (s.evaluateLines).alarms = s.alarms := rfl
@[simp] theorem State.evaluateLines_outputs (s : State) : (s.evaluateLines).outputs = s.outputs := rfl
@[simp] theorem State.evaluateLines_intervals (s : State) : (s.evaluateLines).intervals = s.intervals := rfl
@[simp] theorem State.evaluateLines_store (s : State) : (s.evaluateLines).store = s.store := rfl
@[simp] theorem State.evaluateLines_ports (s : State) : (s.evaluateLines).ports = s.ports := rfl
@[simp] theorem State.evaluateLines_settings (s : State) : (s.evaluateLines).settings = s.settings := rfl
@[simp] theorem State.evaluateLines_generation (s : State) : (s.evaluateLines).generation = s.generation := rfl
@[simp] theorem State.evaluateLines_number (s : State) : (s.evaluateLines).number = s.number := rfl
@[simp] theorem State.evaluateLines_proposal (s : State) : (s.evaluateLines).proposal = s.proposal := rfl
@[simp] theorem State.evaluateLines_free (s : State) : (s.evaluateLines).free = s.free := rfl

/-! ### `State.judgeOutputs` -/

@[simp] theorem State.judgeOutputs_pending (s : State) : (s.judgeOutputs).pending = s.pending := rfl
@[simp] theorem State.judgeOutputs_solo (s : State) : (s.judgeOutputs).solo = s.solo := rfl
@[simp] theorem State.judgeOutputs_timebase (s : State) : (s.judgeOutputs).timebase = s.timebase := rfl
@[simp] theorem State.judgeOutputs_links (s : State) : (s.judgeOutputs).links = s.links := rfl
@[simp] theorem State.judgeOutputs_averagers (s : State) : (s.judgeOutputs).averagers = s.averagers := rfl
@[simp] theorem State.judgeOutputs_test (s : State) : (s.judgeOutputs).test = s.test := rfl
@[simp] theorem State.judgeOutputs_channels (s : State) : (s.judgeOutputs).channels = s.channels := rfl
@[simp] theorem State.judgeOutputs_storm (s : State) : (s.judgeOutputs).storm = s.storm := rfl
@[simp] theorem State.judgeOutputs_alarms (s : State) : (s.judgeOutputs).alarms = s.alarms := rfl
@[simp] theorem State.judgeOutputs_lines (s : State) : (s.judgeOutputs).lines = s.lines := rfl
@[simp] theorem State.judgeOutputs_intervals (s : State) : (s.judgeOutputs).intervals = s.intervals := rfl
@[simp] theorem State.judgeOutputs_store (s : State) : (s.judgeOutputs).store = s.store := rfl
@[simp] theorem State.judgeOutputs_ports (s : State) : (s.judgeOutputs).ports = s.ports := rfl
@[simp] theorem State.judgeOutputs_settings (s : State) : (s.judgeOutputs).settings = s.settings := rfl
@[simp] theorem State.judgeOutputs_generation (s : State) : (s.judgeOutputs).generation = s.generation := rfl
@[simp] theorem State.judgeOutputs_number (s : State) : (s.judgeOutputs).number = s.number := rfl
@[simp] theorem State.judgeOutputs_proposal (s : State) : (s.judgeOutputs).proposal = s.proposal := rfl
@[simp] theorem State.judgeOutputs_free (s : State) : (s.judgeOutputs).free = s.free := rfl

/-! ### `State.endSecond` -/

@[simp] theorem State.endSecond_pending (s : State) : (s.endSecond).pending = s.pending := rfl
@[simp] theorem State.endSecond_solo (s : State) : (s.endSecond).solo = s.solo := rfl
@[simp] theorem State.endSecond_links (s : State) : (s.endSecond).links = s.links := rfl
@[simp] theorem State.endSecond_averagers (s : State) : (s.endSecond).averagers = s.averagers := rfl
@[simp] theorem State.endSecond_test (s : State) : (s.endSecond).test = s.test := rfl
@[simp] theorem State.endSecond_channels (s : State) : (s.endSecond).channels = s.channels := rfl
@[simp] theorem State.endSecond_storm (s : State) : (s.endSecond).storm = s.storm := rfl
@[simp] theorem State.endSecond_alarms (s : State) : (s.endSecond).alarms = s.alarms := rfl
@[simp] theorem State.endSecond_lines (s : State) : (s.endSecond).lines = s.lines := rfl
@[simp] theorem State.endSecond_outputs (s : State) : (s.endSecond).outputs = s.outputs := rfl
@[simp] theorem State.endSecond_intervals (s : State) : (s.endSecond).intervals = s.intervals := rfl
@[simp] theorem State.endSecond_store (s : State) : (s.endSecond).store = s.store := rfl
@[simp] theorem State.endSecond_ports (s : State) : (s.endSecond).ports = s.ports := rfl
@[simp] theorem State.endSecond_settings (s : State) : (s.endSecond).settings = s.settings := rfl
@[simp] theorem State.endSecond_generation (s : State) : (s.endSecond).generation = s.generation := rfl
@[simp] theorem State.endSecond_number (s : State) : (s.endSecond).number = s.number := rfl
@[simp] theorem State.endSecond_proposal (s : State) : (s.endSecond).proposal = s.proposal := rfl
@[simp] theorem State.endSecond_free (s : State) : (s.endSecond).free = s.free := rfl

/-! ### `State.clampExposure` -/

@[simp] theorem State.clampExposure_pending (s : State) (c : Fin 8) : (s.clampExposure c).pending = s.pending := rfl
@[simp] theorem State.clampExposure_solo (s : State) (c : Fin 8) : (s.clampExposure c).solo = s.solo := rfl
@[simp] theorem State.clampExposure_timebase (s : State) (c : Fin 8) : (s.clampExposure c).timebase = s.timebase := rfl
@[simp] theorem State.clampExposure_links (s : State) (c : Fin 8) : (s.clampExposure c).links = s.links := rfl
@[simp] theorem State.clampExposure_averagers (s : State) (c : Fin 8) : (s.clampExposure c).averagers = s.averagers := rfl
@[simp] theorem State.clampExposure_storm (s : State) (c : Fin 8) : (s.clampExposure c).storm = s.storm := rfl
@[simp] theorem State.clampExposure_alarms (s : State) (c : Fin 8) : (s.clampExposure c).alarms = s.alarms := rfl
@[simp] theorem State.clampExposure_lines (s : State) (c : Fin 8) : (s.clampExposure c).lines = s.lines := rfl
@[simp] theorem State.clampExposure_outputs (s : State) (c : Fin 8) : (s.clampExposure c).outputs = s.outputs := rfl
@[simp] theorem State.clampExposure_intervals (s : State) (c : Fin 8) : (s.clampExposure c).intervals = s.intervals := rfl
@[simp] theorem State.clampExposure_store (s : State) (c : Fin 8) : (s.clampExposure c).store = s.store := rfl
@[simp] theorem State.clampExposure_ports (s : State) (c : Fin 8) : (s.clampExposure c).ports = s.ports := rfl
@[simp] theorem State.clampExposure_settings (s : State) (c : Fin 8) : (s.clampExposure c).settings = s.settings := rfl
@[simp] theorem State.clampExposure_generation (s : State) (c : Fin 8) : (s.clampExposure c).generation = s.generation := rfl
@[simp] theorem State.clampExposure_number (s : State) (c : Fin 8) : (s.clampExposure c).number = s.number := rfl
@[simp] theorem State.clampExposure_proposal (s : State) (c : Fin 8) : (s.clampExposure c).proposal = s.proposal := rfl
@[simp] theorem State.clampExposure_free (s : State) (c : Fin 8) : (s.clampExposure c).free = s.free := rfl

/-! ### `State.commitLines` -/

@[simp] theorem State.commitLines_pending (s : State) (items : List Item) : (s.commitLines items).pending = s.pending := rfl
@[simp] theorem State.commitLines_solo (s : State) (items : List Item) : (s.commitLines items).solo = s.solo := rfl
@[simp] theorem State.commitLines_timebase (s : State) (items : List Item) : (s.commitLines items).timebase = s.timebase := rfl
@[simp] theorem State.commitLines_links (s : State) (items : List Item) : (s.commitLines items).links = s.links := rfl
@[simp] theorem State.commitLines_averagers (s : State) (items : List Item) : (s.commitLines items).averagers = s.averagers := rfl
@[simp] theorem State.commitLines_test (s : State) (items : List Item) : (s.commitLines items).test = s.test := rfl
@[simp] theorem State.commitLines_channels (s : State) (items : List Item) : (s.commitLines items).channels = s.channels := rfl
@[simp] theorem State.commitLines_storm (s : State) (items : List Item) : (s.commitLines items).storm = s.storm := rfl
@[simp] theorem State.commitLines_alarms (s : State) (items : List Item) : (s.commitLines items).alarms = s.alarms := rfl
@[simp] theorem State.commitLines_outputs (s : State) (items : List Item) : (s.commitLines items).outputs = s.outputs := rfl
@[simp] theorem State.commitLines_intervals (s : State) (items : List Item) : (s.commitLines items).intervals = s.intervals := rfl
@[simp] theorem State.commitLines_store (s : State) (items : List Item) : (s.commitLines items).store = s.store := rfl
@[simp] theorem State.commitLines_ports (s : State) (items : List Item) : (s.commitLines items).ports = s.ports := rfl
@[simp] theorem State.commitLines_settings (s : State) (items : List Item) : (s.commitLines items).settings = s.settings := rfl
@[simp] theorem State.commitLines_generation (s : State) (items : List Item) : (s.commitLines items).generation = s.generation := rfl
@[simp] theorem State.commitLines_number (s : State) (items : List Item) : (s.commitLines items).number = s.number := rfl
@[simp] theorem State.commitLines_proposal (s : State) (items : List Item) : (s.commitLines items).proposal = s.proposal := rfl
@[simp] theorem State.commitLines_free (s : State) (items : List Item) : (s.commitLines items).free = s.free := rfl

/-! ### `State.commitOutputs` -/

@[simp] theorem State.commitOutputs_pending (s : State) (items : List Item) : (s.commitOutputs items).pending = s.pending := rfl
@[simp] theorem State.commitOutputs_solo (s : State) (items : List Item) : (s.commitOutputs items).solo = s.solo := rfl
@[simp] theorem State.commitOutputs_timebase (s : State) (items : List Item) : (s.commitOutputs items).timebase = s.timebase := rfl
@[simp] theorem State.commitOutputs_links (s : State) (items : List Item) : (s.commitOutputs items).links = s.links := rfl
@[simp] theorem State.commitOutputs_averagers (s : State) (items : List Item) : (s.commitOutputs items).averagers = s.averagers := rfl
@[simp] theorem State.commitOutputs_test (s : State) (items : List Item) : (s.commitOutputs items).test = s.test := rfl
@[simp] theorem State.commitOutputs_channels (s : State) (items : List Item) : (s.commitOutputs items).channels = s.channels := rfl
@[simp] theorem State.commitOutputs_storm (s : State) (items : List Item) : (s.commitOutputs items).storm = s.storm := rfl
@[simp] theorem State.commitOutputs_alarms (s : State) (items : List Item) : (s.commitOutputs items).alarms = s.alarms := rfl
@[simp] theorem State.commitOutputs_lines (s : State) (items : List Item) : (s.commitOutputs items).lines = s.lines := rfl
@[simp] theorem State.commitOutputs_intervals (s : State) (items : List Item) : (s.commitOutputs items).intervals = s.intervals := rfl
@[simp] theorem State.commitOutputs_store (s : State) (items : List Item) : (s.commitOutputs items).store = s.store := rfl
@[simp] theorem State.commitOutputs_ports (s : State) (items : List Item) : (s.commitOutputs items).ports = s.ports := rfl
@[simp] theorem State.commitOutputs_settings (s : State) (items : List Item) : (s.commitOutputs items).settings = s.settings := rfl
@[simp] theorem State.commitOutputs_generation (s : State) (items : List Item) : (s.commitOutputs items).generation = s.generation := rfl
@[simp] theorem State.commitOutputs_number (s : State) (items : List Item) : (s.commitOutputs items).number = s.number := rfl
@[simp] theorem State.commitOutputs_proposal (s : State) (items : List Item) : (s.commitOutputs items).proposal = s.proposal := rfl
@[simp] theorem State.commitOutputs_free (s : State) (items : List Item) : (s.commitOutputs items).free = s.free := rfl

/-! ### `State.clock` -/

@[simp] theorem State.clock_pending (s : State) : (s.clock).pending = s.pending := rfl
@[simp] theorem State.clock_solo (s : State) : (s.clock).solo = s.solo := rfl
@[simp] theorem State.clock_links (s : State) : (s.clock).links = s.links := rfl
@[simp] theorem State.clock_averagers (s : State) : (s.clock).averagers = s.averagers := rfl
@[simp] theorem State.clock_test (s : State) : (s.clock).test = s.test := rfl
@[simp] theorem State.clock_channels (s : State) : (s.clock).channels = s.channels := rfl
@[simp] theorem State.clock_storm (s : State) : (s.clock).storm = s.storm := rfl
@[simp] theorem State.clock_alarms (s : State) : (s.clock).alarms = s.alarms := rfl
@[simp] theorem State.clock_lines (s : State) : (s.clock).lines = s.lines := rfl
@[simp] theorem State.clock_intervals (s : State) : (s.clock).intervals = s.intervals := rfl
@[simp] theorem State.clock_store (s : State) : (s.clock).store = s.store := rfl
@[simp] theorem State.clock_settings (s : State) : (s.clock).settings = s.settings := rfl
@[simp] theorem State.clock_generation (s : State) : (s.clock).generation = s.generation := rfl
@[simp] theorem State.clock_number (s : State) : (s.clock).number = s.number := rfl
@[simp] theorem State.clock_proposal (s : State) : (s.clock).proposal = s.proposal := rfl
@[simp] theorem State.clock_free (s : State) : (s.clock).free = s.free := rfl

/-! ### `State.supplyTest` -/

@[simp] theorem State.supplyTest_pending (s : State) : (s.supplyTest).pending = s.pending := by unfold State.supplyTest; split <;> rfl
@[simp] theorem State.supplyTest_solo (s : State) : (s.supplyTest).solo = s.solo := by unfold State.supplyTest; split <;> rfl
@[simp] theorem State.supplyTest_timebase (s : State) : (s.supplyTest).timebase = s.timebase := by unfold State.supplyTest; split <;> rfl
@[simp] theorem State.supplyTest_links (s : State) : (s.supplyTest).links = s.links := by unfold State.supplyTest; split <;> rfl
@[simp] theorem State.supplyTest_averagers (s : State) : (s.supplyTest).averagers = s.averagers := by unfold State.supplyTest; split <;> rfl
@[simp] theorem State.supplyTest_channels (s : State) : (s.supplyTest).channels = s.channels := by unfold State.supplyTest; split <;> rfl
@[simp] theorem State.supplyTest_storm (s : State) : (s.supplyTest).storm = s.storm := by unfold State.supplyTest; split <;> rfl
@[simp] theorem State.supplyTest_alarms (s : State) : (s.supplyTest).alarms = s.alarms := by unfold State.supplyTest; split <;> rfl
@[simp] theorem State.supplyTest_lines (s : State) : (s.supplyTest).lines = s.lines := by unfold State.supplyTest; split <;> rfl
@[simp] theorem State.supplyTest_outputs (s : State) : (s.supplyTest).outputs = s.outputs := by unfold State.supplyTest; split <;> rfl
@[simp] theorem State.supplyTest_intervals (s : State) : (s.supplyTest).intervals = s.intervals := by unfold State.supplyTest; split <;> rfl
@[simp] theorem State.supplyTest_store (s : State) : (s.supplyTest).store = s.store := by unfold State.supplyTest; split <;> rfl
@[simp] theorem State.supplyTest_ports (s : State) : (s.supplyTest).ports = s.ports := by unfold State.supplyTest; split <;> rfl
@[simp] theorem State.supplyTest_settings (s : State) : (s.supplyTest).settings = s.settings := by unfold State.supplyTest; split <;> rfl
@[simp] theorem State.supplyTest_generation (s : State) : (s.supplyTest).generation = s.generation := by unfold State.supplyTest; split <;> rfl
@[simp] theorem State.supplyTest_number (s : State) : (s.supplyTest).number = s.number := by unfold State.supplyTest; split <;> rfl
@[simp] theorem State.supplyTest_proposal (s : State) : (s.supplyTest).proposal = s.proposal := by unfold State.supplyTest; split <;> rfl
@[simp] theorem State.supplyTest_free (s : State) : (s.supplyTest).free = s.free := by unfold State.supplyTest; split <;> rfl

/-! ### `State.commitDivider` -/

@[simp] theorem State.commitDivider_pending (s : State) (old : Settings) : (s.commitDivider old).pending = s.pending := by unfold State.commitDivider; split <;> rfl
@[simp] theorem State.commitDivider_solo (s : State) (old : Settings) : (s.commitDivider old).solo = s.solo := by unfold State.commitDivider; split <;> rfl
@[simp] theorem State.commitDivider_test (s : State) (old : Settings) : (s.commitDivider old).test = s.test := by unfold State.commitDivider; split <;> rfl
@[simp] theorem State.commitDivider_channels (s : State) (old : Settings) : (s.commitDivider old).channels = s.channels := by unfold State.commitDivider; split <;> rfl
@[simp] theorem State.commitDivider_storm (s : State) (old : Settings) : (s.commitDivider old).storm = s.storm := by unfold State.commitDivider; split <;> rfl
@[simp] theorem State.commitDivider_alarms (s : State) (old : Settings) : (s.commitDivider old).alarms = s.alarms := by unfold State.commitDivider; split <;> rfl
@[simp] theorem State.commitDivider_lines (s : State) (old : Settings) : (s.commitDivider old).lines = s.lines := by unfold State.commitDivider; split <;> rfl
@[simp] theorem State.commitDivider_outputs (s : State) (old : Settings) : (s.commitDivider old).outputs = s.outputs := by unfold State.commitDivider; split <;> rfl
@[simp] theorem State.commitDivider_intervals (s : State) (old : Settings) : (s.commitDivider old).intervals = s.intervals := by unfold State.commitDivider; split <;> rfl
@[simp] theorem State.commitDivider_store (s : State) (old : Settings) : (s.commitDivider old).store = s.store := by unfold State.commitDivider; split <;> rfl
@[simp] theorem State.commitDivider_ports (s : State) (old : Settings) : (s.commitDivider old).ports = s.ports := by unfold State.commitDivider; split <;> rfl
@[simp] theorem State.commitDivider_settings (s : State) (old : Settings) : (s.commitDivider old).settings = s.settings := by unfold State.commitDivider; split <;> rfl
@[simp] theorem State.commitDivider_generation (s : State) (old : Settings) : (s.commitDivider old).generation = s.generation := by unfold State.commitDivider; split <;> rfl
@[simp] theorem State.commitDivider_number (s : State) (old : Settings) : (s.commitDivider old).number = s.number := by unfold State.commitDivider; split <;> rfl
@[simp] theorem State.commitDivider_proposal (s : State) (old : Settings) : (s.commitDivider old).proposal = s.proposal := by unfold State.commitDivider; split <;> rfl
@[simp] theorem State.commitDivider_free (s : State) (old : Settings) : (s.commitDivider old).free = s.free := by unfold State.commitDivider; split <;> rfl

/-! ### `State.commitStation` -/

@[simp] theorem State.commitStation_pending (s : State) (items : List Item) : (s.commitStation items).pending = s.pending := by unfold State.commitStation; split <;> rfl
@[simp] theorem State.commitStation_solo (s : State) (items : List Item) : (s.commitStation items).solo = s.solo := by unfold State.commitStation; split <;> rfl
@[simp] theorem State.commitStation_timebase (s : State) (items : List Item) : (s.commitStation items).timebase = s.timebase := by unfold State.commitStation; split <;> rfl
@[simp] theorem State.commitStation_links (s : State) (items : List Item) : (s.commitStation items).links = s.links := by unfold State.commitStation; split <;> rfl
@[simp] theorem State.commitStation_averagers (s : State) (items : List Item) : (s.commitStation items).averagers = s.averagers := by unfold State.commitStation; split <;> rfl
@[simp] theorem State.commitStation_test (s : State) (items : List Item) : (s.commitStation items).test = s.test := by unfold State.commitStation; split <;> rfl
@[simp] theorem State.commitStation_channels (s : State) (items : List Item) : (s.commitStation items).channels = s.channels := by unfold State.commitStation; split <;> rfl
@[simp] theorem State.commitStation_alarms (s : State) (items : List Item) : (s.commitStation items).alarms = s.alarms := by unfold State.commitStation; split <;> rfl
@[simp] theorem State.commitStation_lines (s : State) (items : List Item) : (s.commitStation items).lines = s.lines := by unfold State.commitStation; split <;> rfl
@[simp] theorem State.commitStation_outputs (s : State) (items : List Item) : (s.commitStation items).outputs = s.outputs := by unfold State.commitStation; split <;> rfl
@[simp] theorem State.commitStation_intervals (s : State) (items : List Item) : (s.commitStation items).intervals = s.intervals := by unfold State.commitStation; split <;> rfl
@[simp] theorem State.commitStation_store (s : State) (items : List Item) : (s.commitStation items).store = s.store := by unfold State.commitStation; split <;> rfl
@[simp] theorem State.commitStation_ports (s : State) (items : List Item) : (s.commitStation items).ports = s.ports := by unfold State.commitStation; split <;> rfl
@[simp] theorem State.commitStation_settings (s : State) (items : List Item) : (s.commitStation items).settings = s.settings := by unfold State.commitStation; split <;> rfl
@[simp] theorem State.commitStation_generation (s : State) (items : List Item) : (s.commitStation items).generation = s.generation := by unfold State.commitStation; split <;> rfl
@[simp] theorem State.commitStation_number (s : State) (items : List Item) : (s.commitStation items).number = s.number := by unfold State.commitStation; split <;> rfl
@[simp] theorem State.commitStation_proposal (s : State) (items : List Item) : (s.commitStation items).proposal = s.proposal := by unfold State.commitStation; split <;> rfl
@[simp] theorem State.commitStation_free (s : State) (items : List Item) : (s.commitStation items).free = s.free := by unfold State.commitStation; split <;> rfl

/-! ### `State.clearFetch` -/

@[simp] theorem State.clearFetch_pending (s : State) (p : PortId) : (s.clearFetch p).pending = s.pending := by unfold State.clearFetch; split <;> rfl
@[simp] theorem State.clearFetch_solo (s : State) (p : PortId) : (s.clearFetch p).solo = s.solo := by unfold State.clearFetch; split <;> rfl
@[simp] theorem State.clearFetch_timebase (s : State) (p : PortId) : (s.clearFetch p).timebase = s.timebase := by unfold State.clearFetch; split <;> rfl
@[simp] theorem State.clearFetch_links (s : State) (p : PortId) : (s.clearFetch p).links = s.links := by unfold State.clearFetch; split <;> rfl
@[simp] theorem State.clearFetch_averagers (s : State) (p : PortId) : (s.clearFetch p).averagers = s.averagers := by unfold State.clearFetch; split <;> rfl
@[simp] theorem State.clearFetch_test (s : State) (p : PortId) : (s.clearFetch p).test = s.test := by unfold State.clearFetch; split <;> rfl
@[simp] theorem State.clearFetch_channels (s : State) (p : PortId) : (s.clearFetch p).channels = s.channels := by unfold State.clearFetch; split <;> rfl
@[simp] theorem State.clearFetch_storm (s : State) (p : PortId) : (s.clearFetch p).storm = s.storm := by unfold State.clearFetch; split <;> rfl
@[simp] theorem State.clearFetch_alarms (s : State) (p : PortId) : (s.clearFetch p).alarms = s.alarms := by unfold State.clearFetch; split <;> rfl
@[simp] theorem State.clearFetch_lines (s : State) (p : PortId) : (s.clearFetch p).lines = s.lines := by unfold State.clearFetch; split <;> rfl
@[simp] theorem State.clearFetch_outputs (s : State) (p : PortId) : (s.clearFetch p).outputs = s.outputs := by unfold State.clearFetch; split <;> rfl
@[simp] theorem State.clearFetch_intervals (s : State) (p : PortId) : (s.clearFetch p).intervals = s.intervals := by unfold State.clearFetch; split <;> rfl
@[simp] theorem State.clearFetch_settings (s : State) (p : PortId) : (s.clearFetch p).settings = s.settings := by unfold State.clearFetch; split <;> rfl
@[simp] theorem State.clearFetch_generation (s : State) (p : PortId) : (s.clearFetch p).generation = s.generation := by unfold State.clearFetch; split <;> rfl
@[simp] theorem State.clearFetch_number (s : State) (p : PortId) : (s.clearFetch p).number = s.number := by unfold State.clearFetch; split <;> rfl
@[simp] theorem State.clearFetch_proposal (s : State) (p : PortId) : (s.clearFetch p).proposal = s.proposal := by unfold State.clearFetch; split <;> rfl
@[simp] theorem State.clearFetch_free (s : State) (p : PortId) : (s.clearFetch p).free = s.free := by unfold State.clearFetch; split <;> rfl

/-! ### `State.deliver` -/

@[simp] theorem State.deliver_pending (s : State) (p : PortId) : (s.deliver p).pending = s.pending := by unfold State.deliver; split <;> rfl
@[simp] theorem State.deliver_solo (s : State) (p : PortId) : (s.deliver p).solo = s.solo := by unfold State.deliver; split <;> rfl
@[simp] theorem State.deliver_timebase (s : State) (p : PortId) : (s.deliver p).timebase = s.timebase := by unfold State.deliver; split <;> rfl
@[simp] theorem State.deliver_links (s : State) (p : PortId) : (s.deliver p).links = s.links := by unfold State.deliver; split <;> rfl
@[simp] theorem State.deliver_averagers (s : State) (p : PortId) : (s.deliver p).averagers = s.averagers := by unfold State.deliver; split <;> rfl
@[simp] theorem State.deliver_test (s : State) (p : PortId) : (s.deliver p).test = s.test := by unfold State.deliver; split <;> rfl
@[simp] theorem State.deliver_channels (s : State) (p : PortId) : (s.deliver p).channels = s.channels := by unfold State.deliver; split <;> rfl
@[simp] theorem State.deliver_storm (s : State) (p : PortId) : (s.deliver p).storm = s.storm := by unfold State.deliver; split <;> rfl
@[simp] theorem State.deliver_alarms (s : State) (p : PortId) : (s.deliver p).alarms = s.alarms := by unfold State.deliver; split <;> rfl
@[simp] theorem State.deliver_lines (s : State) (p : PortId) : (s.deliver p).lines = s.lines := by unfold State.deliver; split <;> rfl
@[simp] theorem State.deliver_outputs (s : State) (p : PortId) : (s.deliver p).outputs = s.outputs := by unfold State.deliver; split <;> rfl
@[simp] theorem State.deliver_intervals (s : State) (p : PortId) : (s.deliver p).intervals = s.intervals := by unfold State.deliver; split <;> rfl
@[simp] theorem State.deliver_store (s : State) (p : PortId) : (s.deliver p).store = s.store := by unfold State.deliver; split <;> rfl
@[simp] theorem State.deliver_settings (s : State) (p : PortId) : (s.deliver p).settings = s.settings := by unfold State.deliver; split <;> rfl
@[simp] theorem State.deliver_generation (s : State) (p : PortId) : (s.deliver p).generation = s.generation := by unfold State.deliver; split <;> rfl
@[simp] theorem State.deliver_number (s : State) (p : PortId) : (s.deliver p).number = s.number := by unfold State.deliver; split <;> rfl
@[simp] theorem State.deliver_proposal (s : State) (p : PortId) : (s.deliver p).proposal = s.proposal := by unfold State.deliver; split <;> rfl
@[simp] theorem State.deliver_free (s : State) (p : PortId) : (s.deliver p).free = s.free := by unfold State.deliver; split <;> rfl

/-! ### The work of a step -/

@[simp] theorem Work.start_st (s : State) : (Work.start s).st = s := rfl
@[simp] theorem Work.start_out (s : State) : (Work.start s).out = [] := rfl
@[simp] theorem Work.map_st (w : Work) (f : State → State) : (w.map f).st = f w.st := rfl
@[simp] theorem Work.map_out (w : Work) (f : State → State) : (w.map f).out = w.out := rfl
@[simp] theorem Work.hand_st (w : Work) (x : Sender) (q : QueuedRecord) : (w.hand x q).st = w.st := rfl
@[simp] theorem Work.hand_out (w : Work) (x : Sender) (q : QueuedRecord) : (w.hand x q).out = w.out ++ [⟨x, q⟩] := rfl
@[simp] theorem Work.event_st (w : Work) (x : Sender) (y : EventSource) (b : EventBody) : (w.event x y b).st = w.st := rfl

@[simp] theorem Work.join_pending (w : Work) : w.join.pending = w.st.pending := rfl
@[simp] theorem Work.join_solo (w : Work) : w.join.solo = w.st.solo := rfl
@[simp] theorem Work.join_timebase (w : Work) : w.join.timebase = w.st.timebase := rfl
@[simp] theorem Work.join_links (w : Work) : w.join.links = w.st.links := rfl
@[simp] theorem Work.join_averagers (w : Work) : w.join.averagers = w.st.averagers := rfl
@[simp] theorem Work.join_test (w : Work) : w.join.test = w.st.test := rfl
@[simp] theorem Work.join_channels (w : Work) : w.join.channels = w.st.channels := rfl
@[simp] theorem Work.join_storm (w : Work) : w.join.storm = w.st.storm := rfl
@[simp] theorem Work.join_alarms (w : Work) : w.join.alarms = w.st.alarms := rfl
@[simp] theorem Work.join_lines (w : Work) : w.join.lines = w.st.lines := rfl
@[simp] theorem Work.join_outputs (w : Work) : w.join.outputs = w.st.outputs := rfl
@[simp] theorem Work.join_intervals (w : Work) : w.join.intervals = w.st.intervals := rfl
@[simp] theorem Work.join_ports (w : Work) : w.join.ports = w.st.ports := rfl
@[simp] theorem Work.join_settings (w : Work) : w.join.settings = w.st.settings := rfl
@[simp] theorem Work.join_generation (w : Work) : w.join.generation = w.st.generation := rfl
@[simp] theorem Work.join_number (w : Work) : w.join.number = w.st.number := rfl
@[simp] theorem Work.join_proposal (w : Work) : w.join.proposal = w.st.proposal := rfl

/-! ### `State.strapAt` -/

@[simp] theorem State.strapAt_solo (s : State) (b : Bool) : (s.strapAt b).solo = b := rfl
@[simp] theorem State.strapAt_pending (s : State) (b : Bool) : (s.strapAt b).pending = s.pending := rfl
@[simp] theorem State.strapAt_timebase (s : State) (b : Bool) : (s.strapAt b).timebase = s.timebase := rfl
@[simp] theorem State.strapAt_links (s : State) (b : Bool) : (s.strapAt b).links = s.links := rfl
@[simp] theorem State.strapAt_averagers (s : State) (b : Bool) : (s.strapAt b).averagers = s.averagers := rfl
@[simp] theorem State.strapAt_test (s : State) (b : Bool) : (s.strapAt b).test = s.test := rfl
@[simp] theorem State.strapAt_channels (s : State) (b : Bool) : (s.strapAt b).channels = s.channels := rfl
@[simp] theorem State.strapAt_storm (s : State) (b : Bool) : (s.strapAt b).storm = s.storm := rfl
@[simp] theorem State.strapAt_alarms (s : State) (b : Bool) : (s.strapAt b).alarms = s.alarms := rfl
@[simp] theorem State.strapAt_lines (s : State) (b : Bool) : (s.strapAt b).lines = s.lines := rfl
@[simp] theorem State.strapAt_outputs (s : State) (b : Bool) : (s.strapAt b).outputs = s.outputs := rfl
@[simp] theorem State.strapAt_intervals (s : State) (b : Bool) : (s.strapAt b).intervals = s.intervals := rfl
@[simp] theorem State.strapAt_store (s : State) (b : Bool) : (s.strapAt b).store = s.store := rfl
@[simp] theorem State.strapAt_settings (s : State) (b : Bool) : (s.strapAt b).settings = s.settings := rfl
@[simp] theorem State.strapAt_generation (s : State) (b : Bool) : (s.strapAt b).generation = s.generation := rfl
@[simp] theorem State.strapAt_number (s : State) (b : Bool) : (s.strapAt b).number = s.number := rfl
@[simp] theorem State.strapAt_proposal (s : State) (b : Bool) : (s.strapAt b).proposal = s.proposal := rfl
@[simp] theorem State.strapAt_free (s : State) (b : Bool) : (s.strapAt b).free = s.free := rfl
@[simp] theorem State.strapAt_ports (s : State) (b : Bool) : (s.strapAt b).ports = s.ports := rfl
@[simp] theorem State.strapAt_port (s : State) (b : Bool) (p : PortId) : (s.strapAt b).port p = s.port p := rfl

end Sys2Proof.Machine
end

