-- ==== Sys2Proof/Laws/Ports.lean ====
section
/-! SUPPORT. What a change of one port, of all ports or of the others does to each port, what the end of a transfer
can do (R166, R172), and how bytes travel as bits (R166). -/

namespace Sys2Proof.Machine

@[simp] theorem Ports.get_upd_self (ps : Ports) (p : PortId) (f : Port → Port) : (ps.upd p f).get p = f (ps.get p) := by
  cases p <;> rfl

theorem Ports.get_upd_ne (ps : Ports) {p q : PortId} (f : Port → Port) (h : p ≠ q) : (ps.upd p f).get q = ps.get q := by
  cases p <;> cases q <;> first | rfl | exact absurd rfl h

@[simp] theorem Ports.get_all (ps : Ports) (f : Port → Port) (p : PortId) : (ps.all f).get p = f (ps.get p) := by
  cases p <;> rfl

@[simp] theorem Ports.get_others_self (ps : Ports) (p : PortId) (f : Port → Port) : (ps.others p f).get p = ps.get p := by
  cases p <;> rfl

theorem Ports.get_others_ne (ps : Ports) {p q : PortId} (f : Port → Port) (h : p ≠ q) :
    (ps.others p f).get q = f (ps.get q) := by
  cases p <;> cases q <;> first | rfl | exact absurd rfl h

/-- Two sets of ports are equal when each port is. -/
theorem Ports.ext_get {x y : Ports} (h : ∀ p, x.get p = y.get p) : x = y := by
  have ha := h .a
  have hb := h .b
  have hc := h .c
  cases x
  cases y
  simp_all [Ports.get]

@[simp] theorem Ports.upd_upd (ps : Ports) (p : PortId) (f g : Port → Port) :
    (ps.upd p f).upd p g = ps.upd p fun q => g (f q) := by cases p <;> rfl

@[simp] theorem State.port_updPort_self (s : State) (p : PortId) (f : Port → Port) :
    (s.updPort p f).port p = f (s.port p) := Ports.get_upd_self _ _ _

theorem State.port_updPort_ne (s : State) {p q : PortId} (f : Port → Port) (h : p ≠ q) :
    (s.updPort p f).port q = s.port q := Ports.get_upd_ne _ _ h

@[simp] theorem State.updPort_updPort (s : State) (p : PortId) (f g : Port → Port) :
    (s.updPort p f).updPort p g = s.updPort p fun q => g (f q) := by cases p <;> rfl

@[simp] theorem State.port_notifyAll (s : State) (f : Notices → Notices) (p : PortId) :
    (s.notifyAll f).port p = { s.port p with notices := f (s.port p).notices } := Ports.get_all _ _ _

@[simp] theorem State.port_notifyOthers_self (s : State) (p : PortId) (f : Notices → Notices) :
    (s.notifyOthers p f).port p = s.port p := Ports.get_others_self _ _ _

theorem State.port_notifyOthers_ne (s : State) {p q : PortId} (f : Notices → Notices) (h : p ≠ q) :
    (s.notifyOthers p f).port q = { s.port q with notices := f (s.port q).notices } := Ports.get_others_ne _ _ h

/-- A judgement of the half-unread mark moves no cursor and no skip count (R142). -/
theorem Port.judgeHalf_cursor (q : Port) (size next : Nat) (r i : Fin 9) :
    (nth (q.judgeHalf size next r).cursors i).cursor = (nth q.cursors i).cursor := by
  simp only [Port.judgeHalf, nth_put]
  split
  · next h => rw [h]
  · rfl

/-- Of a port, a cursor movement changes only the cursor table and the notices (R142). -/
theorem State.port_moveCursor (s : State) (p : PortId) (r : Fin 9) (f : Cursor → Cursor) :
    ∃ cs n, (s.moveCursor p r f).port p = { s.port p with cursors := cs, notices := n } ∧
      ∀ i, i ≠ r → nth cs i = nth (s.port p).cursors i := by
  unfold State.moveCursor
  rw [State.port_updPort_self]
  refine ⟨_, _, rfl, fun i hi => ?_⟩
  rw [nth_put_ne _ _ (Ne.symm hi), nth_upd_ne _ _ (Ne.symm hi)]

/-- Where a moved cursor stands (R143, R144, R151). -/
theorem State.moveCursor_cursor (s : State) (p : PortId) (r : Fin 9) (f : Cursor → Cursor) :
    (nth ((s.moveCursor p r f).port p).cursors r).cursor = (f (nth (s.port p).cursors r)).cursor := by
  unfold State.moveCursor
  rw [State.port_updPort_self, Port.judgeHalf_cursor, nth_upd_self]

/-- A cursor movement reaches no other port (R140). -/
theorem State.moveCursor_others (s : State) {p q : PortId} (r : Fin 9) (f : Cursor → Cursor) (h : p ≠ q) :
    (s.moveCursor p r f).port q = s.port q := State.port_updPort_ne _ _ h

/-! ## Bits and bytes -/

/-- The eight bits of a byte, taken one after another, make it up again. -/
theorem wholeBytes_byte (x : Byte) (bits : List Bool) :
    wholeBytes (([7, 6, 5, 4, 3, 2, 1, 0].map fun i => x.getLsbD i) ++ bits) = x :: wholeBytes bits := by
  have h : BitVec.ofBoolListBE [x.getLsbD 7, x.getLsbD 6, x.getLsbD 5, x.getLsbD 4, x.getLsbD 3, x.getLsbD 2,
      x.getLsbD 1, x.getLsbD 0] = x := by revert x; decide +kernel
  show _ :: _ = _
  exact congrArg (· :: wholeBytes bits) h

/-- Bytes that travel as bits are taken as those bytes, whatever bits follow (R166). -/
theorem wholeBytes_bitsOf (bs : List Byte) (bits : List Bool) :
    wholeBytes (bitsOf bs ++ bits) = bs ++ wholeBytes bits := by
  induction bs with
  | nil => rfl
  | cons x bs ih =>
    rw [bitsOf, List.flatMap_cons, List.append_assoc, wholeBytes_byte]
    exact congrArg (x :: ·) ih

/-! ## The end of a transfer -/

/-- A reply that is no batch moves nothing when it is delivered (R151). -/
theorem State.deliver_of_plain {s : State} {p : PortId} (h : s.plain p) : s.deliver p = s := by
  unfold State.deliver
  split
  · next b k hb => exact absurd hb (h.2 b k)
  · rfl

/-- A transfer that delivers no batch: the request is taken, and its reply becomes the due reply (R166). -/
theorem State.endTransfer_of_plain {s : State} {p : PortId} (h : s.plain p) (take : State → State × Reply) :
    s.endTransfer p take = (take s).1.updPort p fun q => { q with transfer := .idle, due := (take s).2 } := by
  unfold State.endTransfer
  rw [State.deliver_of_plain h]
  split
  · next hi => exact absurd hi h.1
  · rfl
  · rfl

/-- A transfer that was begun before a reset does nothing when it ends (R172). -/
theorem State.endTransfer_of_ignored {s : State} {p : PortId} (h : (s.port p).transfer = .ignored)
    (take : State → State × Reply) :
    s.endTransfer p take = s.updPort p fun q => { q with transfer := .idle } := by
  unfold State.endTransfer
  rw [h]

/-- Everything the end of a transfer can do: nothing but ending, where the transfer is ignored; otherwise the delivery,
the request, and the reply (R166, R172). -/
theorem State.endTransfer_cases (s : State) (p : PortId) (take : State → State × Reply) :
    ((s.port p).transfer = .ignored ∧ s.endTransfer p take = s.updPort p fun q => { q with transfer := .idle }) ∨
      ((s.port p).transfer ≠ .ignored ∧
        s.endTransfer p take =
          (take (s.deliver p)).1.updPort p fun q => { q with transfer := .idle, due := (take (s.deliver p)).2 }) := by
  unfold State.endTransfer
  split
  · next h => exact .inl ⟨h, rfl⟩
  · next h => exact .inr ⟨by simp [h], rfl⟩
  · next h => exact .inr ⟨by simp [h], rfl⟩

end Sys2Proof.Machine
end

