-- ==== Sys2Proof/Laws/Queue.lean ====
section
/-! SUPPORT. The write queue: what a record that joins it can do (R131, R132), the order in which records handed over
together arrive (R131), and an event placed at its head (R137). -/

namespace Sys2Proof.Machine

/-! ## One record -/

/-- Everything a record handed to the Record Writer can do (R131, R132). -/
theorem Store.join_cases (st : Store) (q : QueuedRecord) :
    (64 ≤ st.queue.length ∧ st.join q = { st with loss := satSucc 65535 st.loss }) ∨
      (st.queue.length < 64 ∧ ∃ e, q.record = .event e ∧
        st.join q = { st with queue := st.queue ++ [{ q with record := .event { e with loss := st.loss } }], loss := 0 }) ∨
      (st.queue.length < 64 ∧ (∃ v, q.record = .interval v) ∧ st.join q = { st with queue := st.queue ++ [q] }) := by
  unfold Store.join
  split
  · next h => exact .inl ⟨h, rfl⟩
  · next h =>
    have h' : st.queue.length < 64 := by simpa [queueSize] using h
    split
    · next e he => exact .inr (.inl ⟨h', e, he, rfl⟩)
    · next v hv => exact .inr (.inr ⟨h', ⟨v, hv⟩, rfl⟩)

@[simp] theorem Store.join_rings (st : Store) (q : QueuedRecord) : (st.join q).rings = st.rings := by
  rcases st.join_cases q with ⟨_, h⟩ | ⟨_, _, _, h⟩ | ⟨_, _, h⟩ <;> rw [h]

@[simp] theorem Store.join_access (st : Store) (q : QueuedRecord) : (st.join q).access = st.access := by
  rcases st.join_cases q with ⟨_, h⟩ | ⟨_, _, _, h⟩ | ⟨_, _, h⟩ <;> rw [h]

@[simp] theorem Store.join_turn (st : Store) (q : QueuedRecord) : (st.join q).turn = st.turn := by
  rcases st.join_cases q with ⟨_, h⟩ | ⟨_, _, _, h⟩ | ⟨_, _, h⟩ <;> rw [h]

theorem Store.join_queue_length {st : Store} (q : QueuedRecord) (h : st.queue.length ≤ 64) :
    (st.join q).queue.length ≤ 64 := by
  rcases st.join_cases q with ⟨_, e⟩ | ⟨_, _, _, e⟩ | ⟨_, _, e⟩ <;> rw [e] <;> simp <;> omega

theorem Store.join_loss {st : Store} (q : QueuedRecord) (h : st.loss ≤ 65535) : (st.join q).loss ≤ 65535 := by
  rcases st.join_cases q with ⟨_, e⟩ | ⟨_, _, _, e⟩ | ⟨_, _, e⟩ <;> rw [e]
  · simp only [satSucc]; split <;> omega
  · simp
  · exact h

/-! ## Several records -/

/-- Records joining one after another keep what each joining keeps. -/
theorem Store.foldl_join (P : Store → Prop) (h : ∀ st q, P st → P (st.join q)) (l : List QueuedRecord) (st : Store)
    (h0 : P st) : P (l.foldl Store.join st) := by
  induction l generalizing st with
  | nil => exact h0
  | cons q l ih => exact ih _ (h _ _ h0)

@[simp] theorem Store.foldl_join_rings (l : List QueuedRecord) (st : Store) :
    (l.foldl Store.join st).rings = st.rings :=
  Store.foldl_join (fun x => x.rings = st.rings) (fun x q hx => by rw [Store.join_rings, hx]) l st rfl

@[simp] theorem Store.foldl_join_access (l : List QueuedRecord) (st : Store) :
    (l.foldl Store.join st).access = st.access :=
  Store.foldl_join (fun x => x.access = st.access) (fun x q hx => by rw [Store.join_access, hx]) l st rfl

@[simp] theorem Store.foldl_join_turn (l : List QueuedRecord) (st : Store) :
    (l.foldl Store.join st).turn = st.turn :=
  Store.foldl_join (fun x => x.turn = st.turn) (fun x q hx => by rw [Store.join_turn, hx]) l st rfl

/-- The order of arrival is an order of the records handed over: none is lost on the way and none is made (R131). -/
theorem arrivalOrder_perm (fuel seed : Nat) (l : List Handed) : (arrivalOrder fuel seed l).Perm (l.map (·.queued)) := by
  induction fuel generalizing seed l with
  | zero => exact .refl _
  | succ fuel ih =>
    cases l with
    | nil => exact .refl _
    | cons h t =>
      simp only [arrivalOrder]
      split
      · exact .refl _
      · generalize hc : (firstOfEach (h :: t)).getD (Config.pick seed % (firstOfEach (h :: t)).length) h = c
        have hmem : ∀ (l acc : List Handed) (x : Handed),
            x ∈ l.foldl (fun acc h => if acc.any (fun x => x.sender == h.sender) then acc else acc ++ [h]) acc →
              x ∈ acc ∨ x ∈ l := by
          intro l
          induction l with
          | nil => intro acc x hx; exact .inl hx
          | cons a l ihl =>
            intro acc x hx
            rw [List.foldl_cons] at hx
            rcases ihl _ _ hx with h1 | h1
            · split at h1
              · exact .inl h1
              · rcases List.mem_append.mp h1 with h2 | h2
                · exact .inl h2
                · exact .inr (by simp_all)
            · exact .inr (List.mem_cons_of_mem _ h1)
        have hin : c ∈ h :: t := by
          rw [← hc]
          rw [List.getD_eq_getElem?_getD]
          rcases hg : (firstOfEach (h :: t))[Config.pick seed % (firstOfEach (h :: t)).length]? with _ | x
          · simp
          · have hx := List.mem_of_getElem? hg
            rcases hmem _ _ _ hx with h1 | h1
            · simp at h1
            · simpa using h1
        -- the record that is taken is the first of its sender that is still there
        have hfirst : ∀ (l acc : List Handed) (x : Handed),
            x ∈ l.foldl (fun acc h => if acc.any (fun x => x.sender == h.sender) then acc else acc ++ [h]) acc →
              x ∈ acc ∨ (¬ acc.any (fun y => y.sender == x.sender) ∧ l.find? (fun y => y.sender == x.sender) = some x) := by
          intro l
          induction l with
          | nil => intro acc x hx; exact .inl hx
          | cons a l ihl =>
            intro acc x hx
            rw [List.foldl_cons] at hx
            split at hx
            · next ha =>
              rcases ihl _ _ hx with h1 | ⟨h1, h2⟩
              · exact .inl h1
              · refine .inr ⟨h1, ?_⟩
                rw [List.find?_cons_of_neg, h2]
                intro hax
                apply h1
                have : a.sender = x.sender := by simpa using hax
                rw [← this]
                exact ha
            · next ha =>
              rcases ihl _ _ hx with h1 | ⟨h1, h2⟩
              · rcases List.mem_append.mp h1 with h3 | h3
                · exact .inl h3
                · have : x = a := by simpa using h3
                  subst this
                  exact .inr ⟨ha, by rw [List.find?_cons_of_pos (by simp)]⟩
              · refine .inr ⟨fun h3 => h1 ?_, ?_⟩
                · rw [List.any_append, h3]; rfl
                · rw [List.find?_cons_of_neg, h2]
                  intro hax
                  apply h1
                  rw [List.any_append]
                  simp at hax ⊢
                  exact .inr hax
        have hfind : (h :: t).find? (fun y => y.sender == c.sender) = some c := by
          rw [← hc, List.getD_eq_getElem?_getD]
          rcases hg : (firstOfEach (h :: t))[Config.pick seed % (firstOfEach (h :: t)).length]? with _ | x
          · simp
          · have hx := List.mem_of_getElem? hg
            rcases hfirst _ _ _ hx with h1 | ⟨_, h1⟩
            · simp at h1
            · simpa using h1
        have hperm : ((h :: t).eraseP fun x => x.sender == c.sender).Perm ((h :: t).erase c) := by
          have : ∀ l : List Handed, l.find? (fun y => y.sender == c.sender) = some c →
              l.eraseP (fun x => x.sender == c.sender) = l.erase c := by
            intro l
            induction l with
            | nil => intro hl; simp at hl
            | cons a l ihl =>
              intro hl
              by_cases ha : a.sender == c.sender
              · rw [List.find?_cons_of_pos (by simpa using ha)] at hl
                have : a = c := by simpa using hl
                subst this
                simp
              · rw [List.find?_cons_of_neg (by simpa using ha)] at hl
                have hac : ¬ (a == c) := by
                  intro e
                  have : a = c := by simpa using e
                  subst this
                  simp at ha
                rw [List.eraseP_cons_of_neg (by simpa using ha), List.erase_cons_tail hac, ihl hl]
          rw [this _ hfind]
        refine (List.Perm.cons _ (ih (seed + 1) _)).trans ?_
        refine (List.Perm.cons _ (hperm.map _)).trans ?_
        exact ((List.perm_cons_erase hin).map (·.queued)).symm

/-- What one block alone hands over arrives in its own order (R131). -/
theorem arrivalOrder_of_oneSender (fuel seed : Nat) (l : List Handed) (x : Sender) (h : ∀ y ∈ l, y.sender = x) :
    arrivalOrder fuel seed l = l.map (·.queued) := by
  cases fuel with
  | zero => rfl
  | succ fuel =>
    cases l with
    | nil => rfl
    | cons a t =>
      have ha := h a (by simp)
      have : t.all (fun y => y.sender == a.sender) = true := by
        rw [List.all_eq_true]
        intro y hy
        rw [ha, h y (by simp [hy])]
        simp
      simp [arrivalOrder, this]

/-- A step that handed nothing over leaves the state as the step made it. -/
theorem Work.join_of_nil (w : Work) (h : w.out = []) : w.join = w.st := by
  simp [Work.join, h, arrivalOrder]

/-- The store after a step: the records handed over have joined the queue, in some order of arrival (R131). -/
theorem Work.join_store (w : Work) :
    ∃ l : List QueuedRecord, l.Perm (w.out.map (·.queued)) ∧ w.join.store = l.foldl Store.join w.st.store :=
  ⟨_, arrivalOrder_perm _ _ _, rfl⟩

/-- What one block alone handed over joins the queue in its own order (R131). -/
theorem Work.join_store_of_oneSender (w : Work) (x : Sender) (h : ∀ y ∈ w.out, y.sender = x) :
    w.join.store = (w.out.map (·.queued)).foldl Store.join w.st.store := by
  simp [Work.join, arrivalOrder_of_oneSender _ _ _ x h]

@[simp] theorem Work.join_store_rings (w : Work) : w.join.store.rings = w.st.store.rings := by
  simp [Work.join]

@[simp] theorem Work.join_store_access (w : Work) : w.join.store.access = w.st.store.access := by
  simp [Work.join]

@[simp] theorem Work.join_store_turn (w : Work) : w.join.store.turn = w.st.store.turn := by
  simp [Work.join]

/-- The queue and the loss count stay within their bounds when a step's records join (R131, R132). -/
theorem Work.join_queueBounded {w : Work} (h : w.st.queueBounded) : w.join.queueBounded := by
  have := Store.foldl_join (fun x => x.queue.length ≤ 64 ∧ x.loss ≤ 65535)
    (fun x q hx => ⟨Store.join_queue_length q hx.1, Store.join_loss q hx.2⟩)
    (arrivalOrder w.out.length w.st.free w.out) w.st.store h
  exact this

/-! ## The head of the queue -/

/-- An event placed at the head: it stands first with the loss count, the records put back and those that fit follow it,
and the count is back at 0 (R132, R137). -/
theorem Store.placeCleared_queue (st : Store) (e : EventRecord) (back : List QueuedRecord) :
    (st.placeCleared e back).queue =
      { ring := 8, record := .event { e with
          loss := min 65535 (st.loss + ((back ++ st.queue).length - 63)) } } :: (back ++ st.queue).take 63 := rfl

theorem Store.placeCleared_length (st : Store) (e : EventRecord) (back : List QueuedRecord) :
    (st.placeCleared e back).queue.length ≤ 64 := by
  rw [Store.placeCleared_queue]
  simp only [List.length_cons, List.length_take]
  omega

@[simp] theorem Store.placeCleared_loss (st : Store) (e : EventRecord) (back : List QueuedRecord) :
    (st.placeCleared e back).loss = 0 := rfl

@[simp] theorem Store.placeCleared_rings (st : Store) (e : EventRecord) (back : List QueuedRecord) :
    (st.placeCleared e back).rings = st.rings := rfl

@[simp] theorem Store.placeCleared_access (st : Store) (e : EventRecord) (back : List QueuedRecord) :
    (st.placeCleared e back).access = st.access := rfl

end Sys2Proof.Machine
end

