-- ==== Sys2Proof/Laws/Work.lean ====
section
/-! SUPPORT. The frame of each shared operation of a step: one lemma for each, that says which parts of the state it can
change at all; and what an alarm entry, an interval and a link transition can do. -/

namespace Sys2Proof.Machine

/-- What every turn keeps, all the turns together keep. -/
theorem Work.forEach_induct {n : Nat} (P : Work → Prop) (f : Fin n → Work → Work) (w : Work) (h0 : P w)
    (h : ∀ i w, P w → P (f i w)) : P (w.forEach f) := by
  unfold Work.forEach
  generalize List.finRange n = l
  induction l generalizing w with
  | nil => exact h0
  | cons a l ih => exact ih (f a w) (h a w h0)

/-- The same for the four kinds of a channel. -/
theorem foldl_kinds {α : Type} (P : α → Prop) (f : α → AlarmKind → α) (a : α) (h0 : P a)
    (h : ∀ a k, P a → P (f a k)) : P (alarmKinds.foldl f a) := by
  unfold alarmKinds
  exact h _ _ (h _ _ (h _ _ (h _ _ h0)))

/-! ## Alarm entries -/

theorem Work.moveEntry_frame (w : Work) (x : Sender) (i : Fin 32) (e : AlarmEntry) (v : Nat) (c : AlarmCause) :
    ∃ p, (w.moveEntry x i e v c).st = { w.st with alarms := put w.st.alarms i e, ports := p } := ⟨_, rfl⟩

/-- The one record that a change of an entry hands over (R110). -/
theorem Work.moveEntry_out (w : Work) (x : Sender) (i : Fin 32) (e : AlarmEntry) (v : Nat) (c : AlarmCause) :
    (w.moveEntry x i e v c).out = w.out ++ [⟨x, { ring := 8, record := .event {
      time := w.st.timebase.time, source := .channel (channelOf i),
      body := .alarm i (nth w.st.alarms i).state e.state v c, loss := 0 } }⟩] := rfl

/-- Everything a condition handed to its entry can do (R100, R101). -/
theorem Work.handCondition_cases (w : Work) (c : Fin 8) (k : AlarmKind) (was now : Bool) (value : Nat)
    (inTest : Bool) :
    w.handCondition c k was now value inTest = w ∨
      (was = false ∧ now = true ∧ (nth w.st.alarms (entryOf c k)).state.active = false ∧
        w.handCondition c k was now value inTest =
          w.moveEntry (.alarm c) (entryOf c k)
            ((nth w.st.alarms (entryOf c k)).raise w.st.timebase.time value inTest) value .condition) ∨
      (was = true ∧ now = false ∧ (nth w.st.alarms (entryOf c k)).state.active = true ∧
        w.handCondition c k was now value inTest =
          w.moveEntry (.alarm c) (entryOf c k)
            ((nth w.st.alarms (entryOf c k)).fall w.st.timebase.time (w.st.settings.policy.required k)) value
            .condition) := by
  unfold Work.handCondition
  cases was <;> cases now <;> simp
  · cases h : (nth w.st.alarms (entryOf c k)).state.active <;> simp
  · cases h : (nth w.st.alarms (entryOf c k)).state.active <;> simp

theorem Work.handCondition_frame (w : Work) (c : Fin 8) (k : AlarmKind) (was now : Bool) (v : Nat) (t : Bool) :
    ∃ a p, (w.handCondition c k was now v t).st = { w.st with alarms := a, ports := p } := by
  rcases w.handCondition_cases c k was now v t with h | ⟨_, _, _, h⟩ | ⟨_, _, _, h⟩ <;> rw [h]
  · exact ⟨_, _, rfl⟩
  · exact ⟨_, _, rfl⟩
  · exact ⟨_, _, rfl⟩

theorem Work.handChanges_frame (w : Work) (c : Fin 8) (old new : Channel) :
    ∃ a p, (w.handChanges c old new).st = { w.st with alarms := a, ports := p } := by
  unfold Work.handChanges
  refine foldl_kinds (fun x : Work => ∃ a p, x.st = { w.st with alarms := a, ports := p }) _ _ ⟨_, _, rfl⟩ ?_
  rintro x k ⟨a, p, hx⟩
  obtain ⟨a', p', h⟩ := x.handCondition_frame c k (old.condition k) (new.condition k) (new.value k)
    (new.state == .test)
  exact ⟨a', p', by rw [h, hx]⟩

theorem Work.setChannel_frame (w : Work) (c : Fin 8) (new : Channel) :
    ∃ a p, (w.setChannel c new).st = { w.st with channels := put w.st.channels c new, alarms := a, ports := p } := by
  obtain ⟨a, p, h⟩ := (w.map fun s => { s with channels := put s.channels c new }).handChanges_frame c
    (nth w.st.channels c) new
  exact ⟨a, p, h⟩

theorem State.raisePeaks_frame (s : State) (c : Fin 8) (old new : Channel) :
    ∃ a, s.raisePeaks c old new = { s with alarms := a } := by
  unfold State.raisePeaks
  refine foldl_kinds (fun x : State => ∃ a, x = { s with alarms := a }) _ _ ⟨_, rfl⟩ ?_
  rintro x k ⟨a, hx⟩
  subst hx
  split
  · exact ⟨_, rfl⟩
  · exact ⟨_, rfl⟩

theorem Work.resetEntries_frame (w : Work) (c : Fin 8) :
    ∃ a p, (w.resetEntries c).st = { w.st with alarms := a, ports := p } := by
  unfold Work.resetEntries
  refine foldl_kinds (fun x : Work => ∃ a p, x.st = { w.st with alarms := a, ports := p }) _ _ ⟨_, _, rfl⟩ ?_
  rintro x k ⟨a, p, hx⟩
  obtain ⟨p', h⟩ := x.moveEntry_frame (.alarm c) (entryOf c k)
    ((nth x.st.alarms (entryOf c k)).byReset x.st.timebase.time) (nth x.st.alarms (entryOf c k)).peak .reset
  exact ⟨_, p', by rw [h, hx]⟩

/-! ## Intervals -/

/-- Everything the close of an interval can do (R120, R122, R127). -/
theorem Work.closeInterval_cases (w : Work) (c : Fin 8) (t : Bool) :
    (nth w.st.intervals c = none ∧ w.closeInterval c t = w) ∨
      ∃ v, nth w.st.intervals c = some v ∧
        (w.closeInterval c t).st = { w.st with intervals := put w.st.intervals c (some .opened) } ∧
        (((v.length = 0 ∨ w.st.settings.ringSize c.castSucc = 0) ∧ (w.closeInterval c t).out = w.out) ∨
          (0 < v.length ∧ 0 < w.st.settings.ringSize c.castSucc ∧ (w.closeInterval c t).out =
            w.out ++ [⟨.interval c, { ring := c.castSucc, record := .interval (v.toRecord c t) }⟩])) := by
  unfold Work.closeInterval
  split
  · next h => exact .inl ⟨h, rfl⟩
  · next v h =>
    refine .inr ⟨v, h, ?_⟩
    split
    · next h2 => exact ⟨rfl, .inl ⟨h2, rfl⟩⟩
    · next h2 => exact ⟨rfl, .inr ⟨by omega, by omega, rfl⟩⟩

theorem Work.closeInterval_frame (w : Work) (c : Fin 8) (t : Bool) :
    ∃ v, (w.closeInterval c t).st = { w.st with intervals := v } := by
  rcases w.closeInterval_cases c t with ⟨_, h⟩ | ⟨_, _, h, _⟩ <;> rw [h] <;> exact ⟨_, rfl⟩

/-- A second put into the open interval, which the boundary test may close (R123, R124). -/
theorem Work.addTo_frame (u : Work) (c : Fin 8) (v : Interval) (b : Bool) :
    ∃ x, (if b then (u.map fun s => { s with intervals := put s.intervals c (some v) }).closeInterval c false
      else u.map fun s => { s with intervals := put s.intervals c (some v) }).st = { u.st with intervals := x } := by
  cases b
  · exact ⟨_, rfl⟩
  · obtain ⟨y, h⟩ := (u.map fun s => { s with intervals := put s.intervals c (some v) }).closeInterval_frame c false
    exact ⟨y, h⟩

theorem Work.addSecond_frame (w : Work) (c : Fin 8) (d : Option Int) :
    ∃ v, (w.addSecond c d).st = { w.st with intervals := v } := by
  unfold Work.addSecond
  split
  · exact ⟨_, rfl⟩
  · next v hv =>
    dsimp only
    have h1 : ∃ x, (if v.first.any (fun f => f.1 ≠ w.st.storm.state.class) then w.closeInterval c false else w).st
        = { w.st with intervals := x } := by
      split
      · exact w.closeInterval_frame c false
      · exact ⟨_, rfl⟩
    revert h1
    generalize (if v.first.any (fun f => f.1 ≠ w.st.storm.state.class) then w.closeInterval c false else w) = u
    rintro ⟨x, h1⟩
    have h2 := u.addTo_frame c (((nth u.st.intervals c).getD .opened).add w.st.timebase.time w.st.storm.state
      (nth u.st.channels c) d)
    split
    · obtain ⟨y, h⟩ := h2 true
      exact ⟨y, by simpa [h1] using h⟩
    · obtain ⟨y, h⟩ := h2 false
      exact ⟨y, by simpa [h1] using h⟩

theorem Work.handResults_frame (before : Tab 8 Channel) (c : Fin 8) (w : Work) :
    ∃ a p v, (w.handResults before c).st = { w.st with alarms := a, ports := p, intervals := v } := by
  unfold Work.handResults
  dsimp only
  split
  · exact ⟨_, _, _, rfl⟩
  · obtain ⟨a, p, h1⟩ := w.handChanges_frame c (nth before c) (nth w.st.channels c)
    obtain ⟨a', h2⟩ := State.raisePeaks_frame (w.handChanges c (nth before c) (nth w.st.channels c)).st c
      (nth before c) (nth w.st.channels c)
    obtain ⟨v, h3⟩ := Work.addSecond_frame ((w.handChanges c (nth before c) (nth w.st.channels c)).map fun s =>
      s.raisePeaks c (nth before c) (nth w.st.channels c)) c
        ((nth w.st.channels c).latest.bind (·.value) |>.map (·.d))
    exact ⟨a', p, v, by rw [h3, Work.map_st, h2, h1]⟩

/-! ## Tests -/

theorem Work.endTestOn_frame (c : Fin 8) (w : Work) :
    ∃ ch a p t v, (w.endTestOn c).st =
      { w.st with channels := ch, alarms := a, ports := p, test := t, intervals := v } := by
  unfold Work.endTestOn
  split
  · exact ⟨_, _, _, _, _, rfl⟩
  · next n _ =>
    obtain ⟨a, p, h1⟩ := w.setChannel_frame c ((nth w.st.channels c).restore n)
    obtain ⟨v, h2⟩ := Work.closeInterval_frame ((w.setChannel c ((nth w.st.channels c).restore n)).map fun s =>
      { s with test := { s.test with snapshots := put s.test.snapshots c none } }) c false
    exact ⟨_, a, p, _, v, by rw [h2, Work.map_st, h1]⟩

theorem Work.endTest_frame (w : Work) (cause : TestCause) (source : EventSource) :
    ∃ ch a p t v l, (w.endTest cause source).st =
      { w.st with channels := ch, alarms := a, ports := p, test := t, intervals := v, lines := l } := by
  unfold Work.endTest
  split
  · exact ⟨_, _, _, _, _, _, rfl⟩
  · next plan _ =>
    obtain ⟨ch, a, p, t, v, h⟩ := Work.forEach_induct (fun x => ∃ ch a p t v, x.st =
      { w.st with channels := ch, alarms := a, ports := p, test := t, intervals := v }) Work.endTestOn w
      ⟨_, _, _, _, _, rfl⟩ (fun i x hx => by
        obtain ⟨_, _, _, _, _, hx⟩ := hx
        obtain ⟨ch, a, p, t, v, h⟩ := x.endTestOn_frame i
        exact ⟨ch, a, p, t, v, by rw [h, hx]⟩)
    refine ⟨ch, a, ?_, ?_, v, ?_, ?_⟩
    pick_goal 4
    · dsimp only [Work.map_st, Work.event_st]
      rw [h]
      rfl

/-! ## Links -/

theorem Work.transition_frame (w : Work) (n : Fin 8) (dest : LinkState) (cause : LinkCause) :
    ∃ p, (w.transition n dest cause).st =
      { w.st with
        links := put w.st.links n
          ((if (nth w.st.links n).state = .locked then (nth w.st.links n).leaveLocked else nth w.st.links n).enter dest)
        ports := p } := by
  unfold Work.transition
  dsimp only
  split
  · exact ⟨_, rfl⟩
  · exact ⟨_, rfl⟩

theorem Work.transitionIf_frame (w : Work) (n : Fin 8) (t : Option (LinkState × LinkCause)) :
    ∃ l p, (w.transitionIf n t).st = { w.st with links := l, ports := p } := by
  unfold Work.transitionIf
  split
  · obtain ⟨p, h⟩ := w.transition_frame n _ _
    exact ⟨_, p, h⟩
  · exact ⟨_, _, rfl⟩

theorem Work.retryLink_frame (n : Fin 8) (w : Work) :
    ∃ l p, (w.retryLink n).st = { w.st with links := l, ports := p } := by
  unfold Work.retryLink
  split
  · obtain ⟨p, h⟩ := w.transition_frame n .seeking .retry
    exact ⟨_, p, h⟩
  · exact ⟨_, _, rfl⟩

theorem Work.zeroedChannel_frame (w : Work) (c : Fin 8) :
    ∃ ch a p t, (w.zeroedChannel c).st = { w.st with channels := ch, alarms := a, ports := p, test := t } := by
  unfold Work.zeroedChannel
  dsimp only
  split
  · exact ⟨_, _, _, _, rfl⟩
  all_goals first
    | (obtain ⟨a, p, h⟩ := w.setChannel_frame c
        ((nth w.st.channels c).applyStart (nth w.st.settings.analysis c).startMode)
       exact ⟨_, a, p, _, by rw [h]⟩)
    | exact ⟨_, _, _, _, rfl⟩

theorem Work.endOfZeroing_frame (w : Work) (n : Fin 8) :
    ∃ ch a p t l, (w.endOfZeroing n).st =
      { w.st with channels := ch, alarms := a, ports := p, test := t, lines := l } := by
  unfold Work.endOfZeroing
  obtain ⟨ch, a, p, t, h⟩ := Work.forEach_induct (fun x => ∃ ch a p t, x.st =
    { w.st with channels := ch, alarms := a, ports := p, test := t })
    (fun c w' => if w.st.zeroesNow n c then w'.zeroedChannel c else w') w
    ⟨_, _, _, _, rfl⟩ (fun i x hx => by
      obtain ⟨_, _, _, _, hx⟩ := hx
      dsimp only
      split
      · obtain ⟨ch, a, p, t, h⟩ := x.zeroedChannel_frame i
        exact ⟨ch, a, p, t, by rw [h, hx]⟩
      · exact ⟨_, _, _, _, hx⟩)
  refine ⟨ch, a, p, t, ?_, ?_⟩
  pick_goal 2
  · dsimp only [Work.map_st, Work.event_st]
    rw [h]
    rfl

theorem Work.cycleEnd_frame (w : Work) (n : Fin 8) :
    ∃ li ch a p t l, (w.cycleEnd n).st =
      { w.st with links := li, channels := ch, alarms := a, ports := p, test := t, lines := l } := by
  unfold Work.cycleEnd
  dsimp only
  split
  · split
    · obtain ⟨ch, a, p, t, l, h⟩ :=
        (w.map fun s => { s with links := put s.links n (nth w.st.links n).formWord }).endOfZeroing_frame n
      exact ⟨_, ch, a, p, t, l, by rw [h, Work.map_st]⟩
    · exact ⟨_, _, _, _, _, _, rfl⟩
  · obtain ⟨li, p, h⟩ := Work.transitionIf_frame
      (w.map fun s => { s with links := put s.links n (nth w.st.links n).countCycle }) n
      (cycleTransition (nth w.st.links n).countCycle)
    exact ⟨li, _, _, p, _, _, by rw [h, Work.map_st]⟩

/-- What the arrival of a frame can change at all (R2 to R7, R11 to R14, R27, R28). -/
theorem Work.arrive_frame (w : Work) (n : Fin 8) (frame : BitVec 32) :
    ∃ li av ch a p t l, (w.arrive n frame).st = { w.st with
      links := li, averagers := av, channels := ch, alarms := a, ports := p, test := t, lines := l } := by
  unfold Work.arrive
  dsimp only
  split
  · exact ⟨_, _, _, _, _, _, _, rfl⟩
  · next f _ =>
    generalize hl : Link.count _ f _ frame = l0
    obtain ⟨li, p, h⟩ := Work.transitionIf_frame (w.map fun s => { s with links := put s.links n l0 }) n
      (arrivalTransition l0 f (classify (nth w.st.settings.link n).address frame) frame)
    generalize (w.map fun s => { s with links := put s.links n l0 }).transitionIf n
      (arrivalTransition l0 f (classify (nth w.st.settings.link n).address frame) frame) = u at h
    split
    · generalize hu : u.map _ = u'
      obtain ⟨li', ch, a, p', t, l, h'⟩ := u'.cycleEnd_frame n
      refine ⟨li', u'.st.averagers, ch, a, p', t, l, ?_⟩
      rw [h', ← hu, Work.map_st, h, Work.map_st]
    · exact ⟨_, _, _, _, _, _, _, by rw [Work.map_st, h, Work.map_st]⟩

/-! ## The second tick and the proposal windows -/

theorem Work.decideStorm_frame (w : Work) (pulled : Bool) :
    ∃ m p, (w.decideStorm pulled).st = { w.st with storm := m, ports := p } := by
  unfold Work.decideStorm
  dsimp only
  split
  · exact ⟨_, _, rfl⟩
  · exact ⟨_, _, rfl⟩

theorem Work.countTest_frame (w : Work) :
    ∃ ch a p t v l, w.countTest.st =
      { w.st with channels := ch, alarms := a, ports := p, test := t, intervals := v, lines := l } := by
  unfold Work.countTest
  split
  · exact ⟨_, _, _, _, _, _, rfl⟩
  · dsimp only
    split
    · obtain ⟨ch, a, p, t, v, l, h⟩ :=
        (w.map fun s => { s with test := { s.test with remaining := w.st.test.remaining - 1 } }).endTest_frame
          .expired .station
      exact ⟨ch, a, p, t, v, l, by rw [h, Work.map_st]⟩
    · exact ⟨_, _, _, _, _, _, rfl⟩

theorem Work.countWindows_frame (w : Work) :
    ∃ pr p, w.countWindows.st = { w.st with proposal := pr, ports := p } := by
  unfold Work.countWindows
  split
  · split
    · exact ⟨_, _, rfl⟩
    · exact ⟨_, _, rfl⟩
  · split
    · exact ⟨_, _, rfl⟩
    · exact ⟨_, _, rfl⟩
  · exact ⟨_, _, rfl⟩
  · exact ⟨_, _, rfl⟩

/-- The inputs of a second, when no proposal commits: links, ports, averagers and the test move (R8, R29, R40). -/
theorem tickInputs_frame (s : State) (h : s.uncommitted) :
    ∃ li p av t, (tickInputs s).st = { s with links := li, ports := p, averagers := av, test := t } := by
  have hc : s.commitStages = s := by
    unfold State.uncommitted commits at h
    unfold State.commitStages
    cases hp : s.proposal <;> simp_all
  unfold tickInputs
  rw [hc]
  obtain ⟨li, p, hw⟩ := Work.forEach_induct (fun x => ∃ l p, x.st = { s with links := l, ports := p })
    Work.retryLink (Work.start s) ⟨_, _, rfl⟩ (fun i x hx => by
      obtain ⟨_, _, hx⟩ := hx
      obtain ⟨l, p, h⟩ := x.retryLink_frame i
      exact ⟨l, p, by rw [h, hx]⟩)
  refine ⟨li, p, (tickInputs s).st.averagers, (tickInputs s).st.test, ?_⟩
  simp only [tickInputs, hc, Work.map_st]
  rw [hw]
  unfold State.supplyTest
  split <;> rfl

/-! ## Store and ports -/

theorem State.clearStore_frame (s : State) (c : ClearCause) :
    ∃ st p, s.clearStore c = { s with store := st, ports := p } := by
  have hf : ∀ (s : State) p, ∃ st q, s.clearFetch p = { s with store := st, ports := q } := by
    intro s p
    unfold State.clearFetch
    split
    · exact ⟨_, _, rfl⟩
    · exact ⟨_, _, rfl⟩
    · exact ⟨_, _, rfl⟩
  have h3 : ∀ s : State, ∃ st q, s.forPorts State.clearFetch = { s with store := st, ports := q } := by
    intro s
    unfold State.forPorts
    obtain ⟨s1, p1, h1⟩ := hf s .a
    obtain ⟨s2, p2, h2⟩ := hf (s.clearFetch .a) .b
    obtain ⟨s3, p3, h3⟩ := hf ((s.clearFetch .a).clearFetch .b) .c
    exact ⟨s3, p3, by rw [h3, h2, h1]⟩
  unfold State.clearStore
  dsimp only
  obtain ⟨st, q, h⟩ := h3 { s with
    store := { s.store with rings := tab fun r => (nth s.store.rings r).emptied }
    ports := s.ports.all (·.clearCursors (tab fun r => (nth s.store.rings r).emptied)) }
  exact ⟨_, _, by rw [h]⟩

theorem State.finishWrite_frame (s : State) (q : QueuedRecord) :
    ∃ st p, s.finishWrite q = { s with store := st, ports := p } := by
  unfold State.finishWrite
  dsimp only
  split
  · exact ⟨_, _, rfl⟩
  · exact ⟨_, _, rfl⟩

end Sys2Proof.Machine
end

