-- ==== Sys2Proof/Laws/Agree.lean ====
section
/-! SUPPORT. What the second tick makes of the part does not depend on the store, the ports, the generation, the free
values or the proposal buffer: two states that are alike but for these are alike after the tick. -/

namespace Sys2Proof.Machine

/-- Two states alike but for the store, the ports, the generation, the counter of free values and the proposal. -/
def State.like (s t : State) : Prop :=
  ∃ st ps g fr pr, t = { s with store := st, ports := ps, generation := g, free := fr, proposal := pr }

/-- Two steps whose states are alike. -/
def Work.like (w x : Work) : Prop := w.st.like x.st

theorem State.like_refl (s : State) : s.like s := ⟨_, _, _, _, _, rfl⟩

theorem State.like_trans {s t u : State} (h : s.like t) (k : t.like u) : s.like u := by
  obtain ⟨_, _, _, _, _, rfl⟩ := h
  obtain ⟨_, _, _, _, _, rfl⟩ := k
  exact ⟨_, _, _, _, _, rfl⟩

theorem State.like_symm {s t : State} (h : s.like t) : t.like s := by
  obtain ⟨_, _, _, _, _, rfl⟩ := h
  exact ⟨_, _, _, _, _, rfl⟩

/-- Alike states with one proposal agree. -/
theorem State.agrees_of_like {s t : State} (h : s.like t) (hp : s.proposal = t.proposal) : s.agrees t := by
  obtain ⟨_, _, _, _, _, rfl⟩ := h
  unfold State.agrees
  simp only at hp
  simp only [hp]

/-! ## Steps -/

theorem Work.like_map {w x : Work} (h : w.like x) {f g : State → State}
    (hf : ∀ s t, State.like s t → (f s).like (g t)) : (w.map f).like (x.map g) := hf _ _ h

theorem Work.like_forEach {n : Nat} {w x : Work} (h : w.like x) {f g : Fin n → Work → Work}
    (hf : ∀ i w x, Work.like w x → (f i w).like (g i x)) : (w.forEach f).like (x.forEach g) := by
  unfold Work.forEach
  generalize List.finRange n = l
  induction l generalizing w x with
  | nil => exact h
  | cons a l ih => exact ih (hf a _ _ h)

theorem Work.like_kinds {w x : Work} (h : w.like x) {f g : Work → AlarmKind → Work}
    (hf : ∀ w x k, Work.like w x → (f w k).like (g x k)) : (alarmKinds.foldl f w).like (alarmKinds.foldl g x) := by
  unfold alarmKinds
  exact hf _ _ _ (hf _ _ _ (hf _ _ _ (hf _ _ _ h)))

theorem Work.like_join (w : Work) : w.st.like w.join := ⟨_, _, _, _, _, rfl⟩

theorem Work.join_like {w x : Work} (h : w.like x) : w.join.like x.join :=
  State.like_trans (State.like_symm w.like_join) (State.like_trans h x.like_join)

/-- A state operation that reads and writes none of the five parts keeps states alike. -/
theorem State.like_of_frame {f : State → State}
    (hf : ∀ s st ps g fr pr,
      f { s with store := st, ports := ps, generation := g, free := fr, proposal := pr } =
        { f s with store := st, ports := ps, generation := g, free := fr, proposal := pr })
    (s t : State) (h : s.like t) : (f s).like (f t) := by
  obtain ⟨st, ps, g, fr, pr, rfl⟩ := h
  exact ⟨st, ps, g, fr, pr, hf ..⟩

theorem State.like_notifyAll {s t : State} (h : s.like t) (f g : Notices → Notices) :
    (s.notifyAll f).like (t.notifyAll g) := by
  obtain ⟨_, _, _, _, _, rfl⟩ := h
  exact ⟨_, _, _, _, _, rfl⟩

/-! ## Entries and intervals -/

theorem Work.like_moveEntry {w x : Work} (h : w.like x) (n : Sender) (i : Fin 32) (e : AlarmEntry) (v : Nat)
    (c : AlarmCause) : (w.moveEntry n i e v c).like (x.moveEntry n i e v c) := by
  obtain ⟨s, o⟩ := w
  obtain ⟨t, p⟩ := x
  obtain ⟨_, _, _, _, _, rfl⟩ := h
  exact ⟨_, _, _, _, _, rfl⟩

theorem Work.like_handCondition {w x : Work} (h : w.like x) (c : Fin 8) (k : AlarmKind) (was now : Bool) (v : Nat)
    (t : Bool) : (w.handCondition c k was now v t).like (x.handCondition c k was now v t) := by
  obtain ⟨s, o⟩ := w
  obtain ⟨u, p⟩ := x
  obtain ⟨_, _, _, _, _, rfl⟩ := h
  unfold Work.handCondition
  dsimp only
  split
  · exact ⟨_, _, _, _, _, rfl⟩
  · split <;> split <;> exact ⟨_, _, _, _, _, rfl⟩

theorem Work.like_handChanges {w x : Work} (h : w.like x) (c : Fin 8) (old new : Channel) :
    (w.handChanges c old new).like (x.handChanges c old new) :=
  Work.like_kinds h fun _ _ _ h => Work.like_handCondition h ..

theorem Work.like_setChannel {w x : Work} (h : w.like x) (c : Fin 8) (new : Channel) :
    (w.setChannel c new).like (x.setChannel c new) := by
  have hc : x.st.channels = w.st.channels := by
    obtain ⟨_, _, _, _, _, e⟩ := h
    rw [e]
  unfold Work.setChannel
  rw [hc]
  exact Work.like_handChanges (Work.like_map h (State.like_of_frame fun _ _ _ _ _ _ => rfl)) ..

theorem Work.like_resetEntries {w x : Work} (h : w.like x) (c : Fin 8) :
    (w.resetEntries c).like (x.resetEntries c) := by
  refine Work.like_kinds h fun w x k h => ?_
  obtain ⟨s, o⟩ := w
  obtain ⟨u, p⟩ := x
  obtain ⟨_, _, _, _, _, rfl⟩ := h
  exact ⟨_, _, _, _, _, rfl⟩

theorem Work.like_closeInterval {w x : Work} (h : w.like x) (c : Fin 8) (t : Bool) :
    (w.closeInterval c t).like (x.closeInterval c t) := by
  obtain ⟨s, o⟩ := w
  obtain ⟨u, p⟩ := x
  obtain ⟨_, _, _, _, _, rfl⟩ := h
  unfold Work.closeInterval
  dsimp only
  split
  · exact ⟨_, _, _, _, _, rfl⟩
  · split <;> exact ⟨_, _, _, _, _, rfl⟩

theorem Work.like_ifClose {w x : Work} (h : w.like x) (c : Fin 8) (b : Prop) [Decidable b] :
    (if b then w.closeInterval c false else w).like (if b then x.closeInterval c false else x) := by
  split
  · exact Work.like_closeInterval h ..
  · exact h

theorem Work.like_addSecond {w x : Work} (h : w.like x) (c : Fin 8) (d : Option Int) :
    (w.addSecond c d).like (x.addSecond c d) := by
  obtain ⟨s, o⟩ := w
  obtain ⟨u, p⟩ := x
  obtain ⟨st, ps, g, fr, pr, e⟩ := h
  dsimp only at e
  have h0 : Work.like ⟨s, o⟩ ⟨u, p⟩ := ⟨st, ps, g, fr, pr, e⟩
  have hi : u.intervals = s.intervals := by rw [e]
  have hs : u.storm = s.storm := by rw [e]
  have ht : u.timebase = s.timebase := by rw [e]
  unfold Work.addSecond
  simp only [hi, hs, ht]
  split
  · exact h0
  · next v hv =>
    have h2 := Work.like_ifClose h0 c ((v.first.any fun f => decide (f.1 ≠ s.storm.state.class)) = true)
    revert h2
    generalize (if (v.first.any fun f => decide (f.1 ≠ s.storm.state.class)) = true then
      (⟨s, o⟩ : Work).closeInterval c false else ⟨s, o⟩) = a
    generalize (if (v.first.any fun f => decide (f.1 ≠ s.storm.state.class)) = true then
      (⟨u, p⟩ : Work).closeInterval c false else ⟨u, p⟩) = b
    intro h2
    obtain ⟨s', o'⟩ := a
    obtain ⟨u', p'⟩ := b
    obtain ⟨_, _, _, _, _, rfl⟩ := h2
    exact Work.like_ifClose (w := ⟨_, o'⟩) (x := ⟨_, p'⟩) ⟨_, _, _, _, _, rfl⟩ ..

theorem State.like_raisePeaks {s t : State} (h : s.like t) (c : Fin 8) (old new : Channel) :
    (s.raisePeaks c old new).like (t.raisePeaks c old new) := by
  unfold State.raisePeaks alarmKinds
  have key : ∀ (s t : State) (k : AlarmKind) (b : Bool), s.like t →
      (if b then s.raisePeak c k (new.value k) else s).like (if b then t.raisePeak c k (new.value k) else t) := by
    rintro s _ k b ⟨_, _, _, _, _, rfl⟩
    cases b <;> exact ⟨_, _, _, _, _, rfl⟩
  exact key _ _ _ _ (key _ _ _ _ (key _ _ _ _ (key _ _ _ _ h)))

theorem Work.like_handResults {w x : Work} (h : w.like x) (before : Tab 8 Channel) (c : Fin 8) :
    (w.handResults before c).like (x.handResults before c) := by
  have hc : x.st.channels = w.st.channels := by
    obtain ⟨_, _, _, _, _, e⟩ := h
    rw [e]
  unfold Work.handResults
  simp only [hc]
  split
  · exact h
  · exact Work.like_addSecond (Work.like_map (Work.like_handChanges h ..) fun _ _ h => State.like_raisePeaks h ..) ..

/-! ## Links, the storm, the test and the windows -/

theorem Work.like_transition {w x : Work} (h : w.like x) (n : Fin 8) (dest : LinkState) (cause : LinkCause) :
    (w.transition n dest cause).like (x.transition n dest cause) := by
  obtain ⟨s, o⟩ := w
  obtain ⟨u, p⟩ := x
  obtain ⟨_, _, _, _, _, rfl⟩ := h
  unfold Work.transition
  dsimp only
  split <;> exact ⟨_, _, _, _, _, rfl⟩

theorem Work.like_retryLink {w x : Work} (h : w.like x) (n : Fin 8) : (w.retryLink n).like (x.retryLink n) := by
  have hl : x.st.links = w.st.links := by
    obtain ⟨_, _, _, _, _, e⟩ := h
    rw [e]
  unfold Work.retryLink
  rw [hl]
  split
  · exact Work.like_transition h ..
  · exact h

theorem Work.like_decideStorm {w x : Work} (h : w.like x) (pulled : Bool) :
    (w.decideStorm pulled).like (x.decideStorm pulled) := by
  obtain ⟨s, o⟩ := w
  obtain ⟨u, p⟩ := x
  obtain ⟨_, _, _, _, _, rfl⟩ := h
  unfold Work.decideStorm
  dsimp only
  split <;> exact ⟨_, _, _, _, _, rfl⟩

theorem Work.like_endTestOn {w x : Work} (h : w.like x) (c : Fin 8) : (w.endTestOn c).like (x.endTestOn c) := by
  have ht : x.st.test = w.st.test := by
    obtain ⟨_, _, _, _, _, e⟩ := h
    rw [e]
  have hc : x.st.channels = w.st.channels := by
    obtain ⟨_, _, _, _, _, e⟩ := h
    rw [e]
  unfold Work.endTestOn
  simp only [ht, hc]
  split
  · exact h
  · exact Work.like_closeInterval
      (Work.like_map (Work.like_setChannel h ..) fun _ _ ⟨_, _, _, _, _, e⟩ => by subst e; exact ⟨_, _, _, _, _, rfl⟩) ..

/-- What the end of a test does once every channel has been put back. -/
theorem State.like_idleTest {s t : State} (h : s.like t) :
    ({ s.notifyAll (·.addTest true) with test := .reset } : State).refreshLines.like
      ({ t.notifyAll (·.addTest true) with test := .reset } : State).refreshLines := by
  obtain ⟨st, ps, g, fr, pr, rfl⟩ := h
  exact ⟨st, _, g, fr, pr, rfl⟩

theorem Work.like_endTest {w x : Work} (h : w.like x) (cause : TestCause) (source : EventSource) :
    (w.endTest cause source).like (x.endTest cause source) := by
  have ht : x.st.test = w.st.test := by
    obtain ⟨_, _, _, _, _, e⟩ := h
    rw [e]
  unfold Work.endTest
  simp only [ht]
  split
  · exact h
  · have hf := Work.like_forEach h (f := Work.endTestOn) (g := Work.endTestOn) fun c _ _ h => Work.like_endTestOn h c
    revert hf
    generalize w.forEach Work.endTestOn = a
    generalize x.forEach Work.endTestOn = b
    intro hf
    exact State.like_idleTest hf

theorem Work.like_countTest {w x : Work} (h : w.like x) : w.countTest.like x.countTest := by
  have ht : x.st.test = w.st.test := by
    obtain ⟨_, _, _, _, _, e⟩ := h
    rw [e]
  have hm : ∀ r, (w.map fun s => { s with test := { s.test with remaining := r } }).like
      (x.map fun s => { s with test := { s.test with remaining := r } }) := fun r =>
    Work.like_map h fun _ _ ⟨_, _, _, _, _, e⟩ => by subst e; exact ⟨_, _, _, _, _, rfl⟩
  unfold Work.countTest
  simp only [ht]
  split
  · exact h
  · split
    · exact Work.like_endTest (hm _) ..
    · exact hm _

theorem Work.like_countWindows (w : Work) : w.like w.countWindows := by
  unfold Work.countWindows
  split
  · split <;> exact ⟨_, _, _, _, _, rfl⟩
  · split <;> exact ⟨_, _, _, _, _, rfl⟩
  · exact State.like_refl _
  · exact State.like_refl _

theorem State.like_closeCommit (s : State) : s.like s.closeCommit := by
  unfold State.closeCommit
  split
  · exact ⟨_, _, _, _, _, rfl⟩
  all_goals exact State.like_refl _

/-! ## The tick -/

/-- The work of a second tick from where a commit's items have left the state. -/
theorem tickHanded_like {s t : State} (pulled : Bool) (h : s.commitStages.like t.commitStages) :
    (tickHanded pulled s).like (tickHanded pulled t) := by
  have hi : (tickInputs s).like (tickInputs t) :=
    Work.like_map
      (Work.like_map
        (Work.like_forEach (w := .start s.commitStages) (x := .start t.commitStages) h fun n _ _ h =>
          Work.like_retryLink h n)
        (State.like_of_frame fun _ _ _ _ _ _ => rfl))
      (State.like_of_frame fun s _ _ _ _ _ => by
        unfold State.supplyTest
        dsimp only
        split <;> rfl)
  have hm : (tickMoved pulled s).like (tickMoved pulled t) :=
    Work.like_map
      (Work.like_decideStorm (Work.like_map hi (State.like_of_frame fun _ _ _ _ _ _ => rfl)) pulled)
      (State.like_of_frame fun _ _ _ _ _ _ => rfl)
  have hc : (tickInputs t).st.channels = (tickInputs s).st.channels := by
    obtain ⟨_, _, _, _, _, e⟩ := hi
    rw [e]
  unfold tickHanded
  rw [hc]
  exact Work.like_map
    (Work.like_map (Work.like_forEach hm fun c _ _ h => Work.like_handResults h _ c)
      (State.like_of_frame fun _ _ _ _ _ _ => rfl))
    (State.like_of_frame fun _ _ _ _ _ _ => rfl)

/-- Two states whose commits leave them alike are alike after the tick. -/
theorem secondTick_like {s t : State} (pulled : Bool) (h : s.commitStages.like t.commitStages) :
    (secondTick pulled s).like (secondTick pulled t) := by
  have hw : (tickCounted pulled s).like (tickCounted pulled t) :=
    State.like_trans (State.like_symm (Work.like_countWindows _))
      (State.like_trans (Work.like_countTest (tickHanded_like pulled h)) (Work.like_countWindows _))
  have hj : (tickCounted pulled s).join.closeCommit.like (tickCounted pulled t).join.closeCommit :=
    State.like_trans (State.like_symm (State.like_closeCommit _))
      (State.like_trans (Work.join_like hw) (State.like_closeCommit _))
  exact State.like_of_frame (f := State.endSecond) (fun _ _ _ _ _ _ => rfl) _ _ hj

/-- A commit tick agrees with the tick from the state that the commit's items leave, once both leave the buffer
EMPTY. -/
theorem secondTick_agrees {s u : State} (pulled : Bool) (h : s.commitStages.like u)
    (hs : (secondTick pulled s).proposal = .empty) (hu : (secondTick pulled u.emptied).proposal = .empty) :
    (secondTick pulled s).agrees (secondTick pulled u.emptied) := by
  refine State.agrees_of_like (secondTick_like pulled (State.like_trans h ?_)) (hs.trans hu.symm)
  exact ⟨u.store, u.ports, u.generation, u.free, .empty, rfl⟩

end Sys2Proof.Machine
end

