-- ==== Sys2Proof/Laws/Inputs.lean ====
section
/-! SUPPORT. What a second tick hands to the Channel Map is what Safety.lean writes out from the rules (R29, R32, R33,
R40 to R43), when no proposal commits at it. -/

namespace Sys2Proof.Machine

/-- The bit that a step of the PRBS register brings in (R43). -/
theorem stepPrbs_newBit (r : BitVec 15) : (stepPrbs r).getLsbD 0 = (r.getLsbD 14 != r.getLsbD 13) := by
  unfold stepPrbs
  cases r.getLsbD 14 != r.getLsbD 13 <;> simp

/-- A test second leaves the plan. -/
theorem TestGen.supply_plan (t : TestGen) (p : TestItem) : (t.supply p).plan = t.plan := by
  unfold TestGen.supply
  cases p.form <;> dsimp only
  split <;> rfl

/-- The value of a test second, form by form (R40 to R43). -/
theorem TestGen.supply_supplied (t : TestGen) (p : TestItem) :
    (t.supply p).supplied =
      match p.form with
      | .level => some p.amplitude
      | .ramp => some t.ramp
      | .square => some (if t.squarePlus then p.amplitude else -p.amplitude)
      | .prbs => some (if t.prbs.getLsbD 14 != t.prbs.getLsbD 13 then p.amplitude else -p.amplitude) := by
  unfold TestGen.supply
  cases p.form <;> dsimp only
  · split <;> rfl
  · rw [stepPrbs_newBit]

/-- No step that retries a link reaches the averagers or the test. -/
theorem Work.retryLinks_inputs (s : State) :
    ((Work.start s).forEach Work.retryLink).st.averagers = s.averagers ∧
      ((Work.start s).forEach Work.retryLink).st.test = s.test := by
  obtain ⟨_, _, h⟩ := Work.forEach_induct (fun x => ∃ l p, x.st = { s with links := l, ports := p })
    Work.retryLink (Work.start s) ⟨_, _, rfl⟩ (fun i x hx => by
      obtain ⟨_, _, hx⟩ := hx
      obtain ⟨l, p, h⟩ := x.retryLink_frame i
      exact ⟨l, p, by rw [h, hx]⟩)
  exact ⟨by rw [h], by rw [h]⟩

/-- An input's value as the Channel Map takes it at a tick that commits nothing. -/
theorem tickInputs_inputValue (s : State) (h : s.uncommitted) (n : Fin 8) :
    (tickInputs s).st.inputValue n = s.secondInput n := by
  have hc : s.commitStages = s := by
    unfold State.uncommitted commits at h
    unfold State.commitStages
    cases hp : s.proposal <;> simp_all
  obtain ⟨ha, ht⟩ := Work.retryLinks_inputs s
  simp only [tickInputs, hc, Work.map_st, State.supplyTest, State.formSeconds_test, ht]
  unfold State.inputValue State.secondInput
  cases hp : s.test.plan with
  | none => simp [State.formSeconds, ha, ht, hp, Averager.formSecond, Averager.value, clampCurrent]
  | some p =>
    cases hf : p.form <;>
      simp only [State.formSeconds, ha, TestGen.supply_plan, TestGen.supply_supplied, hp, hf, Option.any_some,
        nth_tab, Averager.formSecond, Averager.value, clampCurrent, Option.map_some, Option.getD_some]

/-- A channel's second value at a tick that commits nothing. -/
theorem tickInputs_channelValue (s : State) (h : s.uncommitted) (c : Fin 8) :
    channelValue (nth s.settings.map c) (tickInputs s).st.inputValue = s.secondValue c := by
  have hi : (tickInputs s).st.inputValue = s.secondInput := funext (tickInputs_inputValue s h)
  rw [hi]
  rfl

end Sys2Proof.Machine
end

