-- ==== Sys2Proof/Laws/Settings.lean ====
section
/-! SUPPORT. The items of a proposal put in force together, where they are the MAP, ANALYSIS, LEVELS and EXPOSURE items
of one channel and a TEST item, in any order. -/

namespace Sys2Proof.Machine

/-- Putting one value in a place twice is putting it once. -/
theorem put_put {n : Nat} {α : Type} (t : Tab n α) (i : Fin n) (x y : α) : put (put t i x) i y = put t i y :=
  tab_ext fun j => by
    by_cases h : j = i
    · subst h; simp
    · simp [nth_put, Ne.symm h]

/-- Whether an item is one of these: a channel's MAP item, the ones of its other items that are given, and a TEST item. -/
def ofChannel (c : Fin 8) (v : MapItem) (analysis : Option AnalysisItem) (levels : Option LevelsItem)
    (exposure : Option ExposureItem) (test : Option TestItem) (i : Item) : Prop :=
  i = .map c v ∨ (∃ x, analysis = some x ∧ i = .analysis c x) ∨ (∃ x, levels = some x ∧ i = .levels c x) ∨
    (∃ x, exposure = some x ∧ i = .exposure c x) ∨ ∃ x, test = some x ∧ i = .test x

/-- Four settings of a channel put in force. -/
def Settings.onChannel (s : Settings) (c : Fin 8) (m : MapItem) (a : AnalysisItem) (l : LevelsItem) (e : ExposureItem) :
    Settings :=
  { s with map := put s.map c m, analysis := put s.analysis c a, levels := put s.levels c l
           exposure := put s.exposure c e }

variable {c : Fin 8} {v : MapItem} {analysis : Option AnalysisItem} {levels : Option LevelsItem}
  {exposure : Option ExposureItem} {test : Option TestItem}

/-- Items of a channel leave every setting but its own four, and each of these holds the item's value or what it held. -/
theorem Settings.applyAll_ofChannel (items : List Item) (s : Settings)
    (h : ∀ i ∈ items, ofChannel c v analysis levels exposure test i) :
    ∃ m a l e, s.applyAll items = s.onChannel c m a l e ∧
      (m = v ∨ m = nth s.map c ∧ Item.map c v ∉ items) ∧
      (analysis = some a ∨ a = nth s.analysis c ∧ ∀ x, Item.analysis c x ∉ items) ∧
      ((∃ x, levels = some x ∧ l = x.clamped) ∨ l = nth s.levels c ∧ ∀ x, Item.levels c x ∉ items) ∧
      (exposure = some e ∨ e = nth s.exposure c ∧ ∀ x, Item.exposure c x ∉ items) := by
  induction items generalizing s with
  | nil =>
    exact ⟨_, _, _, _, by simp [applyAll, onChannel], .inr ⟨rfl, by simp⟩, .inr ⟨rfl, by simp⟩,
      .inr ⟨rfl, by simp⟩, .inr ⟨rfl, by simp⟩⟩
  | cons i rest ih =>
    obtain ⟨m, a, l, e, hs, hm, ha, hl, he⟩ := ih (s.apply i) fun j hj => h j (List.mem_cons_of_mem _ hj)
    refine ⟨m, a, l, e, ?_, ?_⟩
    · rw [show s.applyAll (i :: rest) = (s.apply i).applyAll rest from rfl, hs]
      obtain rfl | ⟨x, -, rfl⟩ | ⟨x, -, rfl⟩ | ⟨x, -, rfl⟩ | ⟨x, -, rfl⟩ := h i List.mem_cons_self <;>
        simp [onChannel, apply, put_put]
    · obtain rfl | ⟨x, hx, rfl⟩ | ⟨x, hx, rfl⟩ | ⟨x, hx, rfl⟩ | ⟨x, hx, rfl⟩ := h i List.mem_cons_self <;>
        simp_all [apply] <;> grind

/-- The settings after the items of a channel, each given one among them. -/
theorem Settings.applyAll_eq {items : List Item} (s : Settings)
    (h : ∀ i, i ∈ items ↔ ofChannel c v analysis levels exposure test i) :
    s.applyAll items = s.onChannel c v (analysis.getD (nth s.analysis c))
      ((levels.map LevelsItem.clamped).getD (nth s.levels c)) (exposure.getD (nth s.exposure c)) := by
  obtain ⟨m, a, l, e, hs, hm, ha, hl, he⟩ := applyAll_ofChannel items s fun i hi => (h i).1 hi
  rw [hs]
  congr 1
  · exact hm.resolve_right fun k => k.2 ((h _).2 (.inl rfl))
  · cases analysis with
    | none => exact (ha.resolve_left nofun).1
    | some x => exact (Option.some.inj (ha.resolve_right fun k => k.2 x ((h _).2 (.inr (.inl ⟨x, rfl, rfl⟩))))).symm
  · cases levels with
    | none => exact (hl.resolve_left fun ⟨_, k, _⟩ => nomatch k).1
    | some x =>
      obtain ⟨y, hy, rfl⟩ := hl.resolve_right fun k => k.2 x ((h _).2 (.inr (.inr (.inl ⟨x, rfl, rfl⟩))))
      cases hy
      rfl
  · cases exposure with
    | none => exact (he.resolve_left nofun).1
    | some x =>
      exact (Option.some.inj (he.resolve_right fun k => k.2 x ((h _).2 (.inr (.inr (.inr (.inl ⟨x, rfl, rfl⟩))))))).symm

/-- The TEST item among them. -/
theorem testItem_eq {items : List Item} (h : ∀ i, i ∈ items ↔ ofChannel c v analysis levels exposure test i) :
    testItem items = test := by
  have hall : ∀ items : List Item, (∀ i ∈ items, ofChannel c v analysis levels exposure test i) →
      testItem items = none ∧ (∀ x, Item.test x ∉ items) ∨ testItem items = test := by
    intro items
    induction items with
    | nil => exact fun _ => .inl ⟨rfl, by simp⟩
    | cons i rest ih =>
      intro k
      have hr := ih fun j hj => k j (List.mem_cons_of_mem _ hj)
      obtain rfl | ⟨x, hx, rfl⟩ | ⟨x, hx, rfl⟩ | ⟨x, hx, rfl⟩ | ⟨x, hx, rfl⟩ := k i List.mem_cons_self <;>
        simp_all [testItem]
  cases test with
  | none =>
    rcases hall items fun i hi => (h i).1 hi with k | k
    · exact k.1
    · exact k
  | some x =>
    rcases hall items fun i hi => (h i).1 hi with k | k
    · exact absurd ((h _).2 (.inr (.inr (.inr (.inr ⟨x, rfl, rfl⟩))))) (k.2 x)
    · exact k

end Sys2Proof.Machine
end

