-- ==== Sys2Proof/Tests/Slice0.lean ====
section
/-! SUPPORT. Tests of the model, each about one step at most, with expected results from the manual's own tables and
worked sequences or from hand calculation by its rules; and, for every statement of
Certificates/Slice0/Obligations.lean that has hypotheses, a witness that meets them. -/

namespace Sys2Proof.Tests

-- One theorem after another: each is one kernel evaluation, and all at once they hold too many threads.
set_option Elab.async false

open Sys2Proof Sys2Proof.Machine

/-! ## Helpers -/

/-- The state a command leaves. -/
def after (o : Host.Outcome State Fault Refusal) : State :=
  match o with
  | .next t => t
  | .fault _ | .refused _ => State.reset

/-- One link changed. -/
def onLink (s : State) (n : Fin 8) (f : Link → Link) : State := { s with links := upd s.links n f }

/-- One channel changed. -/
def onChannel (s : State) (c : Fin 8) (f : Channel → Channel) : State := { s with channels := upd s.channels c f }

/-- An input whose second holds one whole cycle of samples of this value. -/
def averaging (s : State) (n : Fin 8) (v : Int) : State :=
  { s with averagers := upd s.averagers n fun a => { a with sum := 16 * v, n := 1 } }

/-- A frame of this index in flight. -/
def inFlight (index : Fin 16) : InFlight := { index, current := true, abandoned := false }

/-- A link in a state with a frame in flight. -/
def waiting (s : State) (n : Fin 8) (state : LinkState) (index : Fin 16) : State :=
  onLink s n fun l => { l with state, inFlight := some (inFlight index) }

/-- A test plan on input 0. -/
def plan (form : TestForm) : TestItem :=
  { inputs := 1, form, amplitude := 1000, slope := 500, halfPeriod := 2, seed := 1, duration := 5 }

/-- A test running on input 0, channel 0 in TEST. -/
def testing (form : TestForm) (remaining : Nat) : State :=
  { onChannel State.reset 0 Channel.enterTest with
    test := { plan := some (plan form), remaining, ramp := 1000, squareCount := 1, squarePlus := true, prbs := 1
              supplied := none, snapshots := put (tab fun _ => none) 0 (some Channel.reset.snapshot) } }

/-- The frame of Section 12.4: the sample +1, OVR, MARK and WBIT clear, ADDR 2. -/
def goodFrame : BitVec 32 := 0x000042C9

/-! ## The well-formedness checks -/

theorem test_short_item_refused : (Instr.draftItem .a 0 0 [1, 2, 3, 4]).wellFormed = false := by decide +kernel

theorem test_long_item_refused : (Instr.draftItem .a 4 0 [1, 2, 3]).wellFormed = false := by decide +kernel

theorem test_overlong_unknown_item_refused :
    (Instr.draftItem .a 14 0 (List.replicate 249 0)).wellFormed = false := by decide +kernel

theorem test_unknown_item_taken : (Instr.draftItem .a 14 0 (List.replicate 248 0)).wellFormed = true := by
  decide +kernel

/-- A whole NOP frame carries a request, so no frame error can stand for it. -/
theorem test_whole_frame_is_no_error : (Instr.frameError .a (bitsOf (frameOf 0 []))).wellFormed = false := by
  decide +kernel

theorem test_cut_frame_is_error : (Instr.frameError .a (bitsOf [0, 0, 0])).wellFormed = true := by decide +kernel

/-! ## Frames (R2, R194, R195) -/

/-- CRC-16 of the manual's definition over the bytes of "123456789": the known check value of this CRC. -/
theorem test_crc16_check : crc16 [0x31, 0x32, 0x33, 0x34, 0x35, 0x36, 0x37, 0x38, 0x39] = 0x29B1 := by decide +kernel

/-- SEEK of ring 8 to sequence 258: code 17, five argument bytes, high byte first. -/
theorem test_seek_frame :
    judgeFrame .b false
        ([0x11, 0x05, 0x08, 0x00, 0x00, 0x01, 0x02] ++ bytes2 (crc16 [0x11, 0x05, 0x08, 0x00, 0x00, 0x01, 0x02]))
      = .request (.seek .b 8 258) := by decide +kernel

/-- ACKNOWLEDGE with the entry mask {16, 17}: code 7, selector 0, mask 00 03 00 00. -/
theorem test_acknowledge_frame :
    judgeFrame .a false
        ([0x07, 0x05, 0x00, 0x00, 0x03, 0x00, 0x00] ++ bytes2 (crc16 [0x07, 0x05, 0x00, 0x00, 0x03, 0x00, 0x00]))
      = .request (.acknowledge .a 0 0x00030000) := by decide +kernel

/-- Section 12.4: the frame is judged good on input 2 and bad on any other address. -/
theorem test_frame_check : classify 2 goodFrame = .good ∧ classify 3 goodFrame = .bad ∧ frameSample goodFrame = 1 := by
  decide +kernel

theorem test_undriven_line_is_absent : classify 2 0xFFFFFFFF = .absent := by decide +kernel

/-! ## Ticks and links -/

/-- A frame tick at index 5 after reset: a frame of that index requested, no frame-0 mark (R1). -/
theorem test_frame_tick :
    (nth (after (exec .frameTick { State.reset with
      timebase := { State.reset.timebase with frameCounter := 5 } })).links 3).inFlight = some (inFlight 5) := by
  decide +kernel

/-- The second whole cycle in a row locks the link (R6). -/
theorem test_link_locks :
    (nth (after (exec (.frameArrival 2 goodFrame)
      (onLink State.reset 2 fun l =>
        { l with inFlight := some (inFlight 15), cycleGood := 15, goodCycles := 1 }))).links 2).state
      = .locked := by decide +kernel

/-- Sixteen absent frames lose the link, cause SILENT (R5). -/
theorem test_link_lost_silent :
    (after (exec (.frameArrival 2 0xFFFFFFFF)
      (onLink (waiting State.reset 2 .locked 4) 2 fun l => { l with badRun := 15 }))).store.queue.getLast?
      = some { ring := 8, record := .event ⟨0, .input 2, .link 2 .locked .lost .silent, 0⟩ } := by decide +kernel

/-! ## The storm onset of Sections 4.9 and 6.8, its second stamped 14,203 -/

/-- The state before that tick: channels 4, 6 and 7 as the tables give them. -/
def onset : State :=
  let s := { State.reset with timebase := { State.reset.timebase with time := 14203 } }
  let s := onChannel s 4 fun c =>
    { c with bAcc := 7864800, eAcc := 512000, x := 1000, conds := { c.conds with excursion := true, warn := true } }
  let s := onChannel s 6 fun c => { c with bAcc := 5599, eAcc := 64000 }
  let s := onChannel s 7 fun c => { c with bAcc := -2620001, eAcc := 17920 }
  let s := averaging (averaging (averaging s 4 6120) 6 900) 7 60
  { s with alarms := upd s.alarms 16 fun e => { e with state := .raised, raises := 1, peak := 2000 } }

def onsetAfter : State := after (exec (.secondTick false) onset)

theorem test_onset_channel4 :
    (nth onsetAfter.channels 4).eAcc = 1536000 ∧ (nth onsetAfter.channels 4).x = 6000 ∧
      (nth onsetAfter.channels 4).bAcc = 7864800 ∧ (nth onsetAfter.channels 4).conds.alarm = true := by decide +kernel

theorem test_onset_channel6 :
    (nth onsetAfter.channels 6).eAcc = 230400 ∧ (nth onsetAfter.channels 6).bAcc = 5599 ∧
      (nth onsetAfter.channels 6).conds.excursion = true ∧ (nth onsetAfter.channels 6).conds.warn = false := by
  decide +kernel

theorem test_onset_channel7 :
    (nth onsetAfter.channels 7).eAcc = 25600 ∧ (nth onsetAfter.channels 7).bAcc = -2620001 := by decide +kernel

theorem test_onset_storm :
    onsetAfter.storm.state = .storm ∧ onsetAfter.storm.nExc = 2 ∧ onsetAfter.storm.pull = true := by decide +kernel

theorem test_onset_entries :
    (nth onsetAfter.alarms 16).peak = 6000 ∧ (nth onsetAfter.alarms 17).state = .raised ∧
      (nth onsetAfter.alarms 17).peak = 6000 := by decide +kernel

theorem test_onset_lines :
    (nth onsetAfter.lines 0).pin = true ∧ (nth onsetAfter.lines 1).pin = true ∧
      (nth onsetAfter.lines 2).pin = false ∧ (nth onsetAfter.lines 3).pin = true := by decide +kernel

/-! ## Witnesses: the queue, links and cycles -/

/-- A port with nothing of a batch in its due reply, and its transfer not ignored. -/
theorem plain_of {s : State} {p : PortId} (ht : (s.port p).transfer ≠ .ignored)
    (hb : (match (s.port p).due.body with
      | .batch _ _ => false
      | _ => true) = true) : s.plain p := by
  refine ⟨ht, fun b k h => ?_⟩
  rw [h] at hb
  exact Bool.noConfusion hb

theorem plain_reset (p : PortId) : State.reset.plain p := by cases p <;> exact plain_of (by decide) rfl

theorem witness_IdleStepRunsClock : State.reset.pending = [] := rfl

/-- A locked link with a command loaded, at a given frame index, and no frame in flight. -/
def commanding (index : Fin 16) (sending : Bool) : State :=
  onLink { State.reset with timebase := { State.reset.timebase with frameCounter := index } } 0 fun l =>
    { l with state := .locked, command := some .zero, sending }

theorem witness_FrameTickRequests :
    (∀ n, (nth State.reset.links n).inFlight = none) ∧ State.reset.timebase.frameCounter = 0 ∧
      (∀ n, (nth (commanding 15 true).links n).inFlight = none) ∧ (commanding 15 true).timebase.frameCounter = 15 ∧
      (∀ n, (nth (commanding 5 true).links n).inFlight = none) ∧ (nth (commanding 5 true).links 0).sending = true := by
  decide +kernel

/-- A frame of 32 ones arrives on every input, one of them with a frame in flight. -/
theorem witness_FrameTickRequests_inFlight :
    (∀ n : Fin 8, ∃ t, exec (.frameArrival n 0xFFFFFFFF#32) (waiting State.reset 2 .locked 15) = .next t) ∧
      (nth (waiting State.reset 2 .locked 15).links 2).inFlight = some (inFlight 15) :=
  ⟨fun _ => ⟨_, rfl⟩, by decide +kernel⟩

theorem witness_HeadCommandGoesOut_start :
    (∀ m, (nth (commanding 0 false).links m).inFlight = none) ∧ (nth (commanding 0 false).links 0).state = .locked ∧
      (nth (commanding 0 false).links 0).command = some .zero ∧ (commanding 0 false).timebase.frameCounter = 0 ∧
      (nth (commanding 0 false).links 0).sending = false := by decide +kernel

theorem witness_HeadCommandGoesOut_sent :
    (∀ m, (nth (commanding 15 true).links m).inFlight = none) ∧ (nth (commanding 15 true).links 0).state = .locked ∧
      (nth (commanding 15 true).links 0).command = some .zero ∧ (commanding 15 true).timebase.frameCounter = 15 ∧
      (nth (commanding 15 true).links 0).sending = true ∧
      (∀ m, m ≠ 0 → (nth (commanding 15 true).links m).command = none) ∧
      (commanding 15 true).store.queue.length < 64 := by decide +kernel

/-- A link one bad frame short of its end, its run so far absent. -/
def failing (state : LinkState) (index : Fin 16) (badRun : Nat) : State :=
  onLink (waiting State.reset 2 state index) 2 fun l => { l with badRun }

theorem witness_BadRunLosesLink :
    (nth (failing .locked 15 15).links 2).state = .locked ∧ (nth (failing .slipped 0 15).links 2).state = .slipped ∧
      (nth (failing .locked 15 15).links 2).inFlight = some (inFlight 15) ∧
      classify (nth (failing .locked 15 15).settings.link 2).address 0xFFFFFFFF ≠ .good ∧
      (nth (failing .locked 15 15).links 2).badRun = 15 ∧ (failing .locked 15 15).store.queue.length ≤ 62 := by
  decide +kernel

theorem witness_BadRunLosesLink_short :
    (nth (failing .locked 14 14).links 2).state = .locked ∧ (nth (failing .locked 14 14).links 2).badRun ≤ 15 ∧
      (nth (failing .locked 14 14).links 2).badRun ≠ 15 ∧
      (nth (failing .locked 14 14).links 2).inFlight = some (inFlight 14) ∧ (inFlight 14).index ≠ 15 ∧
      classify (nth (failing .locked 14 14).settings.link 2).address 0 ≠ .good := by decide +kernel

theorem witness_MarkOutOfPlaceSlips :
    (nth (waiting State.reset 2 .locked 0).links 2).state = .locked ∧
      (nth (waiting State.reset 2 .locked 0).links 2).inFlight = some (inFlight 0) ∧
      classify (nth (waiting State.reset 2 .locked 0).settings.link 2).address goodFrame = .good ∧
      frameMark goodFrame ≠ ((inFlight 0).index == 0) ∧
      (waiting State.reset 2 .locked 0).store.queue.length ≤ 62 := by decide +kernel

theorem witness_SampleAndCycle : (nth (waiting State.reset 2 .locked 15).links 2).inFlight = some (inFlight 15) := by
  decide +kernel

/-- Good frames of index 4 in the three states that are requested, and an absent one in SEEKING. -/
theorem witness_SampleAndCycle_link :
    (inFlight 4).index ≠ 15 ∧ frameMark goodFrame = ((inFlight 4).index == 0) ∧
      (∀ state ∈ [LinkState.seeking, .slipped, .locked],
        (nth (waiting State.reset 2 state 4).links 2).inFlight = some (inFlight 4) ∧
          (nth (waiting State.reset 2 state 4).links 2).state = state) ∧
      classify (nth State.reset.settings.link 2).address goodFrame = .good ∧
      classify (nth State.reset.settings.link 2).address 0xFFFFFFFF ≠ .good := by decide +kernel

/-- The same with a frame of an abandoned cycle at index 15. -/
theorem witness_SampleAndCycle_abandoned :
    (nth (onLink State.reset 2 fun l => { l with
      inFlight := some { index := 15, current := true, abandoned := true } }).links 2).inFlight =
        some { index := 15, current := true, abandoned := true } := by decide +kernel

/-- A link at the last frame of a cycle, with its counts. -/
def cycling (state : LinkState) (cycleGood goodCycles slipCycles : Nat) : State :=
  onLink (waiting State.reset 2 state 15) 2 fun l => { l with cycleGood, goodCycles, slipCycles }

theorem witness_WholeCyclesLock :
    (nth (cycling .seeking 15 1 0).links 2).state = .seeking ∧
      (nth (cycling .slipped 15 1 7).links 2).state = .slipped ∧
      (nth (cycling .slipped 15 0 7).links 2).slipCycles = 7 ∧ (nth (cycling .seeking 14 1 0).links 2).cycleGood = 14 ∧
      (nth (cycling .seeking 15 1 0).links 2).inFlight = some (inFlight 15) ∧ (inFlight 15).abandoned = false ∧
      (inFlight 15).current = true ∧ (nth (cycling .seeking 15 1 0).links 2).cycleGood ≤ 15 ∧
      true = decide (classify (nth (cycling .seeking 15 1 0).settings.link 2).address goodFrame = .good) ∧
      true = (true && (inFlight 15).current && !frameMark goodFrame &&
        (nth (cycling .seeking 15 1 0).links 2).cycleGood == 15) ∧
      (cycling .seeking 15 1 0).store.queue.length ≤ 63 := by decide +kernel

/-- An absent frame 15 at the eighth cycle end in SLIPPED, and at one in SEEKING. -/
theorem witness_WholeCyclesLock_absent :
    false = decide (classify (nth (cycling .slipped 15 1 7).settings.link 2).address 0xFFFFFFFF = .good) ∧
      (nth (cycling .slipped 15 1 7).links 2).badRun ≤ 14 ∧ 7 ≤ (nth (cycling .slipped 15 1 7).links 2).slipCycles ∧
      (nth (cycling .slipped 15 1 6).links 2).slipCycles = 6 ∧
      (nth (cycling .seeking 15 1 0).links 2).goodCycles = 1 := by decide +kernel

theorem witness_HeadWordJudged :
    (nth (cycling .locked 15 0 0).links 2).state = .locked ∧
      (nth (cycling .locked 15 0 0).links 2).inFlight = some (inFlight 15) ∧ (inFlight 15).index = 15 ∧
      (inFlight 15).current = true ∧ (inFlight 15).abandoned = false ∧
      true = decide (classify (nth (cycling .locked 15 0 0).settings.link 2).address goodFrame = .good) ∧
      frameMark goodFrame = false ∧ (nth (cycling .locked 15 0 0).links 2).cycleGood = 15 ∧
      (nth (cycling .locked 15 0 0).links 2).counterRef = none ∧
      (nth (cycling .locked 14 0 0).links 2).cycleGood = 14 := by decide +kernel

/-- A bad frame 15 that leaves the bad run at 15. -/
theorem witness_HeadWordJudged_bad :
    false = decide (classify (nth (failing .locked 15 14).settings.link 2).address 0 = .good) ∧
      (nth (failing .locked 15 14).links 2).badRun ≤ 14 ∧ (nth (failing .locked 15 14).links 2).state = .locked ∧
      (nth (failing .locked 15 14).links 2).cycleGood ≤ 15 := by decide +kernel

/-- A locked link whose zeroing is pending and whose cycle ends with a word that shows ZEROING clear. -/
def zeroing : State := onLink (cycling .locked 15 0 0) 2 fun l => { l with zeroPending := true }

theorem witness_ZeroingEnds :
    (nth zeroing.links 2).state = .locked ∧ (nth zeroing.links 2).inFlight = some (inFlight 15) ∧
      classify (nth zeroing.settings.link 2).address goodFrame = .good ∧ (nth zeroing.links 2).cycleGood = 15 ∧
      (nth zeroing.links 2).zeroPending = true ∧
      wordZeroing (((nth zeroing.links 2).wbits <<< 1) ||| (if frameWbit goodFrame then 1#16 else 0#16)) = false ∧
      ((nth zeroing.links 2).counterRef.all fun r =>
        wordCounter (((nth zeroing.links 2).wbits <<< 1) ||| (if frameWbit goodFrame then 1#16 else 0#16)) == r + 1)
        = true ∧
      zeroing.store.loss = 0 ∧ zeroing.store.queue.length ≤ 31 := by decide +kernel

/-- The same link, with an agreed MAP item for channel 2. -/
def zeroingAgreed : State :=
  { zeroing with
    proposal := .committing .a none [.map 2 { enabled := true, primary := 2, secondary := some (3, true) }] }

theorem witness_ZeroingEnds_agreed :
    nth (zeroingAgreed.settings.applyAll zeroingAgreed.proposal.items).map 2 ≠ nth zeroingAgreed.settings.map 2 ∧
      (nth zeroingAgreed.settings.map 2).uses 2 = true ∧ (nth zeroingAgreed.links 2).zeroPending = true := by
  decide +kernel

/-- A state in which an end of zeroing under LEARN lets the WARN condition of channel 2 fall, its entry RAISED. -/
def relearning : State :=
  { onChannel zeroing 2 fun c => { c with conds := { c.conds with warn := true } } with
    settings := { State.reset.settings with
      analysis := upd State.reset.settings.analysis 2 fun a => { a with startMode := .learn } }
    alarms := upd State.reset.alarms 8 fun e => { e with state := .raised } }

theorem witness_ZeroingEnds_entries :
    (nth relearning.links 2).zeroPending = true ∧ relearning.store.loss = 0 ∧ relearning.store.queue.length ≤ 31 ∧
      (nth (after (exec (.frameArrival 2 goodFrame) relearning)).alarms (entryOf 2 .warn)).state ≠
        (nth relearning.alarms (entryOf 2 .warn)).state := by decide +kernel

theorem witness_LinkTransitionsAllowed :
    (∀ solo, Instr.frameTick ≠ .powerOnReset solo) ∧ ∃ t, exec .frameTick State.reset = .next t :=
  ⟨fun _ h => (nomatch h), _, rfl⟩

/-! ## Witnesses: the second tick -/

theorem uncommitted_reset : State.reset.uncommitted := rfl

theorem witness_InputSecondFormed : State.reset.uncommitted ∧ (nth State.reset.links 3).state ≠ .lost :=
  ⟨uncommitted_reset, by decide +kernel⟩

theorem witness_PresentSecond :
    (averaging State.reset 0 10).uncommitted ∧ (averaging State.reset 0 10).testGoesOn ∧
      (nth (averaging State.reset 0 10).channels 0).state = .armed ∧
      (averaging State.reset 0 10).secondValue 0 = some 10 := ⟨rfl, .inl rfl, by decide +kernel, by decide +kernel⟩

theorem witness_PresentSecond_test :
    (testing .level 2).uncommitted ∧ (testing .level 2).testGoesOn ∧
      (nth (testing .level 2).channels 0).state = .test ∧ (testing .level 2).secondValue 0 = some 1000 :=
  ⟨rfl, .inr (by decide), by decide +kernel, by decide +kernel⟩

/-- Channel 0 in a state, with a present second of 10. -/
def presenting (f : Channel → Channel) : State := onChannel (averaging State.reset 0 10) 0 f

theorem witness_PresentSecond_stale :
    (nth (presenting fun c => { c with state := .stale }).channels 0).state = .stale ∧
      (nth (presenting fun c => { c with state := .stale }).channels 0).left = .armed ∧
      (presenting fun c => { c with state := .stale }).secondValue 0 = some 10 := by decide +kernel

theorem witness_LearningSecond :
    (presenting fun c => { c with state := .learning, learned := 63 }).uncommitted ∧
      (presenting fun c => { c with state := .learning, learned := 63 }).testGoesOn ∧
      (nth (presenting fun c => { c with state := .learning, learned := 63 }).channels 0).state = .learning ∧
      63 ≤ (nth (presenting fun c => { c with state := .learning, learned := 63 }).channels 0).learned ∧
      (presenting fun c => { c with state := .learning, learned := 63 }).secondValue 0 = some 10 :=
  ⟨rfl, .inl rfl, by decide +kernel, by decide +kernel, by decide +kernel⟩

theorem witness_LearningSecond_stale :
    (nth (presenting fun c => { c with state := .stale, left := .learning, learned := 62 }).channels 0).state = .stale ∧
      (nth (presenting fun c => { c with state := .stale, left := .learning, learned := 62 }).channels 0).left
        = .learning ∧
      (presenting fun c => { c with state := .stale, left := .learning, learned := 62 }).secondValue 0 = some 10 := by
  decide +kernel

/-- The fifth absent second in a row is at the power-on stale limit. -/
theorem witness_AbsentSecond :
    (onChannel State.reset 0 fun c => { c with absence := 4 }).uncommitted ∧
      (onChannel State.reset 0 fun c => { c with absence := 4 }).testGoesOn ∧
      (nth (onChannel State.reset 0 fun c => { c with absence := 4 }).channels 0).state ≠ .disabled ∧
      (onChannel State.reset 0 fun c => { c with absence := 4 }).secondValue 0 = none ∧
      (nth State.reset.settings.analysis 0).staleLimit = 5 :=
  ⟨rfl, .inl rfl, by decide +kernel, by decide +kernel, by decide +kernel⟩

theorem witness_EntriesFollowConditions :
    onset.uncommitted ∧ onset.testGoesOn ∧ (nth onset.channels 4).conds.alarm = false ∧
      (nth onsetAfter.channels 4).conds.alarm = true ∧ (nth onsetAfter.alarms 17).state ≠ (nth onset.alarms 17).state :=
  ⟨rfl, .inl rfl, by decide +kernel, by decide +kernel, by decide +kernel⟩

/-- The onset with an empty queue: the storm state changes. -/
def onsetQuiet : State := { onset with store := { onset.store with queue := [] } }

theorem witness_StormDecided :
    onsetQuiet.uncommitted ∧ onsetQuiet.testGoesOn ∧ onsetQuiet.store.queue = [] ∧ onsetQuiet.store.loss = 0 ∧
      (after (exec (.secondTick false) onsetQuiet)).storm.state ≠ onsetQuiet.storm.state :=
  ⟨rfl, .inl rfl, rfl, rfl, by decide +kernel⟩

/-- The last second of a tail, every second absent. -/
def tailing : State := { State.reset with storm := { Storm.reset with state := .tail, tail := 1 } }

theorem witness_StormDecided_tail :
    tailing.uncommitted ∧ tailing.storm.state = .tail ∧ tailing.storm.tail ≤ 1 ∧
      1 ≤ tailing.settings.station.stormCount ∧
      ∀ c, (nth tailing.channels c).conds.excursion = false ∧ tailing.secondValue c = none :=
  ⟨rfl, rfl, by decide, by decide, by decide +kernel⟩

/-- The same tail with channel 0 present at 10, below its threshold. -/
theorem witness_StormDecided_present :
    (averaging tailing 0 10).secondValue 0 = some 10 ∧
      (nth (averaging tailing 0 10).channels 0).conds.excursion = false ∧
      (nth (averaging tailing 0 10).channels 0).eAcc = 0 ∧ (nth (averaging tailing 0 10).settings.levels 0).excT = 300 ∧
      (averaging tailing 0 10).storm.state = .tail ∧
      (after (exec (.secondTick false) (averaging tailing 0 10))).storm.state = .quiet := by decide +kernel

theorem witness_TestSupplies (form : TestForm) :
    (testing form 2).uncommitted ∧ (testing form 2).test.plan = some (plan form) ∧ 2 ≤ (testing form 2).test.remaining ∧
      (plan form).form = form := ⟨rfl, rfl, Nat.le_refl 2, rfl⟩

theorem witness_TestSupplies_expires :
    (testing .ramp 1).uncommitted ∧ (testing .ramp 1).test.plan = some (plan .ramp) ∧
      (testing .ramp 1).test.remaining ≤ 1 ∧ nth (testing .ramp 1).test.snapshots 0 = some Channel.reset.snapshot ∧
      (nth (testing .ramp 1).channels 0).state = .test := ⟨rfl, rfl, Nat.le_refl 1, by decide +kernel, by decide +kernel⟩

/-- The last test second with no ring for channel 0, so that the end of the test hands over one record. -/
def expiring : State :=
  { testing .ramp 1 with
    settings := { State.reset.settings with partition := put State.reset.settings.partition 0 0 } }

theorem witness_TestSupplies_event :
    expiring.uncommitted ∧ expiring.test.plan = some (plan .ramp) ∧ expiring.test.remaining ≤ 1 ∧
      expiring.store.loss = 0 ∧ (after (exec (.secondTick false) expiring)).store.queue.length < 64 :=
  ⟨rfl, rfl, by decide, rfl, by decide +kernel⟩

/-- A state with a proposal, and an empty queue. -/
def proposing (proposal : Proposal) : State :=
  { State.reset with proposal, number := 7, store := { Store.reset with queue := [] } }

theorem witness_ProposalWindows :
    (proposing (.draft .a [.clear] 1)).proposal = .draft .a [.clear] 1 ∧
      (proposing (.posted .a [.clear] 2)).proposal = .posted .a [.clear] 2 ∧
      (proposing (.draft .a [.clear] 1)).testGoesOn ∧ (proposing (.draft .a [.clear] 1)).store.queue = [] ∧
      (proposing (.draft .a [.clear] 1)).store.loss = 0 := ⟨rfl, rfl, .inl rfl, rfl, rfl⟩

theorem witness_CommitCloses :
    (proposing (.committing .a (some .b) [.clear])).proposal = .committing .a (some .b) [.clear] ∧
      ([Item.clear].map Item.name).Nodup ∧
      ((10 : Byte).toNat, (0 : Byte).toNat) ∉ [Item.clear].map Item.name := ⟨rfl, by decide, by decide⟩

/-- The MAP item that disables channel 3. -/
def disabling : MapItem := { enabled := false, primary := 3, secondary := none }

theorem witness_MapCommit :
    (proposing (.committing .a none [.map 3 disabling])).proposal = .committing .a none [.map 3 disabling] ∧
      disabling.enabled = false ∧
      nth (proposing (.committing .a none [.map 3 disabling])).settings.map 3 ≠ disabling ∧
      (proposing (.committing .a none [.map 3 disabling])).store.loss = 0 ∧
      (proposing (.committing .a none [.map 3 disabling])).store.queue.length ≤ 59 ∧
      ∀ i, i ∈ [Item.map 3 disabling] ↔ ofChannel 3 disabling none none none none i :=
  ⟨rfl, rfl, by decide +kernel, rfl, by decide, by simp [ofChannel]⟩

/-- The MAP item among a TEST item and the ANALYSIS item of its channel. -/
theorem witness_MapCommit_among (a : AnalysisItem) (i : Item) :
    i ∈ [.test (plan .ramp), .map 3 disabling, .analysis 3 a] ↔
      ofChannel 3 disabling (some a) none none (some (plan .ramp)) i := by
  simp [ofChannel]
  grind

/-- A MAP item for a channel in TEST, with an open interval that holds a second. -/
def remapping : State :=
  { testing .level 3 with
    proposal := .committing .a none [.map 0 { enabled := true, primary := 0, secondary := some (1, false) }]
    intervals := upd State.reset.intervals 0 (·.map fun v => { v with length := 1 })
    store := { Store.reset with queue := [] } }

theorem witness_MapCommit_enabled :
    remapping.proposal = .committing .a none [.map 0 { enabled := true, primary := 0, secondary := some (1, false) }] ∧
      nth remapping.settings.map 0 ≠ { enabled := true, primary := 0, secondary := some (1, false) } ∧
      (nth remapping.intervals 0).any (fun i => i.length != 0) = true ∧ remapping.settings.ringSize 0 ≠ 0 :=
  ⟨rfl, by decide +kernel, by decide +kernel, by decide +kernel⟩

/-- A LOST link, and an empty queue. -/
def lost : State := onLink (proposing .empty) 6 fun l => { l with state := .lost }

theorem witness_LinkCommit_retry :
    lost.uncommitted ∧ (nth lost.links 6).state = .lost ∧ lost.testGoesOn ∧ lost.store.queue = [] ∧
      lost.store.loss = 0 := ⟨rfl, by decide +kernel, .inl rfl, rfl, rfl⟩

/-- A LOCKED link with a command loaded, and an agreed LINK item with a new address for it. -/
def readdressing : State :=
  { commanding 5 false with proposal := .committing .a none [.link 0 { enabled := true, address := 6 }] }

theorem witness_LinkCommit :
    readdressing.proposal = .committing .a none [.link 0 { enabled := true, address := 6 }] ∧
      (nth readdressing.settings.link 0).address ≠ 6 ∧ (nth readdressing.links 0).state = .locked ∧
      (nth readdressing.links 0).command = some .zero ∧ readdressing.store.queue.length ≤ 62 :=
  ⟨rfl, by decide +kernel, by decide +kernel, by decide +kernel, by decide⟩

/-- The same link with an agreed LINK item that disables its input. -/
def silencing : State :=
  { readdressing with proposal := .committing .a none [.link 0 { enabled := false, address := 0 }] }

theorem witness_LinkCommit_disabling :
    silencing.proposal = .committing .a none [.link 0 { enabled := false, address := 0 }] ∧
      (nth silencing.links 0).state ≠ .off ∧ (nth silencing.links 0).command = some .zero ∧
      silencing.store.queue.length ≤ 62 := ⟨rfl, by decide +kernel, by decide +kernel, by decide⟩

theorem witness_TestStarted :
    (proposing (.committing .a none [.test (plan .prbs)])).proposal = .committing .a none [.test (plan .prbs)] ∧
      (proposing (.committing .a none [.test (plan .prbs)])).test.plan = none ∧
      (proposing (.committing .a none [.test (plan .prbs)])).store.loss = 0 ∧
      (proposing (.committing .a none [.test (plan .prbs)])).store.queue.length ≤ 47 := ⟨rfl, rfl, rfl, by decide⟩

/-- A lowered exposure limit agreed for channel 0, whose interval holds a second. -/
def lowering : State :=
  { remapping with proposal := .committing .a none [.exposure 0 { knee := 0, cooling := 0, limit := 1 }] }

theorem witness_SettingsCommit :
    lowering.proposal = .committing .a none [.exposure 0 { knee := 0, cooling := 0, limit := 1 }] ∧
      (∃ x, Item.exposure 0 { knee := 0, cooling := 0, limit := 1 } = .exposure 0 x) ∧
      nth lowering.intervals 0 = some { Interval.opened with length := 1 } ∧ lowering.settings.ringSize 0 ≠ 0 ∧
      lowering.store.queue.length ≤ 63 ∧ (3072 : Nat) = (if 3072 < 4095 then 3072 else 4095) ∧
      (proposing (.committing .a none [.timebase 4095])).proposal = .committing .a none [.timebase 4095] :=
  ⟨rfl, ⟨_, rfl⟩, by decide +kernel, by decide +kernel, by decide, by decide, rfl⟩

/-- Output 0 in OFFSET mode from channel 0, output 1 in SPLIT mode from STATION PEAK. -/
def retransmitting (s : State) : State :=
  { s with settings := { s.settings with retransmit := tab fun o =>
      { mode := if o = 0 then .offset else .split, source := if o = 0 then .channel 0 else .stationPeak
        fullScale := 5000, prescale := 1, signal := true } } }

theorem witness_OutputCodes :
    (retransmitting (averaging State.reset 0 2000)).uncommitted ∧
      (retransmitting (averaging State.reset 0 2000)).testGoesOn ∧
      (nth (after (exec (.secondTick false) (retransmitting (averaging State.reset 0 2000)))).outputs 0).code = 51 ∧
      (nth (after (exec (.secondTick false) (retransmitting (averaging State.reset 0 2000)))).outputs 1).chosen
        = some 0 := ⟨rfl, .inl rfl, by decide +kernel, by decide +kernel⟩

/-- The second before a multiple of 300: the interval closes at its end. -/
def closing : State := { proposing .empty with timebase := { State.reset.timebase with time := 299 } }

theorem witness_IntervalGathers :
    closing.uncommitted ∧ closing.testGoesOn ∧ (nth closing.channels 0).state ≠ .disabled ∧
      nth closing.intervals 0 = some .opened ∧ closing.store.queue = [] ∧
      closing.settings.ringSize (Fin.castSucc 0) ≠ 0 ∧
      (closing.timebase.time + 1).toNat % closing.settings.recording.normal = 0 :=
  ⟨rfl, .inl rfl, by decide +kernel, by decide +kernel, rfl, by decide +kernel, by decide +kernel⟩

theorem witness_EventsNotDue :
    State.reset.uncommitted ∧ (nth State.reset.links 0).inFlight = none ∧ (nth State.reset.links 0).state ≠ .lost ∧
      State.reset.storm.state ≠ .tail ∧ State.reset.test.plan = none ∧ (nth State.reset.channels 0).state = .armed ∧
      (nth (testing .level 2).channels 0).state = .test :=
  ⟨rfl, by decide +kernel, by decide +kernel, by decide, rfl, by decide +kernel, by decide +kernel⟩

/-- A frame index at which no head command begins, a tail with two seconds left, a test second that is not the last, a
LEARNING channel below its 64th second and its stale limit, and bits that carry a NOP. -/
theorem witness_EventsNotDue_more :
    (commanding 5 false).timebase.frameCounter ≠ 0 ∧ (commanding 5 false).timebase.frameCounter ≠ 15 ∧
      (∃ u, exec (.frameArrival 0 0xFFFFFFFF#32) (commanding 5 false) = .next u) ∧
      2 ≤ ({ State.reset with storm := { Storm.reset with state := .tail, tail := 2 } } : State).storm.tail ∧
      (testing .level 2).testGoesOn ∧
      (nth (onChannel State.reset 0 fun c => { c with state := .learning, learned := 62 }).channels 0).learned = 62 ∧
      (nth State.reset.settings.analysis 0).staleLimit = 5 ∧ State.reset.secondValue 0 = none ∧
      (nth State.reset.outputs 1).period.mode = .off ∧
      judgeTransfer .a false (bitsOf (frameOf 0 [])) = .request (.nop .a) :=
  ⟨by decide +kernel, by decide +kernel, ⟨_, rfl⟩, by decide, .inr (Nat.le_refl 2), by decide +kernel,
    by decide +kernel, by decide +kernel, by decide +kernel, by decide +kernel⟩

theorem witness_EventsNotDue_proposal (o : PortId) (i : List Item) :
    ((proposing (.draft .a [.clear] 2)).proposal ≠ .draft o i 0 ∧
      (proposing (.draft .a [.clear] 2)).proposal ≠ .draft o i 1) ∧
      (proposing (.draft .a [.clear] 2)).proposal ≠ .posted o i 0 ∧
      (proposing (.draft .a [.clear] 2)).proposal ≠ .posted o i 1 := by
  have h : (proposing (.draft .a [.clear] 2)).proposal = .draft .a [.clear] 2 := rfl
  rw [h]
  exact ⟨⟨by simp, by simp⟩, by simp, by simp⟩

theorem witness_EventsNotDue_store (q : QueuedRecord) (p : PortId) (r : Option StoredRecord) (b : Batch) :
    State.reset.store.access ≠ .write q ∧ State.reset.store.access ≠ .copy p r ∧
      (State.reset.port .a).slot ≠ .ready b := by
  have ha : State.reset.store.access = .idle := rfl
  have hs : (State.reset.port .a).slot = .idle := rfl
  rw [ha, hs]
  exact ⟨by simp, by simp, by simp⟩

/-! ## Witnesses: the History Store and its reading -/

/-- Two records in the channel ring 0, numbered 1 and 2. -/
def ringOfTwo : Ring :=
  { oldest := 1, next := 3
    records := [{ seq := 1, record := .event startEvent }, { seq := 2, record := .event startEvent }] }

/-- The store with nothing queued and two records in ring 0. -/
def stored : State :=
  { State.reset with store := { Store.reset with queue := [], rings := put Store.reset.rings 0 ringOfTwo } }

/-- A FETCH of up to four records of ring 0 from sequence 1. -/
def fetching : Fetch :=
  { ring := 0, count := 4, wanted := 1, start := 1, gap := false, held := [], atGrant := (1, 3) }

/-- Port B in WORKING, the round-robin position at port A. -/
def working : State :=
  { stored.updPort .b (fun q => { q with slot := .working fetching }) with store := { stored.store with turn := .a } }

theorem witness_StoreGranted_write :
    State.reset.store.access = .idle ∧
      State.reset.store.queue = { ring := 8, record := .event startEvent } :: [] ∧
      (nth State.reset.store.rings 8).next < 4294967295 ∧ State.reset.settings.ringSize 8 ≠ 0 :=
  ⟨rfl, rfl, by decide +kernel, by decide +kernel⟩

/-- A ring whose numbers are used up, and a record for it. -/
def usedUp : State :=
  { State.reset with store := { Store.reset with rings := put Store.reset.rings 8 ⟨4294967295, 4294967295, []⟩ } }

theorem witness_StoreGranted_wrap :
    usedUp.store.access = .idle ∧ usedUp.store.queue = { ring := 8, record := .event startEvent } :: [] ∧
      ¬ (nth usedUp.store.rings 8).next < 4294967295 ∧ usedUp.settings.ringSize 8 ≠ 0 :=
  ⟨rfl, rfl, by decide +kernel, by decide +kernel⟩

/-- A record for a ring of size 0. -/
def noRing : State :=
  { stored with
    store := { stored.store with queue := [{ ring := 0, record := .event startEvent }] }
    settings := { stored.settings with partition := put stored.settings.partition 0 0 } }

theorem witness_StoreGranted_none :
    noRing.store.access = .idle ∧ noRing.store.queue = { ring := 0, record := .event startEvent } :: [] ∧
      noRing.settings.ringSize 0 = 0 := ⟨rfl, rfl, by decide +kernel⟩

theorem witness_StoreGranted_copy :
    working.store.access = .idle ∧ working.store.queue = [] ∧
      (match working.store.turn with
        | .a => [PortId.b, .c, .a]
        | .b => [.c, .a, .b]
        | .c => [.a, .b, .c]) = ([] : List PortId) ++ PortId.b :: [PortId.c, PortId.a] ∧
      (∀ q ∈ ([] : List PortId), ∀ g, (working.port q).slot ≠ .working g) ∧
      (working.port .b).slot = .working fetching := ⟨rfl, rfl, rfl, nofun, rfl⟩

theorem witness_StoreGranted_idle :
    stored.store.access = .idle ∧ stored.store.queue = [] ∧ ∀ p g, (stored.port p).slot ≠ .working g := by
  refine ⟨rfl, rfl, fun p g => ?_⟩
  have h : (stored.port p).slot = .idle := by cases p <;> rfl
  rw [h]
  exact nofun

/-- The four records of a small ring: it is full, and every cursor stands at its oldest record. -/
def full : State :=
  { stored with
    store := { stored.store with access := .write { ring := 0, record := .event startEvent } }
    settings := { stored.settings with partition := put stored.settings.partition 0 2 } }

theorem witness_WriteEnds :
    full.store.access = .write { ring := 0, record := .event startEvent } ∧ full.settings.ringSize 0 = 2 ∧
      (nth full.store.rings 0).next - (nth full.store.rings 0).oldest = full.settings.ringSize 0 ∧
      (nth (full.port .a).cursors 0).cursor = (nth full.store.rings 0).oldest :=
  ⟨rfl, by decide +kernel, by decide +kernel, by decide +kernel⟩

/-- The same write into a ring with room. -/
theorem witness_WriteEnds_room :
    { full with settings := State.reset.settings }.store.access = .write { ring := 0, record := .event startEvent } ∧
      { full with settings := State.reset.settings }.settings.ringSize 0 = 448 := ⟨rfl, by decide +kernel⟩

/-- A write to a ring of size 0. -/
theorem witness_WriteEnds_none :
    { noRing with store := { noRing.store with access := .write ⟨0, .event startEvent⟩ } }.store.access =
        .write ⟨0, .event startEvent⟩ ∧ noRing.settings.ringSize 0 = 0 := ⟨rfl, by decide +kernel⟩

/-- The copy of port B's first record. -/
def copying : State :=
  { working with store := { working.store with access := .copy .b (some { seq := 1, record := .event startEvent }) } }

/-- Port C with a reply waiting. -/
def ready : State :=
  stored.updPort .c fun q =>
    { q with slot := .ready { ring := 0, start := 1, gap := false, oldest := 1, next := 3, records := [] }, timer := 1 }

theorem witness_DeferredSlot_copy :
    copying.store.access = .copy .b (some { seq := 1, record := .event startEvent }) ∧
      (copying.port .b).slot = .working fetching ∧
      { copying with store := { copying.store with access := .copy .b none } }.store.access = .copy .b none ∧
      (ready.port .c).slot = .ready { ring := 0, start := 1, gap := false, oldest := 1, next := 3, records := [] } :=
  ⟨rfl, rfl, rfl, rfl⟩

/-- A CLEAR, and a PARTITION with it, agreed while port B's FETCH is being copied. -/
theorem witness_StoreCleared :
    { copying with proposal := .committing .a none [.clear] }.proposal = .committing .a none [.clear] ∧
      ([Item.clear].map Item.name).Nodup ∧ Item.clear ∈ [Item.clear] ∧
      (∀ sizes, Item.partition sizes ∉ [Item.clear]) ∧ (copying.port .b).slot ≠ .idle := by
  refine ⟨rfl, by decide, by decide, fun sizes => by simp, ?_⟩
  have h : (copying.port .b).slot = .working fetching := rfl
  rw [h]
  exact nofun

theorem witness_StoreCleared_partition :
    { full with proposal := .committing .a none [.clear, .partition (tab fun _ => 16)] }.proposal =
        .committing .a none [.clear, .partition (tab fun _ => 16)] ∧
      ([Item.clear, .partition (tab fun _ => 16)].map Item.name).Nodup ∧
      (∃ sizes, Item.partition sizes ∈ [Item.clear, .partition (tab fun _ => 16)]) ∧
      full.store.access = .write { ring := 0, record := .event startEvent } :=
  ⟨rfl, by decide, ⟨_, List.mem_cons_of_mem _ (List.mem_cons_self ..)⟩, rfl⟩

/-- Rings 8 and 9 stand on the two sides of the range; port B's FETCH names ring 0. -/
theorem witness_CursorPlaced :
    working.plain .b ∧ (9 : Byte).toNat = 9 ∧ (8 : Byte).toNat = (8 : Fin 9).val ∧
      (working.port .b).slot.ring = some 0 ∧ (working.port .b).slot.ring ≠ some 8 :=
  ⟨plain_of (by decide) rfl, rfl, rfl, rfl, by decide⟩

theorem witness_DeferredSlot :
    working.plain .b ∧ ready.plain .c ∧ stored.plain .a ∧ (working.port .b).slot = .working fetching ∧
      (ready.port .c).slot = .ready { ring := 0, start := 1, gap := false, oldest := 1, next := 3, records := [] } ∧
      (stored.port .a).slot = .idle :=
  ⟨plain_of (by decide) rfl, plain_of (by decide) rfl, plain_of (by decide) rfl, rfl, rfl, rfl⟩

theorem witness_RecordBytes :
    (List.replicate 16 ((0, 0) : Nat × Nat)).length ≤ 16 ∧
      (LinkCause.address, (9 : Byte)) ∈
        [(LinkCause.acquired, (0 : Byte)), (.realigned, 1), (.mark, 2), (.silent, 3), (.badFrames, 4), (.noRelock, 5),
          (.retry, 6), (.enabled, 7), (.disabled, 8), (.address, 9)] := by decide

/-! ## Witnesses: outputs and ports -/

/-- A live period of output 0. -/
def pulsing (mode : PwmMode) (code : Int) (pinA pinB : Bool) : State :=
  { State.reset with outputs := upd State.reset.outputs 0 fun o =>
      { o with code, period := { mode, prescale := 4, code, fault := false }, pinA, pinB } }

theorem witness_PwmWaveform :
    (nth (pulsing .offset 51 true false).outputs 0).period.mode = .offset ∧
      (nth (pulsing .offset 51 true false).outputs 0).pinA = true ∧
      (nth (pulsing .offset 51 true false).outputs 0).pinB = false ∧
      (nth (pulsing .split (-51) false true).outputs 0).period.mode = .split ∧
      (nth (pulsing .split (-51) false true).outputs 0).pinA = decide ((0 : Int) < -51) ∧
      (nth (pulsing .split (-51) false true).outputs 0).pinB = decide ((-51 : Int) < 0) ∧
      (nth State.reset.outputs 0).period.mode = .off ∧
      (nth (pulsing .split 0 false false).outputs 0).period.code = 0 := by
  decide +kernel

theorem witness_TransferCarriesReply : (State.reset.port .a).transfer = .idle := rfl

/-- Three bytes, a frame one byte short, a wrong CRC, a code above 23, and a length no request takes. -/
theorem witness_DamagedFrames :
    State.reset.plain .a ∧ ([true] : List Bool).length < 8 ∧
      ([0, 0, 0] : List Byte).length < 4 ∧ ([1, 2] : List Byte).length < (1 : Byte).toNat + 2 ∧
      word2 0 0 ≠ crc16 [0, 0] ∧ (24 : Byte).toNat = 24 ∧ lengthTaken 0 [1] = false ∧
      word2 ((crc16 [24, 0]).extractLsb' 8 8) ((crc16 [24, 0]).extractLsb' 0 8) = crc16 [24, 0] :=
  ⟨plain_reset .a, by decide, by decide +kernel, by decide +kernel, by decide +kernel, rfl, by decide +kernel,
    by decide +kernel⟩

theorem witness_ReadingRequests :
    State.reset.plain .b ∧ (7 : Byte).toNat = (7 : Fin 8).val ∧ 8 ≤ (8 : Byte).toNat ∧
      (3 : Byte).toNat = (3 : Fin 4).val ∧ (1 : Byte).toNat = (1 : Fin 2).val ∧ 12 ≤ (12 : Byte).toNat :=
  ⟨plain_reset .b, rfl, by decide, rfl, rfl, by decide⟩

/-- The table after second 14,203, its entries 16 and 17 RAISED (Section 6.8). -/
def raised : State :=
  { State.reset with
    alarms := upd (upd State.reset.alarms 16 fun e => { e with state := .raised, peak := 6000 }) 17 fun e =>
      { e with state := .raised, peak := 6000 }
    lines := tab fun _ => { asserted := some true, pin := true } }

theorem witness_EntriesAcknowledged :
    raised.plain .a ∧ (2 : Byte).toNat = 2 ∧ (0x00030000 : BitVec 32) ≠ 0 ∧
      raised.acknowledgeable 0xFFFFFFFF ≠ 0 ∧ State.reset.acknowledgeable 0xFFFFFFFF = 0 ∧
      raised.store.loss = 0 ∧ raised.store.queue.length ≤ 31 :=
  ⟨plain_of (by decide) rfl, rfl, by decide, by decide +kernel, by decide +kernel, rfl, by decide⟩

theorem witness_StationTimeSet :
    State.reset.plain .c ∧ State.reset.store.loss = 0 ∧ State.reset.store.queue.length ≤ 55 :=
  ⟨plain_reset .c, rfl, by decide⟩

theorem witness_HeadCommandTaken :
    State.reset.plain .a ∧ 8 ≤ (8 : Byte).toNat ∧ (7 : Byte).toNat = (7 : Fin 8).val ∧
      (0 : Byte) ≠ 1 ∧ (0 : Byte) ≠ 2 := ⟨plain_reset .a, by decide, rfl, by decide, by decide⟩

theorem witness_TestStopped :
    State.reset.plain .a ∧ State.reset.test.plan = none ∧ (testing .square 3).plain .a ∧
      (testing .square 3).test.plan = some (plan .square) ∧ (testing .square 3).store.loss = 0 ∧
      (testing .square 3).store.queue.length ≤ 23 :=
  ⟨plain_reset .a, rfl, plain_of (by decide) rfl, rfl, rfl, by decide⟩

/-- A test that has raised WARN of channel 0, which its snapshot holds false. -/
def raisedInTest : State :=
  { onChannel (testing .square 3) 0 fun c => { c with conds := { c.conds with warn := true } } with
    alarms := upd State.reset.alarms 0 fun e => { e with state := .raised, mark := true } }

theorem witness_TestStopped_entries :
    raisedInTest.plain .a ∧ raisedInTest.test.plan = some (plan .square) ∧ raisedInTest.store.loss = 0 ∧
      raisedInTest.store.queue.length ≤ 23 ∧
      (nth (after (exec (.stopTest .a) raisedInTest)).alarms (entryOf 0 .warn)).state ≠
        (nth raisedInTest.alarms (entryOf 0 .warn)).state :=
  ⟨plain_of (by decide) rfl, rfl, rfl, by decide, by decide +kernel⟩

theorem witness_PortRestarted_notices : State.reset.plain .b := plain_reset .b

theorem witness_PortRestarted :
    (proposing (.draft .b [.clear] 9)).plain .b ∧
      (proposing (.draft .b [.clear] 9)).proposal = .draft .b [.clear] 9 ∧
      (proposing (.draft .b [.clear] 9)).store.queue.length < 64 ∧
      ∀ items left, State.reset.proposal ≠ .draft .b items left := by
  have h : State.reset.proposal = .empty := rfl
  rw [h]
  exact ⟨plain_of (by decide) rfl, rfl, by decide, nofun⟩

/-- Port A with a batch of two records in its due reply. -/
def delivering : State :=
  { stored.updPort .a fun q =>
    { q with due := { status := .done, code := 11
                      body := .batch { ring := 0, start := 1, gap := false, oldest := 1, next := 3
                                       records := ringOfTwo.records } 0 } } with settings := full.settings }

/-- Port A in a transfer begun before a reset. -/
def ignoring : State := State.reset.updPort .a fun q => { q with transfer := .ignored }

theorem witness_TransferEnds :
    (delivering.port .a).transfer ≠ .ignored ∧
      (delivering.port .a).due.body = .batch ⟨0, 1, false, 1, 3, ringOfTwo.records⟩ 0 ∧
      (ignoring.port .a).transfer = .ignored ∧ isRequestOf (.rewind .a 0) .a ∧
      ∀ solo i, judgeTransfer .a solo [] ≠ .request i := ⟨by decide, rfl, rfl, ⟨_, _, rfl⟩, nofun⟩

theorem witness_PortsIsolated :
    PortId.b ≠ .a ∧ isRequestOf (.acknowledge .a 1 0) .a ∧ ∃ t, exec (.acknowledge .a 1 0) raised = .next t :=
  ⟨by decide, ⟨_, _, rfl⟩, _, rfl⟩

/-! ## Witnesses: proposals, frames and invariants -/

/-- The field bytes of a LINK item: enabled, address 5. -/
def linkFields : List Byte := [1, 5]

/-- Sixteen items of sixteen names. -/
def sixteen : List Item :=
  ((List.finRange 8).map fun n => Item.link n { enabled := true, address := 0 }) ++
    (List.finRange 8).map fun c => Item.exposure c { knee := 1000, cooling := 200, limit := 3000000 }

theorem witness_DraftItemTaken :
    State.reset.plain .a ∧ lengthTaken 23 (4 :: 7 :: linkFields) = true ∧
      readItem 4 7 linkFields = some (.link 7 { enabled := true, address := 5 }) ∧ readItem 4 8 linkFields = none ∧
      State.reset.proposal = .empty ∧
      (proposing (.draft .a sixteen 60)).proposal = .draft .a sixteen 60 ∧ 16 ≤ sixteen.length ∧
      (∀ x ∈ sixteen, x.name ≠ (Item.clear).name) ∧ (proposing (.draft .a [.clear] 60)).plain .a :=
  ⟨plain_reset .a, by decide +kernel, by decide +kernel, by decide +kernel, rfl, rfl, by decide +kernel,
    by decide +kernel, plain_of (by decide) rfl⟩

/-- A sum of eight sizes at its top, and one above it; levels in order, and out of order. -/
theorem witness_ProposalPosted :
    (proposing (.draft .a [.clear] 60)).plain .a ∧
      (proposing (.draft .a [.clear] 60)).proposal = .draft .a [.clear] 60 ∧
      ((List.finRange 8).map fun c => nth (tab fun _ => 480 : Tab 8 Nat) c).sum = 3840 ∧
      ({ excT := 2, excH := 0, warnT := 1, warnH := 0, alarmT := 1, alarmH := 0 } : LevelsItem).ordered = false ∧
      (nth Settings.reset.levels 0).ordered = true ∧
      (Settings.reset.applyAll [.recording { normal := 10, storm := 11 }]).recording.normal = 10 :=
  ⟨plain_of (by decide) rfl, rfl, by decide +kernel, by decide +kernel, by decide +kernel, by decide +kernel⟩

theorem witness_ConfirmAndWithdraw :
    (proposing (.posted .a [.clear] 120)).plain .b ∧ (proposing (.posted .a [.clear] 120)).plain .a ∧
      (proposing (.posted .a [.clear] 120)).proposal = .posted .a [.clear] 120 ∧ PortId.a ≠ .b ∧
      (7 : BitVec 16) = (proposing (.posted .a [.clear] 120)).number ∧
      (proposing (.posted .a [.clear] 120)).store.queue.length < 64 :=
  ⟨plain_of (by decide) rfl, plain_of (by decide) rfl, rfl, by decide, rfl, by decide⟩

theorem witness_ItemsReadBack :
    readItem 4 7 linkFields = some (.link 7 { enabled := true, address := 5 }) := by decide +kernel

theorem witness_FramesRoundTrip :
    (Instr.draftItem .c 4 7 linkFields).wellFormed = true ∧
      encodeFrame (.draftItem .c 4 7 linkFields) = some (.c, frameOf 23 (4 :: 7 :: linkFields)) :=
  ⟨by decide +kernel, rfl⟩

theorem witness_QueueStaysBounded : raised.queueBounded ∧ ∃ t, step raised = .next t :=
  ⟨⟨by decide, by decide⟩, _, rfl⟩

theorem witness_RingsAndCursorsStaySound : working.ringsSound ∧ working.cursorsWithin ∧ ∃ t, step working = .next t := by
  refine ⟨⟨?_, fun q h => ?_⟩, fun p r => ?_, _, rfl⟩
  · unfold Ring.sound
    decide +kernel
  · have ha : working.store.access = .idle := rfl
    rw [ha] at h
    exact nomatch h
  · cases p <;> revert r <;> decide +kernel

theorem witness_ExposureStaysBounded : onset.exposureBounded ∧ ∃ t, step onset = .next t := by
  refine ⟨fun c => ⟨?_, fun n h => ?_⟩, _, rfl⟩
  · revert c
    decide +kernel
  · have hn : ∀ c, nth onset.test.snapshots c = none := by decide +kernel
    rw [hn c] at h
    exact nomatch h

theorem witness_CurrentsStayBounded : onset.currentsBounded ∧ ∃ t, step onset = .next t := by
  have hn : ∀ c, nth onset.test.snapshots c = none := by decide +kernel
  have hl : ∀ c, (nth onset.channels c).latest = none := by decide +kernel
  refine ⟨⟨fun c => ⟨?_, ?_, ?_, fun l v h => ?_, fun n h => ?_⟩, nofun, nofun⟩, _, rfl⟩
  · revert c
    decide +kernel
  · revert c
    decide +kernel
  · revert c
    decide +kernel
  · rw [hl c] at h
    exact nomatch h
  · rw [hn c] at h
    exact nomatch h

theorem witness_AlarmsStayMatched : onset.alarmsMatched ∧ ∃ t, step onset = .next t := by
  refine ⟨fun c => ⟨fun k => ?_, fun h => ?_, fun h => ?_⟩, _, rfl⟩
  · revert c
    cases k <;> decide +kernel
  · have hd : ∀ c, (nth onset.channels c).state ≠ .disabled := by decide +kernel
    exact absurd h (hd c)
  · have hn : ∀ c, nth onset.test.snapshots c = none := by decide +kernel
    rw [hn c] at h
    exact nomatch h

theorem witness_LinksStaySound : (commanding 15 true).linksSound ∧ ∃ t, step (commanding 15 true) = .next t := by
  refine ⟨?_, _, rfl⟩
  unfold State.linksSound Link.sound
  decide +kernel

theorem witness_ProposalStaysSound :
    (proposing (.draft .a sixteen 60)).proposal.sound ∧ ∃ t, step (proposing (.draft .a sixteen 60)) = .next t :=
  ⟨⟨by decide +kernel, by decide +kernel, by decide +kernel, by decide, by decide⟩, _, rfl⟩

/-! ## The arithmetic of the worked sequences -/

/-- Section 4.9: channel 4's envelope in second 14,204, and the baselines of 14,201 and 14,202. -/
theorem test_envelope_decays : followEnvelope 1536000 4500 5 = 1524000 := by decide

theorem test_baseline_follows :
    followBaseline 7864320 150 12 = 7864800 ∧ followBaseline 1600 250 12 = 5599 ∧
      followBaseline (-2621120) 30 12 = -2620001 := by decide

/-- Section 5.4: saturation at twice the limit, cooling, and the release below half a lowered limit. -/
theorem test_exposure :
    accumulate 18000 9000 { knee := 1000, cooling := 200, limit := 10000 } = 20000 ∧
      accumulate 20000 900 { knee := 1000, cooling := 200, limit := 10000 } = 19800 ∧
      exposureCondition 5000 2600 true = true ∧ exposureCondition 5000 2400 true = false := by decide

/-- R160's table. -/
theorem test_codes :
    codeOf .split 5000 2000 = 51 ∧ codeOf .split 254 1 = 1 ∧ codeOf .offset 5000 6500 = 126 ∧
      codeOf .split 1 (-131071) = -127 ∧ codeOf .offset 1 (-131071) = -126 := by decide

/-- R163: a code of 51 gives 89 segments and a code of −51 gives 39. -/
theorem test_pulses :
    PwmPeriod.pulse { mode := .offset, prescale := 1, code := 51, fault := false } = some 89 ∧
      PwmPeriod.pulse { mode := .offset, prescale := 1, code := -51, fault := false } = some 39 := by decide

/-- R41's table, the first test second. -/
theorem test_ramp :
    (after (exec (.secondTick false) (testing .ramp 2))).test.supplied = some 1000 ∧
      (after (exec (.secondTick false) (testing .ramp 2))).test.ramp = 1500 := by decide +kernel

/-- R43: from a single one at bit 14 the next test second supplies +A. -/
theorem test_prbs :
    (({ (testing .prbs 2).test with prbs := 0x2000 } : TestGen).supply (plan .prbs)).supplied = some 1000 := by decide

/-- R44: a test in its last second ends at the tick, and channel 0 is back in ARMED. -/
theorem test_expiry :
    (after (exec (.testExpiry false) (testing .square 1))).test.plan = none ∧
      (nth (after (exec (.testExpiry false) (testing .square 1))).channels 0).state = .armed := by decide +kernel

/-! ## Requests and the store -/

/-- Section 6.8: port A acknowledges ALL; OUT1 goes low, OUT0 stays high. -/
theorem test_acknowledge_all :
    (nth (after (exec (.acknowledge .a 1 0) raised)).alarms 16).state = .accepted ∧
      (nth (after (exec (.acknowledge .a 1 0) raised)).lines 1).pin = false ∧
      (nth (after (exec (.acknowledge .a 1 0) raised)).lines 0).pin = true := by decide +kernel

theorem test_acknowledge_reply :
    ((after (exec (.acknowledge .a 1 0) raised)).port .a).due
      = { status := .done, code := 7, body := .acknowledged 2 0x00030000 } := by decide +kernel

/-- R148: the grant reads the wanted record and moves the wanted sequence on. -/
theorem test_grant_copies :
    (after (exec .storeGrant working)).store.access = .copy .b (some { seq := 1, record := .event startEvent }) ∧
      (after (exec .storeGrant working)).store.turn = .b := by decide +kernel

/-- R133, R141: a write into a full ring of two removes record 1 and pushes a cursor at 1 to 2 with a skip. -/
theorem test_write_pushes_cursor :
    (nth (after (exec .writeComplete full)).store.rings 0).oldest = 2 ∧
      (nth ((after (exec .writeComplete full)).port .a).cursors 0).cursor = 2 ∧
      (nth ((after (exec .writeComplete full)).port .a).cursors 0).skip = 1 := by decide +kernel

/-- R150: COLLECT in READY is DONE, and the slot is IDLE at once. -/
theorem test_collect :
    ((after (exec (.collect .c) ready)).port .c).due.status = .done ∧
      ((after (exec (.collect .c) ready)).port .c).slot = .idle := by decide +kernel

/-- R151: the delivery of two records from 1 moves the cursor to 3 before the request is taken. -/
theorem test_delivery :
    (nth ((after (exec (.nop .a) delivering)).port .a).cursors 0).cursor = 3 := by decide +kernel

/-- R144: a sequence above next is clamped to next. -/
theorem test_seek_clamps :
    ((after (exec (.seek .a 0 99) stored)).port .a).due.body = .place 0 3 1 3 0 := by decide +kernel

/-- R196: the START event is type 11 from source 48. -/
theorem test_start_record :
    StoredRecord.bytes { seq := 1, record := .event startEvent } = [11, 48, 0, 0, 0, 1] ++ List.replicate 42 0#8 := by
  decide

/-- R172, R195: the first reply after power-on is RESTARTED (12), request code 0, one body byte 0. -/
theorem test_first_reply :
    (State.reset.replyFrame .a).take 15 = [12, 0, 1] ++ List.replicate 12 0#8 := by decide +kernel

/-- R187: the poster may not confirm, another port may. -/
theorem test_confirm :
    (after (exec (.confirm .b 7) (proposing (.posted .a [.clear] 120)))).proposal = .committing .a (some .b) [.clear] ∧
      (after (exec (.confirm .a 7) (proposing (.posted .a [.clear] 120)))).proposal = .posted .a [.clear] 120 := by
  decide +kernel

/-- R182: an address of 8 is out of range. -/
theorem test_link_item_range : readItem 4 0 [1, 8] = none ∧ readItem 4 0 [1, 7] = some (.link 0 ⟨true, 7⟩) := by
  decide

/-- R20, R190: a committed divider above 3072 becomes 3072, and the generation goes up. -/
theorem test_commit_divider :
    (after (exec (.commit false) (proposing (.committing .a none [.timebase 4095])))).settings.divider = 3072 ∧
      (after (exec (.commit false) (proposing (.committing .a none [.timebase 4095])))).generation = 1 := by
  decide +kernel

/-- Section 1.7: the good cycles count is cleared on entry to LOCKED. -/
theorem test_lock_clears_good_cycles :
    (nth (after (exec (.frameArrival 2 goodFrame) (cycling .seeking 15 1 0))).links 2).goodCycles = 0 := by
  decide +kernel

/-- R79, R116: with a MAP commit agreed, an end of zeroing leaves channel 2 to the commit's one reset. -/
theorem test_zeroing_waits_for_commit :
    (nth (after (exec (.frameArrival 2 goodFrame) (onChannel zeroingAgreed 2 fun c => { c with bAcc := 9 }))).channels
        2).bAcc = 9 ∧
      (nth (after (exec (.frameArrival 2 goodFrame) (onChannel zeroing 2 fun c => { c with bAcc := 9 }))).channels
        2).bAcc = 0 := by decide +kernel

/-- R48: in TEST, channel 2 takes an end of zeroing at once, with a MAP commit agreed as without. -/
theorem test_zeroing_in_test :
    (nth (after (exec (.frameArrival 2 goodFrame)
      (onChannel zeroingAgreed 2 fun c => { c with state := .test, bAcc := 9 }))).channels 2).bAcc = 0 := by
  decide +kernel

/-- R11: a good frame of index 4 in SEEKING counts in its cycle, and an absent one does not. -/
theorem test_good_frame_counts :
    (nth (after (exec (.frameArrival 2 goodFrame) (waiting State.reset 2 .seeking 4))).links 2).cycleGood = 1 ∧
      (nth (after (exec (.frameArrival 2 0xFFFFFFFF) (waiting State.reset 2 .seeking 4))).links 2).cycleGood = 0 := by
  decide +kernel

/-- R166, R195: SDO shows the first byte's bits (RESTARTED, 12), zeros after the frame, and nothing with SEL high. -/
theorem test_sdo :
    ((List.range 8).map (Transfer.active (State.reset.replyFrame .a)).sdo) =
        [some false, some false, some false, some false, some true, some true, some false, some false] ∧
      (Transfer.active [0xFF]).sdo 7 = some true ∧ (Transfer.active [0xFF]).sdo 8 = some false ∧
      Transfer.idle.sdo 0 = none := by decide +kernel

/-- R166: the bits of an incomplete byte are discarded. -/
theorem test_incomplete_byte :
    wholeBytes [true, false, false, false, false, false, false, true, true, true] = [0x81] := by decide

/-- R186: POST reads the strap as it stands, whatever it was at the last reset. -/
theorem test_post_reads_strap :
    (after (exec (.post ⟨.a, true⟩) (proposing (.draft .a [.clear] 60)))).proposal = .committing .a none [.clear] ∧
      (after (exec (.post ⟨.a, false⟩) (proposing (.draft .a [.clear] 60)))).proposal = .posted .a [.clear] 120 := by
  decide +kernel

/-- R137: a CLEAR puts the write in progress back behind HISTORY_CLEARED and empties ring 0 at its next. -/
theorem test_clear :
    ((after (exec (.commit false) { full with proposal := .committing .a none [.clear] })).store.queue.take 2).map
        (·.ring) = [8, 0] ∧
      nth (after (exec (.commit false) { full with proposal := .committing .a none [.clear] })).store.rings 0 =
        { oldest := 3, next := 3, records := [] } := by decide +kernel

/-- R134, R172: a transfer under way at a reset is ignored whole, and START alone is queued. -/
theorem test_power_on :
    ((after (exec (.powerOnReset true) (raised.updPort .b fun q => { q with transfer := .active [] }))).port .b).transfer
      = .ignored ∧
      (after (exec (.powerOnReset true) raised)).store.queue = Store.reset.queue := by decide +kernel

/-- R139 and R195: the access in progress, none and a copy for C, behind its presence byte. -/
theorem test_access_on_the_wire (r : Option StoredRecord) :
    optional 1 b1 (Access.code .idle) = [0, 0] ∧ optional 1 b1 (Access.code (.copy .c r)) = [1, 3] :=
  ⟨rfl, rfl⟩

/-- The table's rows have no bits, so no word spells a command (log 1). -/
theorem test_no_word_decodes (nbits w : Nat) : decodeTableWord nbits w = none := rfl

end Sys2Proof.Tests
end

section
/-! ## What each step of the Link Unit makes of one link and of its averager

The operations of the Link Unit work on the whole part. Each of them reaches one place of `links` (and of `averagers`),
and what it leaves there depends on that place and on the settings alone. The definitions below say what that is, and
each is tied to its operation by a lemma. -/

namespace Sys2Proof.Machine

/-! ### Turns over the inputs -/

/-- Turns in which each reaches its own place alone: after all of them each place holds what its own turn makes of it. -/
theorem Work.forEach_local {n : Nat} {β : Type} (P : Work → Prop) (read : Work → Fin n → β) (g : Fin n → β → β)
    (f : Fin n → Work → Work) (w : Work) (h0 : P w)
    (h : ∀ i w, P w → P (f i w) ∧ read (f i w) i = g i (read w i) ∧ ∀ j, j ≠ i → read (f i w) j = read w j) :
    P (w.forEach f) ∧ ∀ i, read (w.forEach f) i = g i (read w i) := by
  have key : ∀ l : List (Fin n), l.Nodup → ∀ w, P w → P (l.foldl (fun w i => f i w) w) ∧
      ∀ i, read (l.foldl (fun w i => f i w) w) i = if i ∈ l then g i (read w i) else read w i := by
    intro l
    induction l with
    | nil => exact fun _ w hw => ⟨hw, fun i => by simp⟩
    | cons a l ih =>
      intro hl w hw
      obtain ⟨ha, hl⟩ := List.nodup_cons.mp hl
      obtain ⟨hP, hself, hother⟩ := h a w hw
      obtain ⟨hP', hread⟩ := ih hl (f a w) hP
      refine ⟨hP', fun i => ?_⟩
      rw [List.foldl_cons, hread]
      by_cases hi : i = a
      · subst hi
        simp [ha, hself]
      · simp [hi, hother i hi]
  obtain ⟨hP, hread⟩ := key _ (List.nodup_finRange n) w h0
  exact ⟨hP, fun i => (hread i).trans (by simp)⟩

/-! ### Transitions -/

/-- The link after a transition (R3, R12, R18). -/
def Link.pass (l : Link) (dest : LinkState) : Link := (if l.state = .locked then l.leaveLocked else l).enter dest

/-- The link after a transition that may be due. -/
def Link.passIf (l : Link) (t : Option (LinkState × LinkCause)) : Link :=
  match t with
  | some (dest, _) => l.pass dest
  | none => l

@[simp] theorem Link.passIf_none (l : Link) : l.passIf none = l := rfl
@[simp] theorem Link.passIf_some (l : Link) (t : LinkState × LinkCause) : l.passIf (some t) = l.pass t.1 := rfl

@[simp] theorem Link.pass_state (l : Link) (dest : LinkState) : (l.pass dest).state = dest := by
  cases dest <;> rfl

/-- A transition discards no frame in flight that was none, and none is in flight after going to OFF or LOST. -/
theorem Link.pass_inFlight_none (l : Link) (dest : LinkState) (h : l.inFlight = none) :
    (l.pass dest).inFlight = none := by
  unfold Link.pass
  cases dest <;> split <;> simp [Link.enter, Link.leaveLocked, h]

theorem Work.transition_links (w : Work) (n : Fin 8) (dest : LinkState) (cause : LinkCause) :
    (w.transition n dest cause).st.links = put w.st.links n ((nth w.st.links n).pass dest) := by
  obtain ⟨p, h⟩ := w.transition_frame n dest cause
  rw [h]
  rfl

theorem Work.transitionIf_links (w : Work) (n : Fin 8) (t : Option (LinkState × LinkCause)) :
    (w.transitionIf n t).st.links = put w.st.links n ((nth w.st.links n).passIf t) := by
  cases t with
  | none => simp [Work.transitionIf]
  | some t => exact w.transition_links n t.1 t.2

/-! ### The arrival of a frame -/

/-- The link at a cycle end (R6, R7, R11). -/
def Link.endCycle (l : Link) : Link :=
  if l.state = .locked then l.formWord else l.countCycle.passIf (cycleTransition l.countCycle)

theorem Work.cycleEnd_links (w : Work) (n : Fin 8) :
    (w.cycleEnd n).st.links = put w.st.links n (nth w.st.links n).endCycle := by
  unfold Work.cycleEnd Link.endCycle
  dsimp only
  split
  · split
    · obtain ⟨_, _, _, _, _, h⟩ := Work.endOfZeroing_frame
        (w.map fun s => { s with links := put s.links n (nth w.st.links n).formWord }) n
      rw [h]
      rfl
    · rfl
  · rw [Work.transitionIf_links]
    simp [put_put]

/-- The link once its frame in flight has been counted (R2, R5, R6, R11). -/
def Link.counted (l : Link) (f : InFlight) (cls : FrameClass) (frame : BitVec 32) : Link :=
  ({ l with inFlight := none }).count f cls frame

/-- The link once its frame in flight has been counted and judged, before the cycle end (R2 to R6). -/
def Link.judged (l : Link) (f : InFlight) (cls : FrameClass) (frame : BitVec 32) : Link :=
  (l.counted f cls frame).passIf (arrivalTransition (l.counted f cls frame) f cls frame)

/-- The link after the arrival of its frame in flight (R2 to R7, R11). -/
def Link.arrived (l : Link) (address : BitVec 3) (frame : BitVec 32) : Link :=
  match l.inFlight with
  | none => l
  | some f =>
    let j := l.judged f (classify address frame) frame
    if f.index = 15 ∧ ¬ f.abandoned then j.endCycle else j

/-- The averager after the arrival of the frame in flight on its input (R13, R27, R28). -/
def Averager.arrived (a : Averager) (l : Link) (address : BitVec 3) (frame : BitVec 32) : Averager :=
  match l.inFlight with
  | none => a
  | some f =>
    a.take f (if sampleValid (classify address frame) frame (l.judged f (classify address frame) frame) then
      some (frameSample frame) else none)

theorem Link.arrived_of_none {l : Link} (h : l.inFlight = none) (address : BitVec 3) (frame : BitVec 32) :
    l.arrived address frame = l := by simp [Link.arrived, h]

theorem Averager.arrived_of_none {l : Link} (h : l.inFlight = none) (a : Averager) (address : BitVec 3)
    (frame : BitVec 32) : a.arrived l address frame = a := by simp [Averager.arrived, h]

/-- A frame that ends no cycle is only counted and judged. -/
theorem Link.arrived_of_within {l : Link} {f : InFlight} (h : l.inFlight = some f)
    (hf : f.index ≠ 15 ∨ f.abandoned = true) (address : BitVec 3) (frame : BitVec 32) :
    l.arrived address frame = l.judged f (classify address frame) frame := by
  have hno : ¬ (f.index = 15 ∧ ¬ f.abandoned) := fun ⟨h15, ha⟩ => hf.elim (· h15) ha
  simp only [Link.arrived, h, if_neg hno]

/-- A frame 15 ends its cycle once it is counted and judged. -/
theorem Link.arrived_of_last {l : Link} {f : InFlight} (h : l.inFlight = some f) (h15 : f.index = 15)
    (ha : f.abandoned = false) (address : BitVec 3) (frame : BitVec 32) :
    l.arrived address frame = (l.judged f (classify address frame) frame).endCycle := by
  simp [Link.arrived, h, h15, ha]

/-- With no frame in flight nothing is taken from LDAT (R1). -/
theorem Work.arrive_of_none (w : Work) (n : Fin 8) (frame : BitVec 32) (h : (nth w.st.links n).inFlight = none) :
    w.arrive n frame = w := by simp [Work.arrive, h]

/-- The arrival of a frame, step by step: it is counted, a transition may follow, the sample is taken. -/
def Work.takeFrame (w : Work) (n : Fin 8) (f : InFlight) (frame : BitVec 32) : Work :=
  let cls := classify (nth w.st.settings.link n).address frame
  let c := (nth w.st.links n).counted f cls frame
  let w := (w.map fun s => { s with links := put s.links n c }).transitionIf n (arrivalTransition c f cls frame)
  let sample := if sampleValid cls frame (nth w.st.links n) then some (frameSample frame) else none
  w.map fun s => { s with averagers := upd s.averagers n (·.take f sample) }

theorem Work.arrive_of_some (w : Work) (n : Fin 8) (frame : BitVec 32) {f : InFlight}
    (h : (nth w.st.links n).inFlight = some f) :
    w.arrive n frame =
      if f.index = 15 ∧ ¬ f.abandoned then (w.takeFrame n f frame).cycleEnd n else w.takeFrame n f frame := by
  simp only [Work.arrive, h]
  rfl

/-- What `takeFrame` leaves alone, and what it makes of the link and the averager of its input. -/
theorem Work.takeFrame_frame (w : Work) (n : Fin 8) (f : InFlight) (frame : BitVec 32) :
    ∃ p, (w.takeFrame n f frame).st =
      { w.st with
        links := put w.st.links n
          ((nth w.st.links n).judged f (classify (nth w.st.settings.link n).address frame) frame)
        averagers := upd w.st.averagers n (·.take f
          (if sampleValid (classify (nth w.st.settings.link n).address frame) frame
              ((nth w.st.links n).judged f (classify (nth w.st.settings.link n).address frame) frame) then
            some (frameSample frame) else none))
        ports := p } := by
  unfold Work.takeFrame
  dsimp only
  generalize hc : Link.counted _ f _ frame = c
  have hl := Work.transitionIf_links (w.map fun s => { s with links := put s.links n c }) n
    (arrivalTransition c f (classify (nth w.st.settings.link n).address frame) frame)
  obtain ⟨l, p, hw⟩ := Work.transitionIf_frame (w.map fun s => { s with links := put s.links n c }) n
    (arrivalTransition c f (classify (nth w.st.settings.link n).address frame) frame)
  refine ⟨p, ?_⟩
  rw [Work.map_st, hw]
  rw [hw] at hl
  simp only [Work.map_st, nth_put_self, put_put] at hl ⊢
  simp only [hl, nth_put_self, Link.judged, hc]

theorem Work.arrive_links (w : Work) (n : Fin 8) (frame : BitVec 32) :
    (w.arrive n frame).st.links =
      put w.st.links n ((nth w.st.links n).arrived (nth w.st.settings.link n).address frame) := by
  cases h : (nth w.st.links n).inFlight with
  | none => simp [Work.arrive_of_none w n frame h, Link.arrived_of_none h]
  | some f =>
    obtain ⟨p, hw⟩ := w.takeFrame_frame n f frame
    rw [Work.arrive_of_some w n frame h]
    simp only [Link.arrived, h]
    split
    · rw [Work.cycleEnd_links, hw]
      simp [put_put]
    · rw [hw]

theorem Work.arrive_averagers (w : Work) (n : Fin 8) (frame : BitVec 32) :
    (w.arrive n frame).st.averagers =
      upd w.st.averagers n (·.arrived (nth w.st.links n) (nth w.st.settings.link n).address frame) := by
  cases h : (nth w.st.links n).inFlight with
  | none => simp [Work.arrive_of_none w n frame h, Averager.arrived_of_none h, upd]
  | some f =>
    obtain ⟨p, hw⟩ := w.takeFrame_frame n f frame
    have ha : (w.takeFrame n f frame).st.averagers =
        upd w.st.averagers n (·.arrived (nth w.st.links n) (nth w.st.settings.link n).address frame) := by
      rw [hw]
      simp [Averager.arrived, h]
    rw [Work.arrive_of_some w n frame h]
    split
    · obtain ⟨_, _, _, _, _, _, hc⟩ := (w.takeFrame n f frame).cycleEnd_frame n
      rw [hc]
      exact ha
    · exact ha

/-- Nothing of an arrival reaches the settings or the Timebase. -/
theorem Work.arrive_settings (w : Work) (n : Fin 8) (frame : BitVec 32) :
    (w.arrive n frame).st.settings = w.st.settings ∧ (w.arrive n frame).st.timebase = w.st.timebase := by
  obtain ⟨_, _, _, _, _, _, _, h⟩ := w.arrive_frame n frame
  rw [h]
  exact ⟨rfl, rfl⟩

/-! ### The frame tick -/

/-- A link once an unanswered frame has been taken as 32 ones (R1; log 3). -/
def State.settledLink (s : State) (n : Fin 8) : Link :=
  (nth s.links n).arrived (nth s.settings.link n).address 0xFFFFFFFF#32

/-- An averager once an unanswered frame of its input has been taken as 32 ones (R1; log 3). -/
def State.settledAverager (s : State) (n : Fin 8) : Averager :=
  (nth s.averagers n).arrived (nth s.links n) (nth s.settings.link n).address 0xFFFFFFFF#32

/-- The state that a frame tick finds: every link and averager by its own arrival, settings and Timebase as they were. -/
theorem settled_spec (s : State) :
    (settled s).settings = s.settings ∧ (settled s).timebase = s.timebase ∧
      ∀ n, nth (settled s).links n = s.settledLink n ∧ nth (settled s).averagers n = s.settledAverager n := by
  obtain ⟨⟨hs, ht⟩, h⟩ := Work.forEach_local (fun w => w.st.settings = s.settings ∧ w.st.timebase = s.timebase)
    (fun w n => (nth w.st.links n, nth w.st.averagers n))
    (fun n x => (x.1.arrived (nth s.settings.link n).address 0xFFFFFFFF#32,
      x.2.arrived x.1 (nth s.settings.link n).address 0xFFFFFFFF#32))
    Work.settle (Work.start s) ⟨rfl, rfl⟩ (fun i w ⟨hs, ht⟩ => by
      obtain ⟨h1, h2⟩ := w.arrive_settings i 0xFFFFFFFF#32
      refine ⟨⟨h1.trans hs, h2.trans ht⟩, ?_, fun j hj => ?_⟩
      · rw [Work.settle, Work.arrive_links, Work.arrive_averagers, hs, nth_put_self, nth_upd_self]
      · rw [Work.settle, Work.arrive_links, Work.arrive_averagers, nth_put_ne _ _ (Ne.symm hj),
          nth_upd_ne _ _ (Ne.symm hj)])
  rw [settled, Work.join_settings, Work.join_timebase, Work.join_links, Work.join_averagers]
  exact ⟨hs, ht, fun n => Prod.mk.inj (h n)⟩

/-- With no frame in flight a frame tick finds the state as it stands. -/
theorem settled_of_none {s : State} (h : ∀ n, (nth s.links n).inFlight = none) : settled s = s := by
  have : (Work.start s).forEach Work.settle = Work.start s :=
    Work.forEach_induct (fun w => w = Work.start s) Work.settle _ rfl
      (fun i w hw => by subst hw; exact Work.arrive_of_none _ i _ (h i))
  rw [settled, this, Work.join_of_nil _ rfl]
  rfl

/-- A link at the request of a frame: at index 0 its cycle begins first (R1, R11, R12). -/
def Link.ticked (l : Link) (index : Fin 16) : Link := (if index = 0 then l.beginCycle else l).request index

/-- An averager at the request of a frame: at index 0 its cycle begins (R27). -/
def Averager.ticked (a : Averager) (index : Fin 16) : Averager :=
  if index = 0 then { a with cycleSum := 0, cycleValid := 0 } else a

/-- The state in which the frames of a tick are requested: at index 0 a cycle has begun on every input (R21, R27). -/
def State.beginCycles (s : State) : State :=
  if s.timebase.frameCounter = 0 then
    { s with
      links := tab fun n => (nth s.links n).beginCycle
      averagers := tab fun n => { nth s.averagers n with cycleSum := 0, cycleValid := 0 } }
  else s

theorem State.beginCycles_frame (s : State) :
    ∃ l a, s.beginCycles = { s with links := l, averagers := a } ∧
      (∀ n, nth l n = if s.timebase.frameCounter = 0 then (nth s.links n).beginCycle else nth s.links n) ∧
      ∀ n, nth a n = (nth s.averagers n).ticked s.timebase.frameCounter := by
  unfold State.beginCycles Averager.ticked
  split
  · exact ⟨_, _, rfl, by simp, by simp⟩
  · exact ⟨_, _, rfl, by simp, by simp⟩

/-- A frame request reaches its own link alone. -/
theorem Work.requestFrame_st (index : Fin 16) (n : Fin 8) (w : Work) :
    (w.requestFrame index n).st =
      { w.st with links := put w.st.links n ((nth w.st.links n).request index) } := by
  unfold Work.requestFrame
  dsimp only
  split
  · split <;> rfl
  · rfl

/-- A frame request hands over the HEAD_CMD SENT event of its link alone (R17). -/
theorem Work.requestFrame_out_of_not_sends (index : Fin 16) (n : Fin 8) (w : Work)
    (h : (nth w.st.links n).sends index = false) : (w.requestFrame index n).out = w.out := by
  unfold Work.requestFrame
  dsimp only
  split
  · simp [h]
  · rfl

theorem Work.requestFrame_out_of_sends (index : Fin 16) (n : Fin 8) (w : Work) {c : HeadCommand}
    (hc : (nth w.st.links n).command = some c) (h : (nth w.st.links n).sends index = true) :
    (w.requestFrame index n).out = w.out ++ [⟨.link n, { ring := 8, record := .event {
      time := w.st.timebase.time, source := .input n, body := .headCmd n c false, loss := 0 } }⟩] := by
  unfold Work.requestFrame
  simp only [hc, h]
  rfl

/-- The requests of a frame tick, and the records that they hand over. -/
def State.requests (s : State) : Work :=
  (Work.start s.beginCycles).forEach (Work.requestFrame s.timebase.frameCounter)

theorem State.requests_st (s : State) :
    ∃ l a, s.requests.st = { s with links := l, averagers := a } ∧
      (∀ n, nth l n = (nth s.links n).ticked s.timebase.frameCounter) ∧
      ∀ n, nth a n = (nth s.averagers n).ticked s.timebase.frameCounter := by
  obtain ⟨l, a, hs, hl, ha⟩ := s.beginCycles_frame
  obtain ⟨⟨l', h'⟩, h⟩ := Work.forEach_local (fun w => ∃ l, w.st = { s with links := l, averagers := a })
    (fun w n => nth w.st.links n) (fun _ l => l.request s.timebase.frameCounter)
    (Work.requestFrame s.timebase.frameCounter) (Work.start s.beginCycles) ⟨l, hs⟩ (fun i w ⟨l, hw⟩ => by
      rw [Work.requestFrame_st]
      refine ⟨⟨_, by rw [hw]⟩, by simp, fun j hj => nth_put_ne _ _ (Ne.symm hj)⟩)
  refine ⟨l', a, h', fun n => ?_, ha⟩
  have hn := h n
  rw [h', Work.start_st, hs] at hn
  exact hn.trans (congrArg (Link.request · _) (hl n))

/-- The Timebase after a frame tick (R20, R21, R22; log 20). -/
def State.frameTimebase (s : State) : Timebase :=
  { s.timebase with
    frameDiv := 0, framePeriod := periodOf s.settings.divider, frameCounter := s.timebase.frameCounter + 1 }

theorem tickFrame_eq (s : State) :
    tickFrame s = (s.requests.map fun t => { t with timebase := { t.timebase with
      frameDiv := 0, framePeriod := periodOf t.settings.divider
      frameCounter := s.timebase.frameCounter + 1 } }).join := rfl

/-- What a frame tick on a settled state leaves: links and averagers as requested, the Timebase moved on, and of the
store and the free values what the HEAD_CMD events take. -/
theorem tickFrame_frame (s : State) :
    ∃ st fr, tickFrame s = { s with
      links := tab fun n => (nth s.links n).ticked s.timebase.frameCounter
      averagers := tab fun n => (nth s.averagers n).ticked s.timebase.frameCounter
      timebase := s.frameTimebase, store := st, free := fr } := by
  obtain ⟨l, a, hs, hl, ha⟩ := s.requests_st
  obtain rfl : l = tab fun n => (nth s.links n).ticked s.timebase.frameCounter := tab_ext (by simpa using hl)
  obtain rfl : a = tab fun n => (nth s.averagers n).ticked s.timebase.frameCounter := tab_ext (by simpa using ha)
  rw [tickFrame_eq]
  unfold Work.join
  rw [Work.map_st, hs]
  exact ⟨_, _, rfl⟩

theorem frameTick_links (s : State) (n : Fin 8) :
    nth (frameTick s).links n = (s.settledLink n).ticked s.timebase.frameCounter := by
  obtain ⟨-, ht, h⟩ := settled_spec s
  obtain ⟨_, _, hf⟩ := tickFrame_frame (settled s)
  rw [frameTick, hf]
  simp [ht, (h n).1]

theorem frameTick_averagers (s : State) (n : Fin 8) :
    nth (frameTick s).averagers n = (s.settledAverager n).ticked s.timebase.frameCounter := by
  obtain ⟨-, ht, h⟩ := settled_spec s
  obtain ⟨_, _, hf⟩ := tickFrame_frame (settled s)
  rw [frameTick, hf]
  simp [ht, (h n).2]

theorem frameTick_timebase (s : State) : (frameTick s).timebase = s.frameTimebase := by
  obtain ⟨hs, ht, -⟩ := settled_spec s
  obtain ⟨_, _, hf⟩ := tickFrame_frame (settled s)
  rw [frameTick, hf]
  simp [State.frameTimebase, ht, hs]

end Sys2Proof.Machine
end

section
/-! ## What a commit and a second tick make of the links, the averagers and the Timebase -/

namespace Sys2Proof.Machine

/-! ### The stages of a commit -/

/-- The link after its LINK item has been put in force (R9). -/
def Link.restart (l : Link) (old new : LinkItem) : Link :=
  if !new.enabled then if l.state = .off then l else (l.pass .off).forgetHead
  else if l.state = .off then
    if old.address ≠ new.address then (l.pass .seeking).forgetHead else l.pass .seeking
  else if old.address ≠ new.address then
    if l.state = .seeking then { l.forgetHead with goodCycles := 0 } else (l.pass .seeking).forgetHead
  else l

/-- The move that a LINK item brings about, with its cause (R9). -/
def Link.restartMove (l : Link) (old new : LinkItem) : Option (LinkState × LinkCause) :=
  if !new.enabled then if l.state = .off then none else some (.off, .disabled)
  else if l.state = .off then some (.seeking, .enabled)
  else if old.address ≠ new.address then if l.state = .seeking then none else some (.seeking, .address)
  else none

/-- A LINK item makes its move, if any, and then writes its own link alone. -/
theorem Work.restartLink_eq (w : Work) (n : Fin 8) (old new : LinkItem) :
    w.restartLink n old new = (w.transitionIf n ((nth w.st.links n).restartMove old new)).map fun s =>
      { s with links := put s.links n ((nth w.st.links n).restart old new) } := by
  have hput : ∀ (d : LinkState) (c : LinkCause) (g : Link → Link),
      ((w.transition n d c).map fun s => { s with links := upd s.links n g }) =
        (w.transition n d c).map fun s => { s with links := put s.links n (g ((nth w.st.links n).pass d)) } := by
    intro d c g
    simp only [Work.map, upd, Work.transition_links, nth_put_self]
  have hid : ∀ (d : LinkState) (c : LinkCause), ((w.transition n d c).map fun s =>
      { s with links := put s.links n ((nth w.st.links n).pass d) }) = w.transition n d c := by
    intro d c
    simp only [Work.map, Work.transition_links, put_put]
    rw [← Work.transition_links w n d c]
  unfold Work.restartLink Link.restart Link.restartMove
  dsimp only
  split
  · split
    · simp [Work.transitionIf, Work.map]
    · exact hput ..
  · split
    · split
      · exact hput _ _ fun l => l.forgetHead
      · simp only [Work.transitionIf, hid]
        simp [Work.map, upd]
    · split
      · split
        · simp [Work.transitionIf, Work.map, upd]
        · exact hput ..
      · simp [Work.transitionIf, Work.map]

theorem Work.restartLink_frame (w : Work) (n : Fin 8) (old new : LinkItem) :
    ∃ p, (w.restartLink n old new).st =
      { w.st with links := put w.st.links n ((nth w.st.links n).restart old new), ports := p } := by
  rw [Work.restartLink_eq]
  have hl := w.transitionIf_links n ((nth w.st.links n).restartMove old new)
  obtain ⟨l, p, h⟩ := w.transitionIf_frame n ((nth w.st.links n).restartMove old new)
  rw [h] at hl
  simp only at hl
  exact ⟨p, by rw [Work.map_st, h, hl, put_put]⟩

/-- The link after stage 3 of a commit has come to it (R9). -/
def Link.restartBy (l : Link) (old : LinkItem) (item : Option LinkItem) : Link :=
  match item with
  | some v => l.restart old v
  | none => l

theorem Work.commitLink_frame (old : Settings) (items : List Item) (n : Fin 8) (w : Work) :
    ∃ p, (w.commitLink old items n).st =
      { w.st with links := put w.st.links n ((nth w.st.links n).restartBy (nth old.link n) (linkItem items n))
                  ports := p } := by
  unfold Work.commitLink
  cases linkItem items n with
  | some v => exact w.restartLink_frame n _ v
  | none => exact ⟨w.st.ports, by simp [Link.restartBy]⟩

theorem Work.commitLinks_frame (old : Settings) (items : List Item) (s : State) :
    ∃ l p, ((Work.start s).forEach (Work.commitLink old items)).st = { s with links := l, ports := p } ∧
      ∀ n, nth l n = (nth s.links n).restartBy (nth old.link n) (linkItem items n) := by
  obtain ⟨⟨l, p, hw⟩, h⟩ := Work.forEach_local (fun w => ∃ l p, w.st = { s with links := l, ports := p })
    (fun w n => nth w.st.links n) (fun n l => l.restartBy (nth old.link n) (linkItem items n))
    (Work.commitLink old items) (Work.start s) ⟨s.links, s.ports, rfl⟩ (fun i w ⟨_, _, hw⟩ => by
      obtain ⟨p, hi⟩ := w.commitLink_frame old items i
      rw [hi]
      exact ⟨⟨_, p, by rw [hw]⟩, by simp, fun j hj => nth_put_ne _ _ (Ne.symm hj)⟩)
  refine ⟨l, p, hw, fun n => ?_⟩
  have hn := h n
  rw [hw] at hn
  exact hn

theorem Work.remap_frame (w : Work) (c : Fin 8) :
    ∃ ch a p t v l, (w.remap c).st =
      { w.st with channels := ch, alarms := a, ports := p, test := t, intervals := v, lines := l } := by
  obtain ⟨a, p, h⟩ := w.resetEntries_frame c
  unfold Work.remap
  rw [Work.map_st, h]
  exact ⟨_, _, _, _, _, _, rfl⟩

theorem Work.commitChannel_frame (old : Settings) (items : List Item) (c : Fin 8) (w : Work) :
    ∃ ch a p t v l, (w.commitChannel old items c).st =
      { w.st with channels := ch, alarms := a, ports := p, test := t, intervals := v, lines := l } := by
  have hclose : ∀ (b : Prop) [Decidable b], ∃ v, (if b then w.closeInterval c false else w).st =
      { w.st with intervals := v } := by
    intro b _
    split
    · exact w.closeInterval_frame c false
    · exact ⟨_, rfl⟩
  have hremap : ∀ (b : Prop) [Decidable b] (u : Work), ∃ ch a p t v l, (if b then u.remap c else u).st =
      { u.st with channels := ch, alarms := a, ports := p, test := t, intervals := v, lines := l } := by
    intro b _ u
    split
    · exact u.remap_frame c
    · exact ⟨_, _, _, _, _, _, rfl⟩
  unfold Work.commitChannel
  extract_lets new changed u1 u2
  obtain ⟨v, h1⟩ : ∃ v, u1.st = { w.st with intervals := v } := hclose _
  obtain ⟨ch, a, p, t, v', l, h2⟩ : ∃ ch a p t v l, u2.st =
    { u1.st with channels := ch, alarms := a, ports := p, test := t, intervals := v, lines := l } := hremap _ u1
  split
  · exact ⟨_, a, p, _, v', l, by rw [Work.map_st, h2, h1]; rfl⟩
  · exact ⟨ch, a, p, t, v', l, by rw [h2, h1]⟩

/-- Stages 1 and 2 of a commit: the items in force, and of the rest what a MAP reset, an interval's close and an exposure
clamp reach. -/
theorem State.commitChannels_frame (s : State) (items : List Item) :
    ∃ ch a p t v l st fr, s.commitChannels items = { s with
      settings := s.settings.applyAll items, channels := ch, alarms := a, ports := p, test := t, intervals := v
      lines := l, store := st, free := fr } := by
  obtain ⟨ch, a, p, t, v, l, h⟩ := Work.forEach_induct (fun x => ∃ ch a p t v l, x.st = { s with
      settings := s.settings.applyAll items, channels := ch, alarms := a, ports := p, test := t, intervals := v
      lines := l })
    (Work.commitChannel s.settings items) (Work.start { s with settings := s.settings.applyAll items })
    ⟨_, _, _, _, _, _, rfl⟩ (fun i x ⟨_, _, _, _, _, _, hx⟩ => by
      obtain ⟨ch, a, p, t, v, l, h⟩ := x.commitChannel_frame s.settings items i
      exact ⟨ch, a, p, t, v, l, by rw [h, hx]⟩)
  unfold State.commitChannels Work.join
  rw [h]
  exact ⟨_, _, _, _, _, _, _, _, rfl⟩

/-- Stage 3 of a commit: each link by its own item and the divider, and of the rest what the other items reach. -/
theorem State.commitBlocks_frame (s : State) (old : Settings) (items : List Item) :
    ∃ li p k av m l o st fr, s.commitBlocks old items = { s with
        links := li, ports := p, timebase := { s.timebase with frameCounter := k }, averagers := av, storm := m
        lines := l, outputs := o, store := st, free := fr } ∧
      (∀ n, nth li n =
        if old.divider = s.settings.divider then
          (nth s.links n).restartBy (nth old.link n) (linkItem items n)
        else ((nth s.links n).restartBy (nth old.link n) (linkItem items n)).abandonCycle) ∧
      ∀ n, (nth av n).sum = (nth s.averagers n).sum ∧ (nth av n).n = (nth s.averagers n).n := by
  obtain ⟨li, p, hw, hl⟩ := Work.commitLinks_frame old items s
  unfold State.commitBlocks Work.join
  rw [hw]
  unfold State.commitDivider
  by_cases hd : old.divider = s.settings.divider
  · simp only [if_pos hd]
    unfold State.commitStation
    split
    · exact ⟨li, p, s.timebase.frameCounter, s.averagers, _, _, _, _, _, rfl, hl, fun n => ⟨rfl, rfl⟩⟩
    · exact ⟨li, p, s.timebase.frameCounter, s.averagers, _, _, _, _, _, rfl, hl, fun n => ⟨rfl, rfl⟩⟩
  · simp only [if_neg hd]
    unfold State.commitStation
    split
    · exact ⟨_, p, 0, _, _, _, _, _, _, rfl, by simp [hl], by simp⟩
    · exact ⟨_, p, 0, _, _, _, _, _, _, rfl, by simp [hl], by simp⟩

theorem State.commitStore_frame (s : State) (items : List Item) :
    ∃ st p, s.commitStore items = { s with store := st, ports := p } := by
  unfold State.commitStore
  split
  · exact s.clearStore_frame _
  · split
    · exact s.clearStore_frame _
    · exact ⟨_, _, rfl⟩

theorem Work.startTestOn_frame (inputs : BitVec 8) (c : Fin 8) (w : Work) :
    ∃ ch a p t v, (w.startTestOn inputs c).st =
      { w.st with channels := ch, alarms := a, ports := p, test := t, intervals := v } := by
  unfold Work.startTestOn
  split
  · obtain ⟨v, h1⟩ := w.closeInterval_frame c false
    dsimp only
    generalize hu : (w.closeInterval c false).map _ = u
    obtain ⟨a, p, h2⟩ := u.setChannel_frame c (nth w.st.channels c).enterTest
    rw [h2, ← hu, Work.map_st, h1]
    exact ⟨_, _, _, _, _, rfl⟩
  · exact ⟨_, _, _, _, _, rfl⟩

theorem Work.startTest_frame (w : Work) (v : TestItem) :
    ∃ ch a p t i l, (w.startTest v).st =
      { w.st with channels := ch, alarms := a, ports := p, test := t, intervals := i, lines := l } := by
  unfold Work.startTest
  split
  · exact ⟨_, _, _, _, _, _, rfl⟩
  · dsimp only
    generalize hu : w.map _ = u
    obtain ⟨ch, a, p, t, i, h⟩ := Work.forEach_induct (fun x => ∃ ch a p t i, x.st =
      { w.st with channels := ch, alarms := a, ports := p, test := t, intervals := i }) (Work.startTestOn v.inputs) u
      ⟨_, _, _, _, _, by rw [← hu]; rfl⟩ (fun i x ⟨_, _, _, _, _, hx⟩ => by
        obtain ⟨ch, a, p, t, v', h⟩ := x.startTestOn_frame v.inputs i
        exact ⟨ch, a, p, t, v', by rw [h, hx]⟩)
    rw [Work.map_st, Work.event_st, h]
    exact ⟨_, _, _, _, _, _, rfl⟩

theorem State.commitTest_frame (s : State) (items : List Item) :
    ∃ ch a p t v l st fr, s.commitTest items = { s with
      channels := ch, alarms := a, ports := p, test := t, intervals := v, lines := l, store := st, free := fr } := by
  unfold State.commitTest
  split
  · next v _ =>
    obtain ⟨ch, a, p, t, i, l, h⟩ := (Work.start s).startTest_frame v
    unfold Work.join
    rw [h]
    exact ⟨_, _, _, _, _, _, _, _, rfl⟩
  · exact ⟨_, _, _, _, _, _, _, _, rfl⟩

/-- What a commit of these items makes of a link. -/
def State.committedLink (s : State) (items : List Item) (n : Fin 8) : Link :=
  let l := (nth s.links n).restartBy (nth s.settings.link n) (linkItem items n)
  if s.settings.divider = (s.settings.applyAll items).divider then l else l.abandonCycle

theorem State.applyItems_frame (s : State) (items : List Item) :
    ∃ li k av p ch a t v m l o st fr, s.applyItems items = { s with
        settings := s.settings.applyAll items, links := li, timebase := { s.timebase with frameCounter := k }
        averagers := av, ports := p, channels := ch, alarms := a, test := t, intervals := v, storm := m, lines := l
        outputs := o, store := st, free := fr } ∧
      (∀ n, nth li n = s.committedLink items n) ∧
      ∀ n, (nth av n).sum = (nth s.averagers n).sum ∧ (nth av n).n = (nth s.averagers n).n := by
  obtain ⟨_, _, _, _, _, _, _, _, h1⟩ := s.commitChannels_frame items
  obtain ⟨li, _, k, av, m, _, o, _, _, h2, hl, ha⟩ := (s.commitChannels items).commitBlocks_frame s.settings items
  obtain ⟨_, _, h3⟩ := ((s.commitChannels items).commitBlocks s.settings items).commitStore_frame items
  obtain ⟨ch, a, p, t, v, l, st, fr, h4⟩ :=
    (((s.commitChannels items).commitBlocks s.settings items).commitStore items).commitTest_frame items
  refine ⟨li, k, av, p, ch, a, t, v, m, l, o, st, fr, ?_, fun n => ?_, fun n => ?_⟩
  · rw [State.applyItems, h4, h3, h2, h1]
  · rw [hl, h1]
    rfl
  · rw [(ha n).1, (ha n).2, h1]
    exact ⟨rfl, rfl⟩

/-- Where nothing commits, the first stages of a second tick do nothing. -/
theorem State.commitStages_of_uncommitted {s : State} (h : s.uncommitted) : s.commitStages = s := by
  unfold State.uncommitted commits at h
  unfold State.commitStages
  split <;> simp_all

theorem State.commitStages_of_committing {s : State} {owner : PortId} {confirmer : Option PortId} {items : List Item}
    (h : s.proposal = .committing owner confirmer items) : s.commitStages = s.applyItems items := by
  unfold State.commitStages
  rw [h]

/-- Either nothing commits at the next second tick, or an agreed proposal does. -/
theorem State.uncommitted_or_committing (s : State) :
    s.uncommitted ∨ ∃ owner confirmer items, s.proposal = .committing owner confirmer items := by
  unfold State.uncommitted commits
  cases s.proposal <;> simp

/-- A commit leaves the divider counts, the time, the proposal buffer, and what each second holds so far. -/
theorem State.commitStages_timing (s : State) :
    (∃ k, s.commitStages.timebase = { s.timebase with frameCounter := k }) ∧ s.commitStages.proposal = s.proposal ∧
      ∀ n, (nth s.commitStages.averagers n).sum = (nth s.averagers n).sum ∧
        (nth s.commitStages.averagers n).n = (nth s.averagers n).n := by
  rcases s.uncommitted_or_committing with h | ⟨_, _, items, h⟩
  · rw [State.commitStages_of_uncommitted h]
    exact ⟨⟨s.timebase.frameCounter, rfl⟩, rfl, fun n => ⟨rfl, rfl⟩⟩
  · rw [State.commitStages_of_committing h]
    obtain ⟨_, k, _, _, _, _, _, _, _, _, _, _, _, he, _, ha⟩ := s.applyItems_frame items
    rw [he]
    exact ⟨⟨k, rfl⟩, rfl, ha⟩

/-! ### The second tick -/

/-- A LOST link is retried (R8). -/
def Link.retried (l : Link) : Link := if l.state = .lost then l.pass .seeking else l

theorem Work.retryLink_links (n : Fin 8) (w : Work) :
    (w.retryLink n).st.links = put w.st.links n (nth w.st.links n).retried := by
  unfold Work.retryLink Link.retried
  split
  · exact w.transition_links n .seeking .retry
  · simp

theorem Work.retryLinks_frame (s : State) :
    ∃ l p, ((Work.start s).forEach Work.retryLink).st = { s with links := l, ports := p } ∧
      ∀ n, nth l n = (nth s.links n).retried := by
  obtain ⟨⟨l, p, hw⟩, h⟩ := Work.forEach_local (fun w => ∃ l p, w.st = { s with links := l, ports := p })
    (fun w n => nth w.st.links n) (fun _ l => l.retried) Work.retryLink (Work.start s) ⟨s.links, s.ports, rfl⟩
    (fun i w ⟨_, _, hw⟩ => by
      obtain ⟨_, p, hi⟩ := w.retryLink_frame i
      refine ⟨⟨_, p, by rw [hi, hw]⟩, ?_, fun j hj => ?_⟩
      · rw [Work.retryLink_links, nth_put_self]
      · rw [Work.retryLink_links, nth_put_ne _ _ (Ne.symm hj)])
  refine ⟨l, p, hw, fun n => ?_⟩
  have hn := h n
  rw [hw] at hn
  exact hn

/-- The test as a second tick leaves it before the channels are evaluated: a running one has supplied its value (R40). -/
def TestGen.afterSupply (t : TestGen) : TestGen :=
  match t.plan with
  | some p => t.supply p
  | none => t

theorem State.supplyTest_eq (s : State) : s.supplyTest = { s with test := s.test.afterSupply } := by
  unfold State.supplyTest TestGen.afterSupply
  cases s.test.plan <;> rfl

/-- The inputs of a second, from what the commit has left. -/
theorem tickInputs_spec (s : State) :
    ∃ l p, (tickInputs s).st = { s.commitStages with
        links := l, ports := p
        averagers := tab fun n => (nth s.commitStages.averagers n).formSecond s.commitStages.timebase.time
        test := s.commitStages.test.afterSupply } ∧
      ∀ n, nth l n = (nth s.commitStages.links n).retried := by
  obtain ⟨l, p, hw, hl⟩ := Work.retryLinks_frame s.commitStages
  refine ⟨l, p, ?_, hl⟩
  rw [tickInputs, Work.map_st, Work.map_st, hw, State.supplyTest_eq]
  rfl

theorem Work.handAll_frame (before : Tab 8 Channel) (w : Work) :
    ∃ a p v, (w.forEach (Work.handResults before)).st = { w.st with alarms := a, ports := p, intervals := v } :=
  Work.forEach_induct (fun x => ∃ a p v, x.st = { w.st with alarms := a, ports := p, intervals := v })
    (Work.handResults before) w ⟨_, _, _, rfl⟩ (fun i x ⟨_, _, _, hx⟩ => by
      obtain ⟨a, p, v, h⟩ := x.handResults_frame before i
      exact ⟨a, p, v, by rw [h, hx]⟩)

/-- From the storm decision to the retransmit codes, a second tick reaches the channels, the alarms, the lines, the
intervals, the outputs and the ports. -/
theorem tickHanded_frame (pulled : Bool) (s : State) :
    ∃ ch a l v o p, (tickHanded pulled s).st = { (tickDecided pulled s).st with
      channels := ch, alarms := a, lines := l, intervals := v, outputs := o, ports := p } := by
  obtain ⟨a, p, v, h⟩ := (tickMoved pulled s).handAll_frame (tickInputs s).st.channels
  rw [tickHanded, Work.map_st, Work.map_st, h, tickMoved, Work.map_st]
  generalize (tickDecided pulled s).st = d
  exact ⟨_, _, _, _, _, _, rfl⟩

/-- What follows reaches the test and the proposal as well. -/
theorem tickCounted_frame (pulled : Bool) (s : State) :
    ∃ ch a l v o p t pr, (tickCounted pulled s).st = { (tickDecided pulled s).st with
      channels := ch, alarms := a, lines := l, intervals := v, outputs := o, ports := p, test := t, proposal := pr } := by
  obtain ⟨_, _, _, _, o, _, h1⟩ := tickHanded_frame pulled s
  obtain ⟨ch, a, _, t, v, l, h2⟩ := (tickHanded pulled s).countTest_frame
  obtain ⟨pr, p, h3⟩ := (tickHanded pulled s).countTest.countWindows_frame
  exact ⟨ch, a, l, v, o, p, t, pr, by rw [tickCounted, h3, h2, h1]⟩

theorem tickDecided_frame (pulled : Bool) (s : State) :
    ∃ m p, (tickDecided pulled s).st = { (tickJudged s).st with storm := m, ports := p } :=
  (tickJudged s).decideStorm_frame pulled

/-- The close of a commit reaches the generation, the proposal, the ports and the store (R190, stage 7). -/
theorem State.closeCommit_frame (s : State) :
    ∃ g pr p st fr, s.closeCommit =
      { s with generation := g, proposal := pr, ports := p, store := st, free := fr } := by
  unfold State.closeCommit
  split
  · exact ⟨_, _, _, _, _, rfl⟩
  all_goals exact ⟨_, _, _, _, _, rfl⟩

/-- What a second tick leaves of the storm, the links, the averagers, the settings and the Timebase. -/
theorem secondTick_fields (pulled : Bool) (s : State) :
    (secondTick pulled s).storm = (tickDecided pulled s).st.storm ∧
      (secondTick pulled s).links = (tickJudged s).st.links ∧
      (secondTick pulled s).averagers = (tickInputs s).st.averagers ∧
      (secondTick pulled s).settings = (tickInputs s).st.settings ∧
      (secondTick pulled s).timebase =
        { (tickInputs s).st.timebase with secondDiv := 0, time := (tickInputs s).st.timebase.time + 1 } := by
  obtain ⟨_, _, hd⟩ := tickDecided_frame pulled s
  obtain ⟨_, _, _, _, _, _, _, _, hc⟩ := tickCounted_frame pulled s
  obtain ⟨_, _, _, _, _, hl⟩ := (tickCounted pulled s).join.closeCommit_frame
  rw [secondTick, State.endSecond, hl]
  simp only [Work.join_storm, Work.join_links, Work.join_averagers, Work.join_settings, Work.join_timebase, hc, hd,
    tickJudged, Work.map_st, State.judgeChannels_averagers, State.judgeChannels_settings,
    State.judgeChannels_timebase, and_self]

/-- The zeroing mark of a link begun afresh for the second that begins (R57). -/
def Link.freshMark (l : Link) : Link := { l with zeroSeen := l.zeroing }

/-- The links, the averagers, the settings and the Timebase after a second tick, from what a commit at it has left (R8,
R23, R29, R57). -/
theorem secondTick_spec (pulled : Bool) (s : State) :
    (∀ n, nth (secondTick pulled s).links n = (nth s.commitStages.links n).retried.freshMark) ∧
      (∀ n, nth (secondTick pulled s).averagers n =
        (nth s.commitStages.averagers n).formSecond s.commitStages.timebase.time) ∧
      (secondTick pulled s).settings = s.commitStages.settings ∧
      (secondTick pulled s).timebase =
        { s.commitStages.timebase with secondDiv := 0, time := s.commitStages.timebase.time + 1 } := by
  obtain ⟨l, p, hi, hl⟩ := tickInputs_spec s
  obtain ⟨-, h1, h2, h3, h4⟩ := secondTick_fields pulled s
  rw [h1, h2, h3, h4, tickJudged, Work.map_st, hi]
  exact ⟨fun n => by simp [State.judgeChannels, hl, Link.freshMark], by simp, rfl, rfl⟩

end Sys2Proof.Machine
end

section
/-! ## What a command can do to the links -/

namespace Sys2Proof.Machine

/-! ### Requests and store accesses leave the links -/

/-- A request that leaves the links leaves them to the end of its transfer. -/
theorem State.endTransfer_links (s : State) (p : PortId) {take : State → State × Reply}
    (h : ∀ u, (take u).1.links = u.links) : (s.endTransfer p take).links = s.links := by
  rcases s.endTransfer_cases p take with ⟨-, e⟩ | ⟨-, e⟩
  · rw [e, State.updPort_links]
  · rw [e, State.updPort_links, h, State.deliver_links]

theorem State.takeAcknowledge_links (s : State) (p : PortId) (selector : Byte) (mask : BitVec 32) :
    (s.takeAcknowledge p selector mask).1.links = s.links := by
  have hw : ∀ changed : BitVec 32,
      ((Work.start s).forEach (Work.acknowledge p changed)).st.links = s.links := fun changed =>
    Work.forEach_induct (fun w => w.st.links = s.links) _ _ rfl (fun i w hw => by
      unfold Work.acknowledge
      split
      · exact hw
      · exact hw)
  unfold State.takeAcknowledge
  split
  · rfl
  · dsimp only
    split
    · rfl
    · exact hw _

theorem State.takeSetTime_links (s : State) (p : PortId) (time : Time) :
    (s.takeSetTime p time).1.links = s.links := by
  unfold State.takeSetTime
  dsimp only
  rw [Work.join_links]
  exact Work.forEach_induct (fun w => w.st.links = s.links) _ _ rfl (fun i w hw => by
    obtain ⟨_, h⟩ := w.closeInterval_frame i true
    rw [h]
    exact hw)

theorem State.takeStopTest_links (s : State) (p : PortId) : (s.takeStopTest p).1.links = s.links := by
  unfold State.takeStopTest
  split
  · obtain ⟨_, _, _, _, _, _, h⟩ := (Work.start s).endTest_frame .stopped (.port p)
    rw [Work.join_links, h]
    rfl
  · rfl

theorem State.placeCursor_links (s : State) (p : PortId) (code ring : Byte) (f : Ring → Nat) :
    (s.placeCursor p code ring f).1.links = s.links := by
  unfold State.placeCursor
  split
  · rfl
  · split <;> rfl

theorem State.takeFetch_links (s : State) (p : PortId) (ring count : Byte) :
    (s.takeFetch p ring count).1.links = s.links := by
  unfold State.takeFetch
  split
  · rfl
  · split <;> rfl

theorem State.takeCollect_links (s : State) (p : PortId) : (s.takeCollect p).1.links = s.links := by
  unfold State.takeCollect
  dsimp only
  split <;> rfl

theorem State.takeCancel_links (s : State) (p : PortId) : (s.takeCancel p).1.links = s.links := by
  unfold State.takeCancel
  split <;> rfl

theorem State.takeDraftItem_links (s : State) (p : PortId) (kind index : Byte) (fields : List Byte) :
    (s.takeDraftItem p kind index fields).1.links = s.links := by
  unfold State.takeDraftItem
  split
  · split <;> rfl
  · split
    · rfl
    · split <;> rfl
  · rfl
  · rfl

theorem State.takePost_links (s : State) (p : PortId) : (s.takePost p).1.links = s.links := by
  unfold State.takePost
  split
  · split
    · rfl
    · split
      · rfl
      · dsimp only
        split <;> rfl
  all_goals rfl

theorem State.takeConfirm_links (s : State) (p : PortId) (number : BitVec 16) :
    (s.takeConfirm p number).1.links = s.links := by
  unfold State.takeConfirm
  split
  · split <;> rfl
  all_goals rfl

theorem State.takeWithdraw_links (s : State) (p : PortId) : (s.takeWithdraw p).1.links = s.links := by
  unfold State.takeWithdraw
  split
  · split <;> rfl
  · split <;> rfl
  all_goals rfl

theorem State.takeOptions_links (s : State) (p : PortId) (option : Byte) :
    (s.takeOptions p option).1.links = s.links := by
  unfold State.takeOptions
  split <;> rfl

theorem State.judgeAll_links (s : State) (p : PortId) : (s.judgeAll p).links = s.links := by
  unfold State.judgeAll
  generalize List.finRange 9 = l
  induction l generalizing s with
  | nil => rfl
  | cons r l ih => exact ih (s.moveCursor p r id)

theorem State.restartedPort_links (s : State) (p : PortId) : (s.restartedPort p).links = s.links := by
  simp [State.restartedPort, State.judgeAll_links]

theorem State.takeRestart_links (s : State) (p : PortId) : (s.takeRestart p).1.links = s.links := by
  have hw : ∀ u : State, (u.withdrawn p .portRestart).links = u.links := fun _ => rfl
  unfold State.takeRestart
  dsimp only
  split
  · split
    · rw [hw, State.restartedPort_links]
    · exact s.restartedPort_links p
  all_goals exact s.restartedPort_links p

theorem State.wrapRing_links (s : State) (r : Fin 9) : (s.wrapRing r).links = s.links := by
  have hclear : ∀ (u : State) (p : PortId),
      (if (u.port p).slot.ring = some r then u.clearFetch p else u).links = u.links := by
    intro u p
    split
    · exact u.clearFetch_links p
    · rfl
  unfold State.wrapRing State.forPorts
  dsimp only
  rw [hclear, hclear, hclear]

theorem State.grant_links (s : State) : s.grant.links = s.links := by
  unfold State.grant
  split
  · unfold State.grantWrite
    dsimp only
    split
    · rfl
    · split
      · exact State.wrapRing_links _ _
      · rfl
  · split
    · unfold State.grantCopy
      dsimp only
      split <;> rfl
    · rfl

theorem State.copied_links (s : State) (p : PortId) (r : StoredRecord) : (s.copied p r).links = s.links := by
  unfold State.copied
  split
  · dsimp only
    split <;> rfl
  all_goals rfl

theorem State.finishWrite_links (s : State) (q : QueuedRecord) : (s.finishWrite q).links = s.links := by
  obtain ⟨_, _, h⟩ := s.finishWrite_frame q
  rw [h]

/-! ### Head commands -/

/-- What SEND HEAD COMMAND can do to the links: nothing, or a command loaded into the empty slot of a LOCKED link
(R15). -/
theorem State.takeHeadCommand_links (s : State) (input code : Byte) :
    (s.takeHeadCommand input code).1.links = s.links ∨
      ∃ n command, (nth s.links n).state = .locked ∧
        (s.takeHeadCommand input code).1.links =
          put s.links n { nth s.links n with command := some command, sending := false } := by
  unfold State.takeHeadCommand
  split
  · next n command _ _ =>
    dsimp only
    split
    · exact .inl rfl
    · split
      · exact .inl rfl
      · next hl =>
        split
        · exact .inl rfl
        · exact .inr ⟨n, command, not_not.mp hl, rfl⟩
  · exact .inl rfl

/-! ### Every command -/

/-- What a step can do to the links. -/
inductive LinksMove (s t : State) : Prop where
  /-- No link is reached. -/
  | stand (h : t.links = s.links)
  /-- A frame arrives on an input (R2). -/
  | arrival (n : Fin 8) (frame : BitVec 32)
      (h : t.links = put s.links n ((nth s.links n).arrived (nth s.settings.link n).address frame))
  /-- A frame tick requests frames (R1). -/
  | frame (h : ∀ n, nth t.links n = (s.settledLink n).ticked s.timebase.frameCounter)
  /-- A second tick commits, retries and begins the zeroing marks afresh (R8, R9, R57). -/
  | second (h : ∀ n, nth t.links n = (nth s.commitStages.links n).retried.freshMark)
  /-- A head command is loaded on a LOCKED link (R15). -/
  | command (n : Fin 8) (c : HeadCommand) (hn : (nth s.links n).state = .locked)
      (h : t.links = put s.links n { nth s.links n with command := some c, sending := false })

/-- The outcome of a command goes on to a state whose links have moved from `s` in one of these ways. -/
def LinksMoved (s : State) (o : Host.Outcome State Fault Refusal) : Prop := ∀ t, o = .next t → LinksMove s t

theorem LinksMoved.of_next {s t : State} (h : LinksMove s t) : LinksMoved s (.next t) := by
  rintro _ ⟨⟩
  exact h

theorem LinksMoved.of_links {s t : State} (h : t.links = s.links) : LinksMoved s (.next t) := .of_next (.stand h)

theorem LinksMoved.of_request {s : State} {p : PortId} {take : State → State × Reply}
    (h : ∀ u, (take u).1.links = u.links) : LinksMoved s (.next (s.endTransfer p take)) :=
  .of_links (s.endTransfer_links p h)

/-- A second tick that may not be due. -/
theorem LinksMoved.of_second {s : State} (pulled b : Bool) :
    LinksMoved s (.next (if b then secondTick pulled s else s)) := by
  cases b
  · exact .of_links rfl
  · exact .of_next (.second (secondTick_spec pulled s).1)

/-- A frame tick that may not be due. -/
theorem LinksMoved.of_frame {s : State} (b : Bool) : LinksMoved s (.next (if b then frameTick s else s)) := by
  cases b
  · exact .of_links rfl
  · exact .of_next (.frame (frameTick_links s))

theorem LinksMoved.of_headCommand {s : State} (p : PortId) (input code : Byte) :
    LinksMoved s (.next (s.endTransfer p fun s => s.takeHeadCommand input code)) := by
  refine .of_next ?_
  rcases s.endTransfer_cases p (fun s => s.takeHeadCommand input code) with ⟨-, e⟩ | ⟨-, e⟩
  · exact .stand (by rw [e, State.updPort_links])
  · rcases (s.deliver p).takeHeadCommand_links input code with h | ⟨n, c, hn, h⟩
    · exact .stand (by rw [e, State.updPort_links, h, State.deliver_links])
    · rw [State.deliver_links] at hn h
      exact .command n c hn (by rw [e, State.updPort_links, h])

/-- Every command but power-on moves the links in one of the listed ways. -/
theorem exec_links (i : Instr) (s : State) (hi : ∀ solo, i ≠ .powerOnReset solo) : LinksMoved s (exec i s) := by
  cases i with
  | powerOnReset solo => exact absurd rfl (hi solo)
  | frameTick => exact .of_frame true
  | frameArrival n frame =>
    exact .of_next (.arrival n frame (by rw [Work.join_links, Work.arrive_links]; rfl))
  | headCmdStart n => exact .of_frame _
  | headCmdSent n => exact .of_frame _
  | secondTick pulled => exact .of_second pulled true
  | linkRetry n pulled => exact .of_second pulled _
  | staleEntry c pulled => exact .of_second pulled _
  | learningEnd c pulled => exact .of_second pulled _
  | tailEnd pulled => exact .of_second pulled _
  | testExpiry pulled => exact .of_second pulled _
  | draftExpiry pulled => exact .of_second pulled _
  | confirmExpiry pulled => exact .of_second pulled _
  | commit pulled => exact .of_second pulled _
  | storeGrant =>
    refine .of_links ?_
    split
    · exact s.grant_links
    all_goals rfl
  | writeComplete =>
    refine .of_links ?_
    split
    · exact State.finishWrite_links _ _
    all_goals rfl
  | copyComplete =>
    refine .of_links ?_
    split
    · exact State.copied_links _ _ _
    all_goals rfl
  | discardTimerExpiry p =>
    refine .of_links ?_
    split <;> rfl
  | pwmPeriodStart o => exact .of_links rfl
  | pwmPulseEnd o => exact .of_links rfl
  | transferStart p =>
    refine .of_links ?_
    split <;> rfl
  | frameError p bits =>
    refine .of_links ?_
    split
    · exact s.endTransfer_links p fun _ => rfl
    · exact s.endTransfer_links p fun _ => rfl
    · rfl
  | nop p => exact .of_request fun _ => rfl
  | getChannel p x => exact .of_request fun _ => rfl
  | getHead p x => exact .of_request fun _ => rfl
  | getAlarms p x => exact .of_request fun _ => rfl
  | getStation p => exact .of_request fun _ => rfl
  | getSetting p k x => exact .of_request fun _ => rfl
  | getProposal p x => exact .of_request fun _ => rfl
  | acknowledge p x m => exact .of_request fun u => u.takeAcknowledge_links p x m
  | setTime p x => exact .of_request fun u => u.takeSetTime_links p x
  | sendHeadCommand p input code => exact .of_headCommand p input code
  | stopTest p => exact .of_request fun u => u.takeStopTest_links p
  | seek p r q => exact .of_request fun u => u.placeCursor_links p _ r _
  | rewind p r => exact .of_request fun u => u.placeCursor_links p _ r _
  | fetch p r n => exact .of_request fun u => u.takeFetch_links p r n
  | collect p => exact .of_request fun u => u.takeCollect_links p
  | cancel p => exact .of_request fun u => u.takeCancel_links p
  | draftItem p k x fs =>
    refine .of_request fun u => ?_
    split
    · exact u.takeDraftItem_links p k x fs
    · rfl
  | post p => exact .of_request fun u => (u.strapAt p.solo).takePost_links p.port
  | confirm p n => exact .of_request fun u => u.takeConfirm_links p n
  | withdraw p => exact .of_request fun u => u.takeWithdraw_links p
  | getNotices p => exact .of_request fun _ => rfl
  | setNoticeMask p m => exact .of_request fun _ => rfl
  | setPortOptions p o => exact .of_request fun u => u.takeOptions_links p o
  | restartPort p => exact .of_request fun u => u.takeRestart_links p

end Sys2Proof.Machine
end

section
/-! ## Link transitions (R3) and the soundness of the links -/

namespace Sys2Proof.Machine

/-! ### What leaves a link's state alone -/

@[simp] theorem Link.count_state (l : Link) (f : InFlight) (cls : FrameClass) (frame : BitVec 32) :
    (l.count f cls frame).state = l.state := by
  cases cls
  · simp only [Link.count]; split <;> rfl
  · simp only [Link.count]; split <;> rfl
  · simp only [Link.count]; split <;> split <;> rfl

@[simp] theorem Link.counted_state (l : Link) (f : InFlight) (cls : FrameClass) (frame : BitVec 32) :
    (l.counted f cls frame).state = l.state := Link.count_state _ f cls frame

@[simp] theorem Link.formWord_state (l : Link) : l.formWord.state = l.state := by
  unfold Link.formWord
  split <;> rfl

@[simp] theorem Link.countCycle_state (l : Link) : l.countCycle.state = l.state := by
  unfold Link.countCycle
  dsimp only
  split <;> rfl

@[simp] theorem Link.ticked_state (l : Link) (index : Fin 16) : (l.ticked index).state = l.state := by
  unfold Link.ticked Link.request
  dsimp only
  split <;> split <;> rfl

@[simp] theorem Link.forgetHead_state (l : Link) : l.forgetHead.state = l.state := rfl
@[simp] theorem Link.freshMark_state (l : Link) : l.freshMark.state = l.state := rfl

/-! ### The transitions that are made -/

/-- Everything that the arrival of a frame can bring about before a cycle end (R4, R5). -/
theorem arrivalTransition_cases (l : Link) (f : InFlight) (cls : FrameClass) (frame : BitVec 32) :
    arrivalTransition l f cls frame = none ∨
      (l.state = .locked ∧ arrivalTransition l f cls frame = some (.slipped, .mark)) ∨
      ((l.state = .locked ∨ l.state = .slipped) ∧
        ∃ cause, arrivalTransition l f cls frame = some (.lost, cause)) := by
  unfold arrivalTransition
  split
  · next h =>
    split
    · split
      · exact .inl rfl
      · exact .inr (.inl ⟨h, rfl⟩)
    · split
      · exact .inr (.inr ⟨.inl h, _, rfl⟩)
      · exact .inl rfl
  · next h =>
    split
    · exact .inr (.inr ⟨.inr h, _, rfl⟩)
    · exact .inl rfl
  all_goals exact .inl rfl

/-- The link that the arrival of a frame leaves, before a cycle end (R4, R5). -/
theorem Link.judged_cases (l : Link) (f : InFlight) (cls : FrameClass) (frame : BitVec 32) :
    l.judged f cls frame = l.counted f cls frame ∨
      (l.state = .locked ∧ l.judged f cls frame = (l.counted f cls frame).pass .slipped) ∨
      ((l.state = .locked ∨ l.state = .slipped) ∧ l.judged f cls frame = (l.counted f cls frame).pass .lost) := by
  unfold Link.judged
  rcases arrivalTransition_cases (l.counted f cls frame) f cls frame with h | ⟨hs, h⟩ | ⟨hs, _, h⟩ <;>
    rw [h] <;> simp_all

/-- Everything that a cycle end can bring about (R6, R7). -/
theorem cycleTransition_cases (l : Link) :
    cycleTransition l = none ∨
      ((l.state = .seeking ∨ l.state = .slipped) ∧ ∃ cause, cycleTransition l = some (.locked, cause)) ∨
      (l.state = .slipped ∧ cycleTransition l = some (.lost, .noRelock)) := by
  unfold cycleTransition
  split
  · next h =>
    split
    · exact .inr (.inl ⟨.inl h, _, rfl⟩)
    · exact .inl rfl
  · next h =>
    split
    · exact .inr (.inl ⟨.inr h, _, rfl⟩)
    · split
      · exact .inr (.inr ⟨h, rfl⟩)
      · exact .inl rfl
  all_goals exact .inl rfl

/-- The link that a cycle end leaves (R6, R7, R11). -/
theorem Link.endCycle_cases (l : Link) :
    (l.state = .locked ∧ l.endCycle = l.formWord) ∨ (l.state ≠ .locked ∧ l.endCycle = l.countCycle) ∨
      ((l.state = .seeking ∨ l.state = .slipped) ∧ l.endCycle = l.countCycle.pass .locked) ∨
      (l.state = .slipped ∧ l.endCycle = l.countCycle.pass .lost) := by
  unfold Link.endCycle
  split
  · next h => exact .inl ⟨h, rfl⟩
  · next h =>
    rcases cycleTransition_cases l.countCycle with hc | ⟨hs, _, hc⟩ | ⟨hs, hc⟩ <;> rw [hc] <;> simp_all

/-- Everything that a LINK item can bring about (R9). -/
theorem Link.restartMove_cases (l : Link) (old new : LinkItem) :
    l.restartMove old new = none ∨
      (l.state ≠ .off ∧ l.restartMove old new = some (.off, .disabled)) ∨
      (l.state = .off ∧ l.restartMove old new = some (.seeking, .enabled)) ∨
      (l.state ≠ .off ∧ l.state ≠ .seeking ∧ l.restartMove old new = some (.seeking, .address)) := by
  unfold Link.restartMove
  split
  · split
    · exact .inl rfl
    · next h => exact .inr (.inl ⟨h, rfl⟩)
  · split
    · next h => exact .inr (.inr (.inl ⟨h, rfl⟩))
    · next h =>
      split
      · split
        · exact .inl rfl
        · next h' => exact .inr (.inr (.inr ⟨h, h', rfl⟩))
      · exact .inl rfl

/-- A LINK item leaves the link in the state of its move. -/
theorem Link.restart_state (l : Link) (old new : LinkItem) :
    (l.restart old new).state = (l.passIf (l.restartMove old new)).state := by
  unfold Link.restart Link.restartMove
  split
  · split <;> simp
  · split
    · split <;> simp
    · split
      · split <;> simp
      · rfl

/-! ### R3's table -/

/-- A link that was in one state may be in another after a step: the same, or one that R3's table lists. -/
def LinkState.mayGo (a b : LinkState) : Prop := b = a ∨ (a, b) ∈ linkTransitions

/-- R3's table lists every way to OFF. -/
theorem LinkState.mayGo_off {a : LinkState} (h : a ≠ .off) : a.mayGo .off :=
  .inr (by cases a <;> simp_all [linkTransitions])

/-- R3's table lists every way to SEEKING. -/
theorem LinkState.mayGo_seeking {a : LinkState} (h : a ≠ .seeking) : a.mayGo .seeking :=
  .inr (by cases a <;> simp_all [linkTransitions])

/-- A link may go from LOCKED and SLIPPED to LOST, and from LOCKED to SLIPPED (R4, R5). -/
theorem Link.judged_mayGo (l : Link) (f : InFlight) (cls : FrameClass) (frame : BitVec 32) :
    l.state.mayGo (l.judged f cls frame).state := by
  rcases l.judged_cases f cls frame with h | ⟨hs, h⟩ | ⟨hs | hs, h⟩ <;> rw [h]
  · exact .inl (l.counted_state f cls frame)
  all_goals rw [Link.pass_state, hs]; exact .inr (by decide)

/-- A link may go from SEEKING and SLIPPED to LOCKED, and from SLIPPED to LOST, at a cycle end (R6, R7). -/
theorem Link.endCycle_mayGo (l : Link) : l.state.mayGo l.endCycle.state := by
  rcases l.endCycle_cases with ⟨-, h⟩ | ⟨-, h⟩ | ⟨hs | hs, h⟩ | ⟨hs, h⟩ <;> rw [h]
  · exact .inl l.formWord_state
  · exact .inl l.countCycle_state
  all_goals rw [Link.pass_state, hs]; exact .inr (by decide)

/-- A link that has just gone to SLIPPED or LOST stays there at the end of that cycle: its counts have begun anew. -/
theorem Link.endCycle_pass_state (l : Link) (dest : LinkState) (h : dest = .slipped ∨ dest = .lost) :
    (l.pass dest).endCycle.state = dest := by
  rcases h with rfl | rfl
  · simp [Link.endCycle, Link.countCycle, cycleTransition, Link.pass, Link.enter]
  · simp [Link.endCycle, Link.countCycle, cycleTransition]

/-- The arrival of a frame makes at most one transition of R3's table. -/
theorem Link.arrived_mayGo (l : Link) (address : BitVec 3) (frame : BitVec 32) :
    l.state.mayGo (l.arrived address frame).state := by
  unfold Link.arrived
  split
  · exact .inl rfl
  · next f _ =>
    have hj := l.judged_mayGo f (classify address frame) frame
    dsimp only
    split
    · rcases l.judged_cases f (classify address frame) frame with h | ⟨-, h⟩ | ⟨-, h⟩ <;> rw [h] at hj ⊢
      · simpa using (l.counted f (classify address frame) frame).endCycle_mayGo
      · rw [Link.endCycle_pass_state _ _ (.inl rfl)]
        simpa using hj
      · rw [Link.endCycle_pass_state _ _ (.inr rfl)]
        simpa using hj
    · exact hj

/-- A second tick makes at most one transition of a link: that of its LINK item, or the retry of a LOST link that no
item has moved (R8, R9). -/
theorem Link.retried_restartBy_mayGo (l : Link) (old : LinkItem) (item : Option LinkItem) (m : Link)
    (hm : m.state = (l.restartBy old item).state) : l.state.mayGo m.retried.state := by
  have hretry : m.state = l.state → l.state.mayGo m.retried.state := by
    intro h
    unfold Link.retried
    split
    · next hl =>
      rw [h] at hl
      rw [hl, Link.pass_state]
      exact .inr (by decide)
    · exact .inl h
  have hmoved : ∀ d, m.state = d → d ≠ .lost → l.state.mayGo d → l.state.mayGo m.retried.state := by
    rintro _ rfl hd hg
    rw [Link.retried, if_neg hd]
    exact hg
  cases item with
  | none => exact hretry hm
  | some v =>
    rw [Link.restartBy, Link.restart_state] at hm
    rcases l.restartMove_cases old v with h | ⟨h0, h⟩ | ⟨h0, h⟩ | ⟨h0, h1, h⟩
    · rw [h] at hm
      exact hretry hm
    all_goals rw [h, Link.passIf_some, Link.pass_state] at hm
    · exact hmoved _ hm (by decide) (LinkState.mayGo_off h0)
    · exact hmoved _ hm (by decide) (LinkState.mayGo_seeking (by simp [h0]))
    · exact hmoved _ hm (by decide) (LinkState.mayGo_seeking h1)

theorem State.committedLink_state (s : State) (items : List Item) (n : Fin 8) :
    (s.committedLink items n).state =
      ((nth s.links n).restartBy (nth s.settings.link n) (linkItem items n)).state := by
  unfold State.committedLink
  dsimp only
  split <;> rfl

theorem State.applyItems_links (s : State) (items : List Item) (n : Fin 8) :
    nth (s.applyItems items).links n = s.committedLink items n := by
  obtain ⟨_, _, _, _, _, _, _, _, _, _, _, _, _, h, hl, _⟩ := s.applyItems_frame items
  rw [h]
  exact hl n

theorem State.secondLink_mayGo (s : State) (n : Fin 8) :
    (nth s.links n).state.mayGo (nth s.commitStages.links n).retried.state := by
  rcases s.uncommitted_or_committing with h | ⟨_, _, items, h⟩
  · rw [State.commitStages_of_uncommitted h]
    exact Link.retried_restartBy_mayGo _ (nth s.settings.link n) none _ rfl
  · rw [State.commitStages_of_committing h, State.applyItems_links]
    exact Link.retried_restartBy_mayGo _ _ _ _ (s.committedLink_state items n)

/-- Settles O12: each way in which a command can move the links makes at most one transition of a link. -/
theorem linkTransitionsAllowed : Obligations.LinkTransitionsAllowed := by
  intro i s t n hi ht
  change (nth s.links n).state.mayGo (nth t.links n).state
  cases exec_links i s hi t ht with
  | stand h => rw [h]; exact .inl rfl
  | arrival m frame h =>
    rw [h, nth_put]
    split
    · next e => subst e; exact Link.arrived_mayGo _ _ _
    · exact .inl rfl
  | frame h =>
    rw [h, Link.ticked_state]
    exact Link.arrived_mayGo _ _ _
  | second h =>
    rw [h, Link.freshMark_state]
    exact s.secondLink_mayGo n
  | command m c hm h =>
    rw [h, nth_put]
    split
    · next e => subst e; exact .inl rfl
    · exact .inl rfl

/-! ### Soundness -/

theorem Link.reset_sound : Link.reset.sound := by
  refine ⟨fun _ => ⟨rfl, rfl, rfl⟩, fun _ => rfl, fun h => absurd h (by decide), ?_, ?_, ?_⟩ <;> decide

/-- A transition leaves a sound link sound: what LOCKED alone may hold goes as LOCKED is left, and OFF and LOST have the
lines low (R1, R12, R18). -/
theorem Link.sound.pass {l : Link} (h : l.sound) (dest : LinkState) : (l.pass dest).sound := by
  obtain ⟨hword, hsend, -, hbad, hgood, hslip⟩ := h
  unfold Link.pass
  split
  · cases dest <;> simp [Link.sound, Link.enter, Link.leaveLocked, LinkState.requested, *]
  · next hl =>
    obtain ⟨hw, hc, hcmd⟩ := hword hl
    cases dest <;> simp [Link.sound, Link.enter, LinkState.requested, *]

theorem Link.sound.counted {l : Link} (h : l.sound) (f : InFlight) (cls : FrameClass) (frame : BitVec 32) :
    (l.counted f cls frame).sound := by
  obtain ⟨hword, hsend, hlines, hbad, hgood, hslip⟩ := h
  have hlines' := fun hr => (hlines hr).2
  unfold Link.counted Link.count
  cases cls with
  | good =>
    dsimp only
    split <;> split <;> exact ⟨hword, hsend, fun hr => ⟨rfl, hlines' hr⟩, by simp [hbad], hgood, hslip⟩
  | bad =>
    dsimp only
    split <;> exact ⟨hword, hsend, fun hr => ⟨rfl, hlines' hr⟩, by simp [hbad], hgood, hslip⟩
  | absent =>
    dsimp only
    split <;> exact ⟨hword, hsend, fun hr => ⟨rfl, hlines' hr⟩, by simp [hbad], hgood, hslip⟩

theorem Link.sound.judged {l : Link} (h : l.sound) (f : InFlight) (cls : FrameClass) (frame : BitVec 32) :
    (l.judged f cls frame).sound := by
  rcases l.judged_cases f cls frame with e | ⟨-, e⟩ | ⟨-, e⟩ <;> rw [e]
  · exact h.counted f cls frame
  · exact (h.counted f cls frame).pass _
  · exact (h.counted f cls frame).pass _

/-- A head word is formed in LOCKED alone. -/
theorem Link.sound.formWord {l : Link} (h : l.sound) (hl : l.state = .locked) : l.formWord.sound := by
  obtain ⟨-, hsend, hlines, hbad, hgood, hslip⟩ := h
  unfold Link.formWord
  split <;> exact ⟨absurd hl, hsend, hlines, hbad, hgood, hslip⟩

theorem Link.sound.countCycle {l : Link} (h : l.sound) : l.countCycle.sound := by
  obtain ⟨hword, hsend, hlines, hbad, hgood, hslip⟩ := h
  have hcount : (if l.cycleGood = 16 then min 2 (l.goodCycles + 1) else 0) ≤ 2 := by split <;> omega
  unfold Link.countCycle
  dsimp only
  split
  · exact ⟨hword, hsend, hlines, hbad, hcount, hslip⟩
  · exact ⟨hword, hsend, hlines, hbad, hcount, Nat.min_le_left ..⟩
  all_goals exact ⟨hword, hsend, hlines, hbad, hgood, hslip⟩

theorem Link.sound.endCycle {l : Link} (h : l.sound) : l.endCycle.sound := by
  rcases l.endCycle_cases with ⟨hl, e⟩ | ⟨-, e⟩ | ⟨-, e⟩ | ⟨-, e⟩ <;> rw [e]
  · exact h.formWord hl
  · exact h.countCycle
  all_goals exact h.countCycle.pass _

theorem Link.sound.arrived {l : Link} (h : l.sound) (address : BitVec 3) (frame : BitVec 32) :
    (l.arrived address frame).sound := by
  unfold Link.arrived
  split
  · exact h
  · next f _ =>
    dsimp only
    split
    · exact (h.judged f _ frame).endCycle
    · exact h.judged f _ frame

theorem Link.sound.beginCycle {l : Link} (h : l.sound) : l.beginCycle.sound := by
  obtain ⟨hword, hsend, hlines, hbad, hgood, hslip⟩ := h
  exact ⟨fun hl => by simpa [Link.beginCycle] using hword hl, hsend, hlines, hbad, hgood, hslip⟩

/-- The request of a frame empties the command slot and the sending mark together (R16, R17). -/
theorem Link.sound.request {l : Link} (h : l.sound) (index : Fin 16) : (l.request index).sound := by
  obtain ⟨hword, hsend, hlines, hbad, hgood, hslip⟩ := h
  unfold Link.request
  split
  · next hr =>
    refine ⟨fun hl => ⟨(hword hl).1, (hword hl).2.1, ?_⟩, fun hc => ?_, fun hn => absurd hr (by simp_all), hbad, hgood,
      hslip⟩
    · simp [(hword hl).2.2]
    · dsimp only at hc ⊢
      cases hs : l.sends index with
      | true => simp
      | false =>
        rw [hs] at hc
        have hcmd : l.command = none := hc
        simp [hsend hcmd, Link.starts, hcmd]
  · next hr =>
    have hr' : l.state.requested = false := by simpa using hr
    exact ⟨hword, hsend, fun _ => ⟨(hlines hr').1, rfl, rfl, rfl⟩, hbad, hgood, hslip⟩

theorem Link.sound.ticked {l : Link} (h : l.sound) (index : Fin 16) : (l.ticked index).sound := by
  unfold Link.ticked
  split
  · exact h.beginCycle.request index
  · exact h.request index

theorem Link.sound.forgetHead {l : Link} (h : l.sound) : l.forgetHead.sound := by
  obtain ⟨hword, hsend, hlines, hbad, hgood, hslip⟩ := h
  exact ⟨fun hl => ⟨rfl, rfl, (hword hl).2.2⟩, hsend, hlines, hbad, hgood, hslip⟩

theorem Link.sound.restart {l : Link} (h : l.sound) (old new : LinkItem) : (l.restart old new).sound := by
  unfold Link.restart
  split
  · split
    · exact h
    · exact (h.pass _).forgetHead
  · split
    · split
      · exact (h.pass _).forgetHead
      · exact h.pass _
    · split
      · split
        · obtain ⟨hword, hsend, hlines, hbad, -, hslip⟩ := h.forgetHead
          exact ⟨hword, hsend, hlines, hbad, Nat.zero_le _, hslip⟩
        · exact (h.pass _).forgetHead
      · exact h

theorem Link.sound.abandonCycle {l : Link} (h : l.sound) : l.abandonCycle.sound := by
  obtain ⟨hword, -, hlines, hbad, hgood, hslip⟩ := h
  exact ⟨hword, fun _ => rfl, fun hr => by simpa [Link.abandonCycle] using hlines hr, hbad, hgood, hslip⟩

theorem State.committedLink_sound (s : State) (items : List Item) (n : Fin 8) (h : (nth s.links n).sound) :
    (s.committedLink items n).sound := by
  have hr : ((nth s.links n).restartBy (nth s.settings.link n) (linkItem items n)).sound := by
    unfold Link.restartBy
    split
    · exact h.restart _ _
    · exact h
  unfold State.committedLink
  dsimp only
  split
  · exact hr
  · exact hr.abandonCycle

theorem State.commitStages_linksSound {s : State} (h : s.linksSound) : s.commitStages.linksSound := by
  rcases s.uncommitted_or_committing with hc | ⟨_, _, items, hc⟩
  · rwa [State.commitStages_of_uncommitted hc]
  · rw [State.commitStages_of_committing hc]
    intro n
    rw [State.applyItems_links]
    exact s.committedLink_sound items n (h n)

theorem Link.sound.retried {l : Link} (h : l.sound) : l.retried.sound := by
  unfold Link.retried
  split
  · exact h.pass _
  · exact h

theorem Link.sound.freshMark {l : Link} (h : l.sound) : l.freshMark.sound := h

/-- A head command is loaded on a LOCKED link alone (R15). -/
theorem Link.sound.load {l : Link} (h : l.sound) (hl : l.state = .locked) (c : HeadCommand) :
    ({ l with command := some c, sending := false } : Link).sound := by
  obtain ⟨-, -, hlines, hbad, hgood, hslip⟩ := h
  exact ⟨absurd hl, fun _ => rfl, hlines, hbad, hgood, hslip⟩

/-- However a step moves the links, sound links stay sound. -/
theorem LinksMove.linksSound {s t : State} (m : LinksMove s t) (h : s.linksSound) : t.linksSound := by
  intro n
  cases m with
  | stand e => rw [e]; exact h n
  | arrival k frame e =>
    rw [e, nth_put]
    split
    · exact (h k).arrived _ _
    · exact h n
  | frame e => rw [e]; exact ((h n).arrived _ _).ticked _
  | second e => rw [e]; exact (State.commitStages_linksSound h n).retried.freshMark
  | command k c hk e =>
    rw [e, nth_put]
    split
    · exact (h k).load hk c
    · exact h n

theorem State.reset_linksSound : State.reset.linksSound := fun n => by
  rw [show nth State.reset.links n = Link.reset from nth_tab _ n]
  exact Link.reset_sound

/-- Settles O58: power-on makes every link sound, a period of the clock reaches none, and every other command moves the
links in ways that keep them sound. -/
theorem linksStaySound : Obligations.LinksStaySound := by
  intro s t h ht
  unfold step at ht
  split at ht
  · next c rest _ =>
    by_cases hc : ∃ solo, c = .powerOnReset solo
    · obtain ⟨solo, rfl⟩ := hc
      cases ht
      exact State.reset_linksSound
    · have hm := exec_links c { s with pending := rest } (fun solo e => hc ⟨solo, e⟩) t ht
      exact hm.linksSound h
  · cases ht
    exact h

end Sys2Proof.Machine
end

section
/-! ## The arrival of a frame: the counts, the records and the notices -/

namespace Sys2Proof.Machine

/-! ### Records that join a queue with room -/

/-- A record as it joins while the loss count stands at a number: an event carries the count (R132). -/
def QueuedRecord.carrying (q : QueuedRecord) (loss : Nat) : QueuedRecord :=
  match q.record with
  | .event e => { q with record := .event { e with loss } }
  | .interval _ => q

@[simp] theorem State.followingRecord_carrying (s : State) (source : EventSource) (body : EventBody) (loss : Nat) :
    (s.followingRecord source body).carrying loss =
      { ring := 8, record := .event { time := s.timebase.time, source, body, loss } } := rfl

theorem Work.event_out (w : Work) (x : Sender) (source : EventSource) (body : EventBody) :
    (w.event x source body).out = w.out ++ [⟨x, w.st.followingRecord source body⟩] := rfl

/-- An event joins a queue with room: it carries the loss count, which goes back to 0 (R132). -/
theorem Store.join_event {st : Store} (h : st.queue.length < 64) {q : QueuedRecord} {e : EventRecord}
    (hq : q.record = .event e) : st.join q = { st with queue := st.queue ++ [q.carrying st.loss], loss := 0 } := by
  have hfull : ¬ queueSize ≤ st.queue.length := by simpa [queueSize] using h
  rw [Store.join, if_neg hfull]
  simp only [QueuedRecord.carrying, hq]

/-- With no loss counted, any record joins a queue with room and leaves the loss count at 0. -/
theorem Store.join_room {st : Store} (h : st.queue.length < 64) (hl : st.loss = 0) (q : QueuedRecord) :
    st.join q = { st with queue := st.queue ++ [q.carrying 0], loss := 0 } := by
  have hfull : ¬ queueSize ≤ st.queue.length := by simpa [queueSize] using h
  rw [Store.join, if_neg hfull]
  cases hq : q.record with
  | event e => simp only [QueuedRecord.carrying, hq, hl]
  | interval v => simp only [QueuedRecord.carrying, hq, ← hl]

/-- With no loss counted, records for which there is room all join. -/
theorem Store.foldl_join_room (l : List QueuedRecord) {st : Store} (h : st.queue.length + l.length ≤ 64)
    (hl : st.loss = 0) :
    l.foldl Store.join st = { st with queue := st.queue ++ l.map (·.carrying 0), loss := 0 } := by
  induction l generalizing st with
  | nil => simp [← hl]
  | cons q l ih =>
    rw [List.length_cons] at h
    rw [List.foldl_cons, Store.join_room (by omega) hl, ih (by simp; omega) rfl]
    simp

/-- Records that an event leads join a queue with room: the event carries the loss count, and none is left for the
others. -/
theorem Store.foldl_join_event (q : QueuedRecord) (l : List QueuedRecord) {st : Store} {e : EventRecord}
    (hq : q.record = .event e) (h : st.queue.length + l.length < 64) :
    (q :: l).foldl Store.join st =
      { st with queue := st.queue ++ q.carrying st.loss :: l.map (·.carrying 0), loss := 0 } := by
  rw [List.foldl_cons, Store.join_event (by omega) hq, Store.foldl_join_room l (by simp; omega) rfl]
  simp

/-! ### The records and the notice of a transition (R3, R18) -/

/-- The HEAD_CMD DROPPED event of a link that leaves LOCKED with a command loaded (R18). -/
def State.dropRecords (s : State) (n : Fin 8) (l : Link) : List QueuedRecord :=
  match l.state, l.command with
  | .locked, some c => [s.followingRecord (.input n) (.headCmd n c true)]
  | _, _ => []

theorem State.dropRecords_of_not_locked (s : State) (n : Fin 8) {l : Link} (h : l.state ≠ .locked) :
    s.dropRecords n l = [] := by
  unfold State.dropRecords
  split
  · next hl _ => exact absurd hl h
  · rfl

theorem State.dropRecords_of_locked (s : State) (n : Fin 8) {l : Link} (h : l.state = .locked) :
    s.dropRecords n l = (l.command.map fun c => s.followingRecord (.input n) (.headCmd n c true)).toList := by
  unfold State.dropRecords
  rw [h]
  cases l.command <;> rfl

theorem State.dropRecords_length (s : State) (n : Fin 8) (l : Link) : (s.dropRecords n l).length ≤ 1 := by
  unfold State.dropRecords
  split <;> simp

theorem State.dropRecords_carrying (s : State) (n : Fin 8) (l : Link) :
    (s.dropRecords n l).map (·.carrying 0) = s.dropRecords n l := by
  unfold State.dropRecords
  split <;> rfl

/-- A transition hands over the LINK event and, behind it, the HEAD_CMD DROPPED event of a dropped command. -/
theorem Work.transition_out (w : Work) (n : Fin 8) (dest : LinkState) (cause : LinkCause) :
    (w.transition n dest cause).out = w.out ++
      (w.st.followingRecord (.input n) (.link n (nth w.st.links n).state dest cause) ::
        w.st.dropRecords n (nth w.st.links n)).map fun q => ⟨.link n, q⟩ := by
  unfold Work.transition
  dsimp only
  split
  · next c hs hc =>
    rw [State.dropRecords_of_locked _ _ hs, hc]
    simp [Work.event_out, State.followingRecord]
  · next hno =>
    have hdrop : w.st.dropRecords n (nth w.st.links n) = [] := by
      unfold State.dropRecords
      split
      · next c hs hc => exact (hno c hs hc).elim
      · rfl
    simp [hdrop, Work.event_out, State.followingRecord]

/-- A transition sets the LINK notice with the input's bit on every port. -/
theorem Work.transition_port (w : Work) (n : Fin 8) (dest : LinkState) (cause : LinkCause) (p : PortId) :
    (w.transition n dest cause).st.port p =
      { w.st.port p with notices := (w.st.port p).notices.addLink n } := by
  unfold Work.transition
  dsimp only
  split <;> exact State.port_notifyAll w.st (·.addLink n) p

/-- The queue after a step that handed over a transition's records alone, where it has room for them. -/
theorem Work.join_queue_of_transition {w : Work} {s u : State} {n : Fin 8} {l : Link} {body : EventBody}
    (hst : w.st.store = s.store) (htime : u.timebase = s.timebase)
    (hout : w.out = (u.followingRecord (.input n) body :: u.dropRecords n l).map fun q => ⟨.link n, q⟩)
    (h : s.store.queue.length + (u.dropRecords n l).length < 64) :
    w.join.store.queue = s.store.queue ++ s.eventRecord (.input n) body :: s.dropRecords n l := by
  have hdrop : u.dropRecords n l = s.dropRecords n l := by
    unfold State.dropRecords State.followingRecord
    rw [htime]
  have hone : ∀ y ∈ w.out, y.sender = .link n := by
    intro y hy
    rw [hout, List.mem_map] at hy
    obtain ⟨_, -, rfl⟩ := hy
    rfl
  rw [Work.join_store_of_oneSender w (.link n) hone, hout, hst, List.map_map]
  rw [show ((fun x : Handed => x.queued) ∘ fun q => (⟨.link n, q⟩ : Handed)) = id from rfl, List.map_id,
    Store.foldl_join_event _ _ rfl h, State.dropRecords_carrying, hdrop]
  simp only [State.followingRecord_carrying, State.eventRecord, htime]

/-! ### The counts of a frame -/

/-- A good frame that counts in its cycle: requested in the link's present state, of no abandoned cycle, its MARK where
it should stand (R6, R22). -/
def InFlight.counts (f : InFlight) (frame : BitVec 32) : Bool :=
  f.current && !f.abandoned && (frameMark frame == (f.index == 0))

/-- The counts of a good frame (R5, R6, R11). -/
theorem Link.counted_good (l : Link) (f : InFlight) (frame : BitVec 32) :
    l.counted f .good frame =
      { l with
        inFlight := none
        badRun := if l.state = .seeking then l.badRun else 0
        badSeen := if l.state = .seeking then l.badSeen else false
        cycleGood := if f.counts frame then l.cycleGood + 1 else l.cycleGood
        wbits := if f.counts frame && l.state == .locked then
            (l.wbits <<< 1) ||| (if frameWbit frame then 1#16 else 0#16)
          else l.wbits } := by
  have hc : (f.current ∧ ¬ f.abandoned ∧ markProper f frame) ↔ f.counts frame = true := by
    simp [InFlight.counts, markProper, and_assoc]
  unfold Link.counted Link.count
  simp only [hc]
  cases f.counts frame <;> by_cases hs : l.state = .seeking <;> simp [hs]

/-- The counts of a bad or absent frame outside SEEKING (R5). -/
theorem Link.counted_notGood (l : Link) (f : InFlight) {cls : FrameClass} (frame : BitVec 32) (h : cls ≠ .good)
    (hs : l.state ≠ .seeking) :
    l.counted f cls frame =
      { l with inFlight := none, badRun := min 16 (l.badRun + 1), badSeen := l.badSeen || cls == .bad } := by
  unfold Link.counted Link.count
  cases cls with
  | good => exact absurd rfl h
  | bad => simp [hs]
  | absent => simp [hs]

/-- A bad or absent frame counts nothing in SEEKING (R5). -/
theorem Link.counted_notGood_seeking (l : Link) (f : InFlight) {cls : FrameClass} (frame : BitVec 32) (h : cls ≠ .good)
    (hs : l.state = .seeking) : l.counted f cls frame = { l with inFlight := none } := by
  unfold Link.counted Link.count
  cases cls with
  | good => exact absurd rfl h
  | bad => simp [hs]
  | absent => simp [hs]

@[simp] theorem Link.counted_inFlight (l : Link) (f : InFlight) (cls : FrameClass) (frame : BitVec 32) :
    (l.counted f cls frame).inFlight = none := by
  unfold Link.counted Link.count
  cases cls with
  | good => dsimp only; split <;> split <;> rfl
  | bad => dsimp only; split <;> rfl
  | absent => dsimp only; split <;> rfl

/-- Of the bad and the absent frames, the absent one is that of 32 ones (R2). -/
theorem classify_bad_of_notGood {address : BitVec 3} {frame : BitVec 32} (h : classify address frame ≠ .good) :
    (classify address frame == .bad) = (frame != 0xFFFFFFFF#32) := by
  unfold classify at h ⊢
  by_cases hf : frame = 0xFFFFFFFF#32
  · simp [hf]
  · rw [if_neg hf] at h ⊢
    split
    · simp [hf]
    · next h1 =>
      split
      · simp [hf]
      · next h2 => simp [h1, h2] at h

/-! ### The transition that a frame brings about -/

/-- A good frame brings no transition about but where its MARK stands wrong in LOCKED (R4). -/
theorem arrivalTransition_good {l : Link} {f : InFlight} {frame : BitVec 32}
    (h : l.state = .locked → frameMark frame = (f.index == 0)) : arrivalTransition l f .good frame = none := by
  unfold arrivalTransition
  cases hs : l.state with
  | locked => simp [markProper, h hs]
  | _ => simp

/-- A MARK out of place in LOCKED (R4). -/
theorem arrivalTransition_mark {l : Link} {f : InFlight} {frame : BitVec 32} (hs : l.state = .locked)
    (h : frameMark frame ≠ (f.index == 0)) : arrivalTransition l f .good frame = some (.slipped, .mark) := by
  simp [arrivalTransition, hs, markProper, h]

/-- A bad or absent frame that leaves the bad run below 16 brings no transition about (R5). -/
theorem arrivalTransition_short {l : Link} {f : InFlight} {cls : FrameClass} {frame : BitVec 32} (hc : cls ≠ .good)
    (h : l.state = .locked ∨ l.state = .slipped → l.badRun < 16) : arrivalTransition l f cls frame = none := by
  unfold arrivalTransition
  cases hs : l.state with
  | locked => simp [hc, h (.inl hs)]
  | slipped => simp [h (.inr hs)]
  | _ => simp

/-- The 16th bad or absent frame in a row (R5). -/
theorem arrivalTransition_full {l : Link} {f : InFlight} {cls : FrameClass} {frame : BitVec 32} (hc : cls ≠ .good)
    (hs : l.state = .locked ∨ l.state = .slipped) (h : 16 ≤ l.badRun) :
    arrivalTransition l f cls frame = some (.lost, if l.badSeen then .badFrames else .silent) := by
  rcases hs with hs | hs <;> simp [arrivalTransition, hs, hc, h]

/-! ### What an arrival hands over, and what it tells the ports -/

/-- The state that FRAME_ARRIVAL leaves. -/
def State.arrival (s : State) (n : Fin 8) (frame : BitVec 32) : State := ((Work.start s).arrive n frame).join

theorem exec_frameArrival (n : Fin 8) (frame : BitVec 32) (s : State) :
    exec (.frameArrival n frame) s = .next (s.arrival n frame) := rfl

theorem State.arrival_links (s : State) (n : Fin 8) (frame : BitVec 32) :
    (s.arrival n frame).links =
      put s.links n ((nth s.links n).arrived (nth s.settings.link n).address frame) := by
  rw [State.arrival, Work.join_links, Work.arrive_links]
  rfl

theorem State.arrival_link (s : State) (n : Fin 8) (frame : BitVec 32) :
    nth (s.arrival n frame).links n = (nth s.links n).arrived (nth s.settings.link n).address frame := by
  rw [State.arrival_links, nth_put_self]

theorem State.arrival_averagers (s : State) (n : Fin 8) (frame : BitVec 32) :
    (s.arrival n frame).averagers =
      upd s.averagers n (·.arrived (nth s.links n) (nth s.settings.link n).address frame) := by
  rw [State.arrival, Work.join_averagers, Work.arrive_averagers]
  rfl

theorem State.arrival_frame (s : State) (n : Fin 8) (frame : BitVec 32) :
    ∃ li av ch a p t l st fr, s.arrival n frame = { s with
      links := li, averagers := av, channels := ch, alarms := a, ports := p, test := t, lines := l, store := st
      free := fr } := by
  obtain ⟨li, av, ch, a, p, t, l, h⟩ := (Work.start s).arrive_frame n frame
  rw [State.arrival, Work.join, h]
  exact ⟨li, av, ch, a, p, t, l, _, _, rfl⟩

/-- A frame that brings no transition about is counted, and its sample taken. -/
theorem Work.takeFrame_of_none (w : Work) (n : Fin 8) (f : InFlight) (frame : BitVec 32)
    (h : arrivalTransition ((nth w.st.links n).counted f (classify (nth w.st.settings.link n).address frame) frame) f
      (classify (nth w.st.settings.link n).address frame) frame = none) :
    (w.takeFrame n f frame).out = w.out ∧ (w.takeFrame n f frame).st.ports = w.st.ports := by
  unfold Work.takeFrame
  simp only [h]
  exact ⟨rfl, rfl⟩

/-- What a frame hands over that brings a transition about, and the notice that it sets. -/
theorem Work.takeFrame_of_some (w : Work) (n : Fin 8) (f : InFlight) (frame : BitVec 32) {l : Link}
    (hl : (nth w.st.links n).counted f (classify (nth w.st.settings.link n).address frame) frame = l)
    {dest : LinkState} {cause : LinkCause}
    (h : arrivalTransition l f (classify (nth w.st.settings.link n).address frame) frame = some (dest, cause)) :
    (w.takeFrame n f frame).out = w.out ++
        (w.st.followingRecord (.input n) (.link n l.state dest cause) :: w.st.dropRecords n l).map
          (fun q => ⟨.link n, q⟩) ∧
      ∀ p, (w.takeFrame n f frame).st.port p =
        { w.st.port p with notices := (w.st.port p).notices.addLink n } := by
  unfold Work.takeFrame
  simp only [hl, h]
  refine ⟨?_, fun p => ?_⟩
  · rw [Work.map_out, Work.transitionIf, Work.transition_out]
    simp only [Work.map_st, Work.map_out, nth_put_self]
    rfl
  · exact Work.transition_port (w.map fun s => { s with links := put s.links n l }) n dest cause p

/-- A cycle end that neither makes a transition nor ends a zeroing hands nothing over. -/
theorem Work.cycleEnd_quiet (w : Work) (n : Fin 8)
    (h : (nth w.st.links n).state = .locked → (nth w.st.links n).endsZeroing = false)
    (hc : (nth w.st.links n).state ≠ .locked → cycleTransition (nth w.st.links n).countCycle = none) :
    (w.cycleEnd n).out = w.out ∧ (w.cycleEnd n).st.ports = w.st.ports ∧
      (w.cycleEnd n).st.channels = w.st.channels := by
  unfold Work.cycleEnd
  dsimp only
  split
  · next hl =>
    rw [if_neg (by simp [h hl])]
    exact ⟨rfl, rfl, rfl⟩
  · next hl =>
    rw [hc hl]
    exact ⟨rfl, rfl, rfl⟩

/-- What a cycle end hands over that makes a transition, and the notice that it sets. -/
theorem Work.cycleEnd_of_some (w : Work) (n : Fin 8) {l : Link} (hl : nth w.st.links n = l) (hs : l.state ≠ .locked)
    {dest : LinkState} {cause : LinkCause} (h : cycleTransition l.countCycle = some (dest, cause)) :
    (w.cycleEnd n).out = w.out ++
        [⟨.link n, w.st.followingRecord (.input n) (.link n l.state dest cause)⟩] ∧
      ∀ p, (w.cycleEnd n).st.port p = { w.st.port p with notices := (w.st.port p).notices.addLink n } := by
  unfold Work.cycleEnd
  simp only [hl, if_neg hs, h, Work.transitionIf]
  refine ⟨?_, fun p => ?_⟩
  · rw [Work.transition_out]
    simp only [Work.map_st, Work.map_out, nth_put_self]
    rw [State.dropRecords_of_not_locked _ _ (by simpa using hs)]
    simp [State.followingRecord]
  · exact Work.transition_port (w.map fun s => { s with links := put s.links n l.countCycle }) n dest cause p

/-- The link that `takeFrame` leaves. -/
theorem Work.takeFrame_link (w : Work) (n : Fin 8) (f : InFlight) (frame : BitVec 32) :
    nth (w.takeFrame n f frame).st.links n =
      (nth w.st.links n).judged f (classify (nth w.st.settings.link n).address frame) frame := by
  obtain ⟨p, h⟩ := w.takeFrame_frame n f frame
  rw [h]
  exact nth_put_self _ _ _

/-- A step whose arrival handed nothing over. -/
theorem State.arrival_of_quiet {s : State} {n : Fin 8} {frame : BitVec 32}
    (hout : ((Work.start s).arrive n frame).out = []) :
    (s.arrival n frame).ports = ((Work.start s).arrive n frame).st.ports ∧ (s.arrival n frame).store = s.store := by
  obtain ⟨_, _, _, _, _, _, _, h⟩ := (Work.start s).arrive_frame n frame
  rw [State.arrival, Work.join_of_nil _ hout]
  exact ⟨rfl, by rw [h]; rfl⟩

/-- An arrival that makes a transition before any cycle end (R4, R5): what it tells the ports and, where the queue has
room, what it queues. The cycle end that may follow says nothing more. -/
theorem State.arrival_of_transition {s : State} {n : Fin 8} {f : InFlight} {frame : BitVec 32} {l : Link}
    (hf : (nth s.links n).inFlight = some f)
    (hl : (nth s.links n).counted f (classify (nth s.settings.link n).address frame) frame = l)
    {dest : LinkState} {cause : LinkCause} (hd : dest = .slipped ∨ dest = .lost)
    (h : arrivalTransition l f (classify (nth s.settings.link n).address frame) frame = some (dest, cause)) :
    (∀ p, (s.arrival n frame).port p = { s.port p with notices := (s.port p).notices.addLink n }) ∧
      (s.store.queue.length ≤ 62 → (s.arrival n frame).store.queue =
        s.store.queue ++ s.eventRecord (.input n) (.link n l.state dest cause) :: s.dropRecords n l) := by
  obtain ⟨hout, hport⟩ := (Work.start s).takeFrame_of_some n f frame hl h
  have hlink : nth ((Work.start s).takeFrame n f frame).st.links n = l.pass dest := by
    rw [Work.takeFrame_link]
    simp only [Link.judged, Work.start_st, hl, h]
    rfl
  have hnot : (l.pass dest).state ≠ .locked := by rcases hd with rfl | rfl <;> simp
  have hend : cycleTransition (l.pass dest).countCycle = none := by
    rcases hd with rfl | rfl
    · simp [Link.countCycle, cycleTransition, Link.pass, Link.enter]
    · simp [Link.countCycle, cycleTransition]
  have hq := ((Work.start s).takeFrame n f frame).cycleEnd_quiet n (by rw [hlink]; exact fun e => absurd e hnot)
    (by rw [hlink]; exact fun _ => hend)
  have harrive : ((Work.start s).arrive n frame).out = ((Work.start s).takeFrame n f frame).out ∧
      ((Work.start s).arrive n frame).st.ports = ((Work.start s).takeFrame n f frame).st.ports := by
    rw [Work.arrive_of_some _ n frame hf]
    split
    · exact ⟨hq.1, hq.2.1⟩
    · exact ⟨rfl, rfl⟩
  obtain ⟨_, _, _, _, _, _, _, hframe⟩ := (Work.start s).arrive_frame n frame
  refine ⟨fun p => ?_, fun hroom => ?_⟩
  · rw [← Work.start_st s, ← hport p]
    exact congrArg (·.get p) harrive.2
  · refine Work.join_queue_of_transition (u := s) (by rw [hframe]; rfl) rfl (harrive.1.trans hout) ?_
    have := s.dropRecords_length n l
    omega

/-- A frame 15 that makes no transition at its arrival, and one at its cycle end (R6, R7). -/
theorem State.arrival_of_cycleTransition {s : State} {n : Fin 8} {f : InFlight} {frame : BitVec 32} {l : Link}
    (hf : (nth s.links n).inFlight = some f) (h15 : f.index = 15) (ha : f.abandoned = false)
    (hl : (nth s.links n).counted f (classify (nth s.settings.link n).address frame) frame = l)
    (h : arrivalTransition l f (classify (nth s.settings.link n).address frame) frame = none)
    (hs : l.state ≠ .locked) {dest : LinkState} {cause : LinkCause}
    (hc : cycleTransition l.countCycle = some (dest, cause)) :
    (∀ p, (s.arrival n frame).port p = { s.port p with notices := (s.port p).notices.addLink n }) ∧
      (s.store.queue.length ≤ 63 → (s.arrival n frame).store.queue =
        s.store.queue ++ [s.eventRecord (.input n) (.link n l.state dest cause)]) := by
  obtain ⟨hout, hport⟩ := (Work.start s).takeFrame_of_none n f frame (by rw [Work.start_st, hl]; exact h)
  have hlink : nth ((Work.start s).takeFrame n f frame).st.links n = l := by
    rw [Work.takeFrame_link]
    simp only [Link.judged, Work.start_st, hl, h]
    rfl
  obtain ⟨_, hframe⟩ := (Work.start s).takeFrame_frame n f frame
  obtain ⟨_, _, _, _, _, _, hcycle⟩ := ((Work.start s).takeFrame n f frame).cycleEnd_frame n
  obtain ⟨hout', hport'⟩ := ((Work.start s).takeFrame n f frame).cycleEnd_of_some n hlink hs hc
  have harrive : (Work.start s).arrive n frame = ((Work.start s).takeFrame n f frame).cycleEnd n := by
    rw [Work.arrive_of_some _ n frame hf, if_pos ⟨h15, by simp [ha]⟩]
  have hp : ∀ p, ((Work.start s).takeFrame n f frame).st.port p = s.port p := fun p => congrArg (·.get p) hport
  refine ⟨fun p => ?_, fun hroom => ?_⟩
  · rw [State.arrival, harrive, ← hp p, ← hport' p]
    rfl
  · have hdrop := s.dropRecords_of_not_locked n hs
    have hq := Work.join_queue_of_transition (w := ((Work.start s).takeFrame n f frame).cycleEnd n) (s := s)
      (u := ((Work.start s).takeFrame n f frame).st) (n := n) (l := l) (by rw [hcycle, hframe]; rfl)
      (by rw [hframe]; rfl) (by rw [hout', hout, State.dropRecords_of_not_locked _ n hs]; rfl)
      (by rw [State.dropRecords_of_not_locked _ n hs, List.length_nil]; omega)
    rw [State.arrival, harrive, hq, hdrop]

/-- An arrival that makes no transition and ends no zeroing tells the ports nothing and queues nothing. -/
theorem State.arrival_quiet {s : State} {n : Fin 8} {f : InFlight} {frame : BitVec 32} {l : Link}
    (hf : (nth s.links n).inFlight = some f)
    (hl : (nth s.links n).counted f (classify (nth s.settings.link n).address frame) frame = l)
    (h : arrivalTransition l f (classify (nth s.settings.link n).address frame) frame = none)
    (hend : f.index = 15 → f.abandoned = false →
      (l.state = .locked → l.endsZeroing = false) ∧ (l.state ≠ .locked → cycleTransition l.countCycle = none)) :
    (s.arrival n frame).ports = s.ports ∧ (s.arrival n frame).store = s.store ∧
      (s.arrival n frame).channels = s.channels := by
  obtain ⟨hout, hport⟩ := (Work.start s).takeFrame_of_none n f frame (by rw [Work.start_st, hl]; exact h)
  have hlink : nth ((Work.start s).takeFrame n f frame).st.links n = l := by
    rw [Work.takeFrame_link]
    simp only [Link.judged, Work.start_st, hl, h]
    rfl
  obtain ⟨_, hframe⟩ := (Work.start s).takeFrame_frame n f frame
  have harrive : ((Work.start s).arrive n frame).out = [] ∧ ((Work.start s).arrive n frame).st.ports = s.ports ∧
      ((Work.start s).arrive n frame).st.channels = s.channels := by
    rw [Work.arrive_of_some _ n frame hf]
    split
    · next hc =>
      obtain ⟨h1, h2⟩ := hend hc.1 (by simpa using hc.2)
      obtain ⟨ho, hp, hch⟩ := ((Work.start s).takeFrame n f frame).cycleEnd_quiet n (by rw [hlink]; exact h1)
        (by rw [hlink]; exact h2)
      exact ⟨ho.trans hout, hp.trans hport, hch.trans (by rw [hframe]; rfl)⟩
    · exact ⟨hout, hport, by rw [hframe]; rfl⟩
  obtain ⟨hp, hst⟩ := State.arrival_of_quiet harrive.1
  exact ⟨hp.trans harrive.2.1, hst, harrive.2.2⟩

end Sys2Proof.Machine
end

section
/-! ## Frame arrivals: bad runs, slips, samples, cycles and head words (R2 to R13, R27) -/

namespace Sys2Proof.Machine

/-! ### Samples and cycles -/

/-- Which frames bring a valid sample (R13), from the link as the frame found it. -/
theorem sampleValid_judged (l : Link) (f : InFlight) (cls : FrameClass) (frame : BitVec 32) :
    sampleValid cls frame (l.judged f cls frame) = true ↔
      cls = .good ∧ frameOvr frame = false ∧ l.state = .locked ∧ frameMark frame = (f.index == 0) ∧
        (l.word.any fun w => !w.stale && !wordFault w.bits && !wordZeroing w.bits) = true := by
  by_cases hc : cls = .good
  · subst hc
    by_cases hm : l.state = .locked → frameMark frame = (f.index == 0)
    · have hj : l.judged f .good frame = l.counted f .good frame := by
        rw [Link.judged, arrivalTransition_good (by simpa using hm), Link.passIf_none]
      rw [hj, Link.counted_good]
      unfold sampleValid
      cases hw : l.word with
      | none => simp
      | some w =>
        simp only [Option.any_some, Bool.and_eq_true, beq_iff_eq, Bool.not_eq_true', true_and, and_assoc]
        exact ⟨fun ⟨ho, hs, h⟩ => ⟨ho, hs, hm hs, h⟩, fun ⟨ho, hs, _, h⟩ => ⟨ho, hs, h⟩⟩
    · obtain ⟨hs, hm⟩ := Classical.not_imp.mp hm
      have hj : l.judged f .good frame = (l.counted f .good frame).pass .slipped := by
        rw [Link.judged, arrivalTransition_mark (by simpa using hs) hm, Link.passIf_some]
      simp [hj, sampleValid, hm]
  · simp [sampleValid, hc]

/-- The Cycle Averager at the arrival of a frame (R22, R27, R28). -/
theorem Averager.take_eq (a : Averager) (f : InFlight) (valid : Bool) (v : Int) :
    a.take f (if valid then some v else none) =
      let b : Averager :=
        if f.abandoned = false ∧ valid = true then
          { a with cycleSum := a.cycleSum + v, cycleValid := a.cycleValid + 1 }
        else a
      if f.abandoned = false ∧ f.index = 15 ∧ b.cycleValid = 16 ∧ b.n < 125 then
        { b with sum := b.sum + b.cycleSum, n := b.n + 1 }
      else b := by
  unfold Averager.take
  cases f.abandoned <;> cases valid <;> simp

/-- Settles O8: the averager by its own rule for the frame, the link by the counts, and of the rest what an arrival can
reach at all. -/
theorem sampleAndCycle : Obligations.SampleAndCycle := by
  intro s n f frame hf
  refine ⟨_, exec_frameArrival n frame s, ?_, fun m hm => ?_, fun hin => ⟨fun hgood hplace => ?_, fun hbad hs => ?_⟩, ?_⟩
  · have hv := sampleValid_judged (nth s.links n) f (classify (nth s.settings.link n).address frame) frame
    rw [State.arrival_averagers, nth_upd_self]
    simp only [Averager.arrived, hf]
    rw [Averager.take_eq]
    simp only [hv]
  · rw [State.arrival_averagers, State.arrival_links, nth_upd_ne _ _ hm.symm, nth_put_ne _ _ hm.symm]
    exact ⟨rfl, rfl⟩
  · have hcls : classify (nth s.settings.link n).address frame = .good := of_decide_eq_true hgood
    have ht : arrivalTransition ((nth s.links n).counted f .good frame) f .good frame = none :=
      arrivalTransition_good fun hl => by
        rw [Link.counted_state] at hl
        rcases hplace with h | h | ⟨-, h⟩
        · rw [h] at hl; cases hl
        · rw [h] at hl; cases hl
        · exact h
    obtain ⟨hports, hstore, -⟩ := State.arrival_quiet hf (by rw [hcls]) (by rw [hcls]; exact ht) (fun h15 ha => by
      rcases hin with h | h
      · exact absurd h15 h
      · rw [ha] at h; cases h)
    refine ⟨?_, hports, hstore⟩
    rw [State.arrival_link, Link.arrived_of_within hf hin, hcls, Link.judged, ht, Link.passIf_none, Link.counted_good]
    rfl
  · have hcls : classify (nth s.settings.link n).address frame ≠ .good := of_decide_eq_false hbad
    have hcount := (nth s.links n).counted_notGood_seeking f frame hcls hs
    have ht := arrivalTransition_short (l := { nth s.links n with inFlight := none }) (f := f) (frame := frame) hcls
      (by rintro (h | h) <;> rw [hs] at h <;> cases h)
    obtain ⟨hports, hstore, -⟩ := State.arrival_quiet hf hcount ht (fun h15 ha => by
      rcases hin with h | h
      · exact absurd h15 h
      · rw [ha] at h; cases h)
    refine ⟨?_, hports, hstore⟩
    rw [State.arrival_link, Link.arrived_of_within hf hin, Link.judged, hcount, ht, Link.passIf_none]
  · obtain ⟨_, _, _, _, _, _, _, _, _, h⟩ := s.arrival_frame n frame
    rw [h]

/-! ### Bad runs -/

/-- A link that has gone to LOST is reached by no cycle end. -/
theorem Link.endCycle_pass_lost (l : Link) : (l.pass .lost).endCycle = l.pass .lost := by
  simp [Link.endCycle, Link.countCycle, cycleTransition]

/-- Settles O6: with 15 before it the frame makes the transition of R5, after which no cycle end counts; otherwise it is
counted, and the head word of a cycle it ends leaves the bad run. -/
theorem badRunLosesLink : Obligations.BadRunLosesLink := by
  intro s n f frame hs hf hc hrun
  have hns : (nth s.links n).state ≠ .seeking := by rcases hs with h | h <;> rw [h] <;> decide
  have hcount := (nth s.links n).counted_notGood f frame hc hns
  rw [classify_bad_of_notGood hc] at hcount
  refine ⟨_, exec_frameArrival n frame s, ?_⟩
  split
  · next h15 =>
    set l : Link := { nth s.links n with
      inFlight := none, badRun := min 16 ((nth s.links n).badRun + 1)
      badSeen := (nth s.links n).badSeen || frame != 0xFFFFFFFF#32 } with hl
    have ht := arrivalTransition_full (l := l) (f := f) (frame := frame) hc hs (by rw [hl]; simp [h15])
    have hlink : nth (s.arrival n frame).links n = l.pass .lost := by
      rw [State.arrival_link]
      simp only [Link.arrived, hf, Link.judged, hcount, ht, Link.passIf_some, Link.endCycle_pass_lost, ite_self]
    obtain ⟨hport, hqueue⟩ := State.arrival_of_transition hf hcount (.inr rfl) ht
    have hcause : (if l.badSeen = true then LinkCause.badFrames else .silent) =
        if (nth s.links n).badSeen = false ∧ frame = 0xFFFFFFFF#32 then .silent else .badFrames := by
      rw [hl]
      cases (nth s.links n).badSeen <;> by_cases hfr : frame = 0xFFFFFFFF#32 <;> simp [hfr]
    refine ⟨by rw [hlink, Link.pass_state], ?_, ?_, ?_, fun hlk => ?_, hport, fun hroom => ?_⟩
    · rw [hlink]; rfl
    · rw [hlink]; rfl
    · rw [hlink]; rfl
    · have hlk' : l.state = .locked := hlk
      rw [hlink]
      simp [Link.pass, Link.enter, Link.leaveLocked, hlk']
    · rw [hqueue hroom, hcause, List.append_assoc]
      rfl
  · next h15 =>
    have hmin : min 16 ((nth s.links n).badRun + 1) = (nth s.links n).badRun + 1 := by omega
    rw [hmin] at hcount
    have ht : arrivalTransition ((nth s.links n).counted f (classify (nth s.settings.link n).address frame) frame) f
        (classify (nth s.settings.link n).address frame) frame = none :=
      arrivalTransition_short hc fun _ => by rw [hcount]; dsimp only; omega
    have hj : (nth s.links n).judged f (classify (nth s.settings.link n).address frame) frame =
        { nth s.links n with
          inFlight := none, badRun := (nth s.links n).badRun + 1
          badSeen := (nth s.links n).badSeen || frame != 0xFFFFFFFF#32 } := by
      rw [Link.judged, ht, Link.passIf_none, hcount]
    refine ⟨fun hlk => ?_, fun hin => ⟨?_, ?_⟩⟩
    · rw [State.arrival_link]
      simp only [Link.arrived, hf, hj]
      split
      · simp only [Link.endCycle, hlk, if_pos, Link.formWord]
        split <;> exact ⟨rfl, rfl, rfl⟩
      · exact ⟨hlk, rfl, rfl⟩
    · rw [State.arrival_link, Link.arrived_of_within hf (.inl hin), hj]
    · obtain ⟨hports, hstore, -⟩ := State.arrival_quiet hf rfl ht fun h _ => absurd h hin
      exact ⟨hports, hstore⟩

/-! ### A MARK out of place -/

/-- A link that has just gone to SLIPPED counts its first cycle end there. -/
theorem Link.endCycle_pass_slipped (l : Link) :
    (l.pass .slipped).endCycle = { l.pass .slipped with slipCycles := 1 } := by
  simp [Link.endCycle, Link.countCycle, cycleTransition, Link.pass, Link.enter]

/-- Settles O7: the frame makes the transition of R4 at its arrival, before its sample is judged. -/
theorem markOutOfPlaceSlips : Obligations.MarkOutOfPlaceSlips := by
  intro s n f frame hs hf hc hm
  have hstate : ((nth s.links n).counted f .good frame).state = .locked := by simpa using hs
  have ht := arrivalTransition_mark (frame := frame) hstate hm
  have hj : (nth s.links n).judged f .good frame = ((nth s.links n).counted f .good frame).pass .slipped := by
    rw [Link.judged, ht, Link.passIf_some]
  have hlink : nth (s.arrival n frame).links n =
      { ((nth s.links n).counted f .good frame).pass .slipped with
        slipCycles := if f.index = 15 ∧ f.abandoned = false then 1 else 0 } := by
    rw [State.arrival_link]
    simp only [Link.arrived, hf, hc, hj, Bool.not_eq_true]
    split
    · exact Link.endCycle_pass_slipped _
    · rfl
  have hpass : ((nth s.links n).counted f .good frame).pass .slipped =
      ((nth s.links n).counted f .good frame).leaveLocked.enter .slipped := by rw [Link.pass, if_pos hstate]
  obtain ⟨hport, hqueue⟩ := State.arrival_of_transition (l := (nth s.links n).counted f .good frame) hf
    (by rw [hc]) (.inl rfl) (by rw [hc]; exact ht)
  have hvalid : sampleValid .good frame ((nth s.links n).judged f .good frame) = false := by
    rw [Bool.eq_false_iff, Ne, sampleValid_judged]
    exact fun ⟨_, _, _, h, _⟩ => hm h
  have hav : nth (s.arrival n frame).averagers n = (nth s.averagers n).take f none := by
    rw [State.arrival_averagers, nth_upd_self]
    simp [Averager.arrived, hf, hc, hvalid]
  refine ⟨_, exec_frameArrival n frame s, ?_⟩
  rw [hlink, hpass, Link.counted_good]
  refine ⟨rfl, rfl, rfl, rfl, rfl, ?_, rfl, rfl, rfl, ?_, ?_, hport, fun hroom => ?_⟩
  · simp [Link.enter, Link.leaveLocked, hs]
  · rw [hav, Averager.take]
    split
    · rfl
    · dsimp only
      split <;> rfl
  · rw [hav, Averager.take]
    split
    · rfl
    · dsimp only
      split <;> rfl
  · rw [hqueue hroom, State.dropRecords_of_locked _ _ hstate, Link.counted_good, hs, List.append_assoc]
    cases (nth s.links n).command <;> rfl

end Sys2Proof.Machine
end

section
/-! ## Cycle ends: whole cycles (R6, R7) and head words (R11, R12, R14) -/

namespace Sys2Proof.Machine

/-- A frame 15 that leaves its cycle whole: good, requested in the link's present state, its MARK clear as it should be,
and 15 such frames before it (R6). -/
theorem Link.counted_cycleGood (l : Link) {f : InFlight} (h15 : f.index = 15) (ha : f.abandoned = false)
    (cls : FrameClass) (frame : BitVec 32) (hg : l.cycleGood ≤ 15) :
    (l.counted f cls frame).cycleGood = 16 ↔
      (decide (cls = .good) && f.current && !frameMark frame && l.cycleGood == 15) = true := by
  have hcounts : f.counts frame = (f.current && !frameMark frame) := by simp [InFlight.counts, h15, ha]
  by_cases hc : cls = .good
  · subst hc
    rw [Link.counted_good, hcounts]
    simp only [decide_true, Bool.true_and]
    cases f.current && !frameMark frame
    · simp only [Bool.false_and, Bool.false_eq_true, if_false, iff_false]
      omega
    · simp
  · have hsame : (l.counted f cls frame).cycleGood = l.cycleGood := by
      by_cases hs : l.state = .seeking
      · rw [l.counted_notGood_seeking f frame hc hs]
      · rw [l.counted_notGood f frame hc hs]
    rw [hsame]
    simp only [hc, decide_false, Bool.false_and, Bool.false_eq_true, iff_false]
    omega

/-- The bad run once a frame has been counted (R5). -/
theorem Link.counted_badRun (l : Link) (f : InFlight) (cls : FrameClass) (frame : BitVec 32)
    (h : cls ≠ .good → l.state ≠ .seeking → l.badRun ≤ 15) :
    (l.counted f cls frame).badRun =
      if l.state = .seeking then l.badRun else if cls = .good then 0 else l.badRun + 1 := by
  by_cases hc : cls = .good
  · subst hc
    rw [Link.counted_good]
    simp
  · by_cases hs : l.state = .seeking
    · rw [l.counted_notGood_seeking f frame hc hs, if_pos hs]
    · rw [l.counted_notGood f frame hc hs, if_neg hs, if_neg hc]
      have := h hc hs
      dsimp only
      omega

/-- What the counts of a frame leave alone. -/
theorem Link.counted_frame (l : Link) (f : InFlight) (cls : FrameClass) (frame : BitVec 32) :
    (l.counted f cls frame).goodCycles = l.goodCycles ∧ (l.counted f cls frame).slipCycles = l.slipCycles ∧
      (l.counted f cls frame).word = l.word ∧ (l.counted f cls frame).counterRef = l.counterRef ∧
      (l.counted f cls frame).zeroPending = l.zeroPending ∧ (l.counted f cls frame).zeroSeen = l.zeroSeen := by
  by_cases hc : cls = .good
  · subst hc
    rw [Link.counted_good]
    exact ⟨rfl, rfl, rfl, rfl, rfl, rfl⟩
  · by_cases hs : l.state = .seeking
    · rw [l.counted_notGood_seeking f frame hc hs]
      exact ⟨rfl, rfl, rfl, rfl, rfl, rfl⟩
    · rw [l.counted_notGood f frame hc hs]
      exact ⟨rfl, rfl, rfl, rfl, rfl, rfl⟩

/-- Every state but SLIPPED is entered with the bad run cleared (R3). -/
theorem Link.pass_badRun (l : Link) {dest : LinkState} (h : dest ≠ .slipped) : (l.pass dest).badRun = 0 := by
  cases dest with
  | slipped => exact absurd rfl h
  | _ => rfl

/-! ### Cycle ends in SEEKING and SLIPPED -/

/-- The counts of a cycle end in SEEKING and SLIPPED (R6, R7). -/
theorem Link.countCycle_eq {l : Link} (h : l.state = .seeking ∨ l.state = .slipped) :
    l.countCycle = { l with
      goodCycles := if l.cycleGood = 16 then min 2 (l.goodCycles + 1) else 0
      slipCycles := if l.state = .slipped then min 8 (l.slipCycles + 1) else l.slipCycles } := by
  rcases h with h | h <;> simp [Link.countCycle, h]

/-- Two whole cycles in a row lock a link (R6). -/
theorem cycleTransition_lock {l : Link} (h : l.state = .seeking ∨ l.state = .slipped) (hg : 2 ≤ l.goodCycles) :
    cycleTransition l = some (.locked, if l.state = .seeking then .acquired else .realigned) := by
  rcases h with h | h <;> simp [cycleTransition, h, hg]

/-- The eighth cycle end in SLIPPED loses the link, when it does not realign it (R7). -/
theorem cycleTransition_noRelock {l : Link} (h : l.state = .slipped) (hg : l.goodCycles < 2) (hs : 8 ≤ l.slipCycles) :
    cycleTransition l = some (.lost, .noRelock) := by
  simp [cycleTransition, h, hs]
  omega

theorem cycleTransition_none {l : Link} (hg : l.goodCycles < 2) (hs : l.state = .slipped → l.slipCycles < 8) :
    cycleTransition l = none := by
  unfold cycleTransition
  split
  · rw [if_neg (by omega)]
  · next h => rw [if_neg (by omega), if_neg (by have := hs h; omega)]
  all_goals rfl

/-- Settles O9: the frame is counted without a transition of its own, and the cycle end makes the transition that the
counts call for. -/
theorem wholeCyclesLock : Obligations.WholeCyclesLock := by
  intro s n f frame good whole hgood hwhole hs hf h15 ha hcg hrun
  set l := nth s.links n with hl
  set cls := classify (nth s.settings.link n).address frame with hcls
  obtain ⟨c, hc⟩ : ∃ c, l.counted f cls frame = c := ⟨_, rfl⟩
  have hnl : l.state ≠ .locked := by rcases hs with h | h <;> rw [h] <;> decide
  have hgoodb : good = true ↔ cls = .good := by rw [hgood]; exact decide_eq_true_iff
  have hrun' : cls ≠ .good → l.state ≠ .seeking → l.badRun ≤ 14 := fun h h' =>
    hrun (hs.resolve_left h') (by rw [hgood]; exact decide_eq_false h)
  have hcstate : c.state = l.state := by rw [← hc, Link.counted_state]
  have hcin : c.inFlight = none := by rw [← hc, Link.counted_inFlight]
  obtain ⟨hcgood, hcslip, -⟩ := hc ▸ l.counted_frame f cls frame
  have hcwhole : c.cycleGood = 16 ↔ whole = true := by
    rw [hwhole, hgood, ← hc]
    exact l.counted_cycleGood h15 ha cls frame hcg
  have hcbad : c.badRun = if l.state = .seeking then l.badRun else if good = true then 0 else l.badRun + 1 := by
    rw [← hc, l.counted_badRun f cls frame fun h h' => by have := hrun' h h'; omega]
    simp only [hgoodb]
  have ht : arrivalTransition c f cls frame = none := by
    by_cases hg : cls = .good
    · rw [hg]
      exact arrivalTransition_good fun h => absurd (hcstate ▸ h) hnl
    · refine arrivalTransition_short hg fun h => ?_
      have hns : l.state ≠ .seeking := by
        rintro e
        rw [hcstate, e] at h
        rcases h with h | h <;> cases h
      have := hrun' hg hns
      rw [hcbad, if_neg hns]
      split <;> omega
  have hd := Link.countCycle_eq (l := c) (by rwa [hcstate])
  simp only [hcwhole, hcgood, hcslip, hcstate] at hd
  have hds : c.countCycle.state = l.state := by rw [Link.countCycle_state, hcstate]
  have hdin : c.countCycle.inFlight = none := by rw [hd]; exact hcin
  have hlink : nth (s.arrival n frame).links n = c.countCycle.passIf (cycleTransition c.countCycle) := by
    rw [State.arrival_link, Link.arrived_of_last hf h15 ha, Link.judged]
    rw [hc, ht, Link.passIf_none, Link.endCycle, if_neg (by rwa [hcstate])]
  refine ⟨_, exec_frameArrival n frame s, ?_⟩
  split
  · next hw =>
    have hgc : c.countCycle.goodCycles = 2 := by
      rw [hd]
      simp only [hw.1, if_true]
      omega
    have htr := cycleTransition_lock (hds ▸ hs) (by rw [hgc])
    rw [hds] at htr
    obtain ⟨hport, hqueue⟩ := State.arrival_of_cycleTransition hf h15 ha hc ht (by rwa [hcstate]) htr
    rw [hcstate] at hqueue
    rw [hlink, htr, Link.passIf_some]
    exact ⟨Link.pass_state _ _, Link.pass_badRun (dest := .locked) _ (by decide), rfl, Link.pass_inFlight_none _ _ hdin, hport, hqueue⟩
  · next hw =>
    have hgc : c.countCycle.goodCycles = if whole then 1 else 0 := by
      rw [hd]
      cases hwh : whole with
      | false => rfl
      | true =>
        have : ¬ 1 ≤ l.goodCycles := fun h => hw ⟨hwh, h⟩
        simp only [if_true]
        omega
    have hlt : c.countCycle.goodCycles < 2 := by rw [hgc]; split <;> omega
    split
    · next hsl =>
      have htr := cycleTransition_noRelock (hds.trans hsl.1) hlt (by rw [hd]; simp only [hsl.1, if_true]; omega)
      obtain ⟨hport, hqueue⟩ := State.arrival_of_cycleTransition hf h15 ha hc ht (by rwa [hcstate]) htr
      rw [hcstate, hsl.1] at hqueue
      rw [hlink, htr, Link.passIf_some]
      exact ⟨Link.pass_state _ _, Link.pass_badRun (dest := .lost) _ (by decide), Link.pass_inFlight_none _ _ hdin, hport, hqueue⟩
    · next hsl =>
      have hslip : c.countCycle.slipCycles = if l.state = .slipped then l.slipCycles + 1 else l.slipCycles := by
        rw [hd]
        dsimp only
        split
        · next h =>
          have : ¬ 7 ≤ l.slipCycles := fun h' => hsl ⟨h, h'⟩
          omega
        · rfl
      have htr : cycleTransition c.countCycle = none := cycleTransition_none hlt fun h => by
        rw [hds] at h
        have : ¬ 7 ≤ l.slipCycles := fun h' => hsl ⟨h, h'⟩
        rw [hslip, if_pos h]
        omega
      obtain ⟨hports, hstore, -⟩ := State.arrival_quiet hf hc ht fun _ _ =>
        ⟨fun h => absurd (hcstate ▸ h) hnl, fun _ => htr⟩
      rw [hlink, htr, Link.passIf_none]
      exact ⟨hds, hdin, hgc, hslip, by rw [hd]; exact hcbad, hports, hstore⟩

/-! ### Head words -/

/-- Settles O10: the frame is counted without a transition, and the cycle end judges the word of the counted link. -/
theorem headWordJudged : Obligations.HeadWordJudged := by
  intro s n f frame good hgood hs hf h15 ha hmark hrun hcg
  set l := nth s.links n with hl
  set cls := classify (nth s.settings.link n).address frame with hcls
  obtain ⟨c, hc⟩ : ∃ c, l.counted f cls frame = c := ⟨_, rfl⟩
  have hns : l.state ≠ .seeking := by rw [hs]; decide
  have hgoodb : good = true ↔ cls = .good := by rw [hgood]; exact decide_eq_true_iff
  have hcstate : c.state = .locked := by rw [← hc, Link.counted_state, hs]
  obtain ⟨-, -, hword, href, hpend, hseen⟩ := hc ▸ l.counted_frame f cls frame
  have hrun' : cls ≠ .good → l.badRun ≤ 14 := fun h => hrun (by rw [hgood]; exact decide_eq_false h)
  have hcbad : c.badRun = if good = true then 0 else l.badRun + 1 := by
    rw [← hc, l.counted_badRun f cls frame fun h _ => by have := hrun' h; omega, if_neg hns]
    simp only [hgoodb]
  have hcall : c.cycleGood = 16 ↔ (good && f.current && l.cycleGood == 15) = true := by
    rw [← hc, l.counted_cycleGood h15 ha cls frame hcg, ← hgood]
    cases hg : good with
    | false => simp
    | true => simp [hmark hg]
  have ht : arrivalTransition c f cls frame = none := by
    by_cases hg : cls = .good
    · rw [hg]
      exact arrivalTransition_good fun _ => by rw [hmark (hgoodb.2 hg), h15]; rfl
    · refine arrivalTransition_short hg fun _ => ?_
      have := hrun' hg
      rw [hcbad]
      split <;> omega
  have hlink : nth (s.arrival n frame).links n = c.formWord := by
    rw [State.arrival_link, Link.arrived_of_last hf h15 ha, Link.judged]
    rw [hc, ht, Link.passIf_none, Link.endCycle, if_pos hcstate]
  have haccept : c.acceptsWord = true ↔ (good && f.current && l.cycleGood == 15) = true ∧
      (l.counterRef.all fun r => wordCounter c.wbits == r + 1) = true := by
    rw [← hcall, Link.acceptsWord, href, Bool.and_eq_true, beq_iff_eq]
    cases l.counterRef <;> rfl
  have hwbits : (good && f.current && l.cycleGood == 15) = true →
      c.wbits = (l.wbits <<< 1) ||| (if frameWbit frame then 1#16 else 0#16) := by
    intro h
    simp only [Bool.and_eq_true] at h
    obtain ⟨⟨hg, hcur⟩, -⟩ := h
    rw [← hc, hgoodb.1 hg, Link.counted_good]
    simp [InFlight.counts, hcur, ha, hmark hg, h15, hs]
  refine ⟨_, exec_frameArrival n frame s, ?_⟩
  rw [hlink]
  refine ⟨by rw [Link.formWord_state, hcstate], ?_, ?_⟩
  · rw [← hcbad, Link.formWord]
    split <;> rfl
  · extract_lets w all
    split
    · next h =>
      rw [show w = c.wbits from (hwbits h.1).symm] at h ⊢
      rw [Link.formWord, if_pos (haccept.2 h)]
      exact ⟨rfl, rfl, rfl, by rw [hseen]⟩
    · next h =>
      have hno : ¬ c.acceptsWord = true := fun hacc => h (by
        rw [show w = c.wbits from (hwbits (haccept.1 hacc).1).symm]
        exact haccept.1 hacc)
      obtain ⟨-, hstore, hch⟩ := State.arrival_quiet hf hc ht fun _ _ =>
        ⟨fun _ => by simp [Link.endsZeroing, hno], fun h => absurd hcstate h⟩
      rw [Link.formWord, if_neg hno]
      refine ⟨by rw [hword]; rfl, ?_, hpend, hseen, hch, hstore⟩
      simp only [hcall, href, all]

end Sys2Proof.Machine
end

section
/-! ## The frame tick (R1, R16, R17, R21, R27) -/

namespace Sys2Proof.Machine

/-! ### A link at a frame tick -/

/-- At index 0 a cycle begins beside the request, which it does not touch. -/
theorem Link.ticked_eq (l : Link) (index : Fin 16) :
    l.ticked index = { l.request index with
      cycleGood := if index = 0 then 0 else l.cycleGood
      wbits := if index = 0 then 0#16 else l.wbits
      word := if index = 0 then l.word.map fun w => { w with stale := w.stale || decide (4 ≤ w.age) } else l.word } := by
  unfold Link.ticked
  split
  · unfold Link.request
    by_cases hr : l.state.requested = true
    · rw [if_pos (show l.beginCycle.state.requested = true from hr), if_pos hr]
      rfl
    · rw [if_neg (show ¬ l.beginCycle.state.requested = true from hr), if_neg hr]
      rfl
  · unfold Link.request
    split <;> rfl

theorem LinkState.requested_iff (a : LinkState) :
    a.requested = true ↔ a = .seeking ∨ a = .locked ∨ a = .slipped := by
  cases a <;> simp [LinkState.requested]

/-- The command bit goes out with a command that is going out or begins to (R16, R194). -/
theorem Link.commandOut (l : Link) (index : Fin 16) :
    ((l.sending || l.starts index) && l.command.any fun c => commandBit c index) =
      ((l.sending || (l.state == .locked && index == 0)) &&
        l.command.any fun c => c.code.getLsbD (3 - index.val % 4)) := by
  cases hc : l.command <;> cases hs : l.sending <;> simp [Link.starts, hc, hs, commandBit]

/-- The lines of a link after a frame tick: those of the frame requested, or low (R1, R194). -/
theorem Link.ticked_lines (l : Link) (index : Fin 16) (h : l.inFlight = none) :
    if l.state = .seeking ∨ l.state = .locked ∨ l.state = .slipped then
      (l.ticked index).inFlight = some { index, current := true, abandoned := false } ∧
        (l.ticked index).lck = true ∧ (l.ticked index).lsyncMark = (index == 0) ∧
        (l.ticked index).lsyncBit =
          ((l.sending || (l.state == .locked && index == 0)) &&
            l.command.any fun c => c.code.getLsbD (3 - index.val % 4))
    else
      (l.ticked index).inFlight = none ∧ (l.ticked index).lck = false ∧ (l.ticked index).lsyncMark = false ∧
        (l.ticked index).lsyncBit = false := by
  rw [Link.ticked_eq, Link.request]
  split
  · next hr =>
    rw [if_pos (l.state.requested_iff.2 hr)]
    exact ⟨rfl, rfl, rfl, l.commandOut index⟩
  · next hr =>
    rw [if_neg (fun h => hr (l.state.requested_iff.1 h))]
    exact ⟨h, rfl, rfl, rfl⟩

/-- The counts, the reference and the marks of a link stand at a frame tick. -/
theorem Link.ticked_frame (l : Link) (index : Fin 16) :
    (l.ticked index).badRun = l.badRun ∧ (l.ticked index).badSeen = l.badSeen ∧
      (l.ticked index).goodCycles = l.goodCycles ∧ (l.ticked index).slipCycles = l.slipCycles ∧
      (l.ticked index).counterRef = l.counterRef ∧ (l.ticked index).zeroPending = l.zeroPending ∧
      (l.ticked index).zeroSeen = l.zeroSeen := by
  rw [Link.ticked_eq]
  unfold Link.request
  split <;> exact ⟨rfl, rfl, rfl, rfl, rfl, rfl, rfl⟩

/-- The command slot of a link at a frame tick: it begins to go out at index 0, has gone out at index 15, and stands
at every other (R16, R17). -/
theorem Link.ticked_command (l : Link) (index : Fin 16) :
    let going := l.state = .locked ∧ l.command.isSome
    let last := index = 15 ∧ l.sending = true
    (l.ticked index).command = (if going ∧ last then none else l.command) ∧
      (l.ticked index).sending =
        (if going ∧ index = 0 then true else if going ∧ last then false else l.sending) := by
  have hstarts : l.starts index = true ↔ (l.state = .locked ∧ l.command.isSome) ∧ index = 0 ∧ l.sending = false := by
    simp only [Link.starts, Bool.and_eq_true, beq_iff_eq, Bool.not_eq_true', and_assoc]
    exact ⟨fun ⟨a, b, c, d⟩ => ⟨a, b, d, c⟩, fun ⟨a, b, c, d⟩ => ⟨a, b, d, c⟩⟩
  have hsends : l.sends index = true ↔ (l.state = .locked ∧ l.command.isSome) ∧ index = 15 ∧ l.sending = true := by
    simp only [Link.sends, Bool.and_eq_true, beq_iff_eq, and_assoc]
    exact ⟨fun ⟨a, b, c, d⟩ => ⟨a, b, d, c⟩, fun ⟨a, b, c, d⟩ => ⟨a, b, d, c⟩⟩
  intro going last
  rw [Link.ticked_eq, Link.request]
  by_cases hr : l.state.requested = true
  · rw [if_pos hr]
    dsimp only
    by_cases hl : going ∧ last
    · have h15 : index ≠ 0 := by rw [hl.2.1]; decide
      simp [hsends.2 hl, hl, h15]
    · have hns : l.sends index = false := by rw [Bool.eq_false_iff, Ne, hsends]; exact hl
      simp only [hns, if_neg hl, Bool.not_false, Bool.and_true, Bool.false_eq_true, if_false, true_and]
      by_cases h0 : going ∧ index = 0
      · cases hs : l.sending with
        | true => simp [h0]
        | false =>
          rw [hstarts.2 ⟨h0.1, h0.2, hs⟩]
          simp [h0]
      · have hnst : l.starts index = false := by
          rw [Bool.eq_false_iff, Ne, hstarts]
          exact fun ⟨a, b, _⟩ => h0 ⟨a, b⟩
        simp [hnst, h0]
  · have hng : ¬ going := fun h => hr (l.state.requested_iff.2 (.inr (.inl h.1)))
    rw [if_neg hr]
    simp [hng]

/-! ### The tick -/

theorem exec_frameTick (s : State) : exec .frameTick s = .next (frameTick s) := rfl

/-- Of the store a frame tick reaches the queue and the loss count alone. -/
theorem tickFrame_store (s : State) :
    { (tickFrame s).store with queue := s.store.queue, loss := s.store.loss } = s.store := by
  obtain ⟨l, a, hs, -, -⟩ := s.requests_st
  rw [tickFrame_eq]
  have hst : (s.requests.map fun t => { t with timebase := { t.timebase with
      frameDiv := 0, framePeriod := periodOf t.settings.divider
      frameCounter := s.timebase.frameCounter + 1 } }).st.store = s.store := by
    rw [Work.map_st, hs]
  generalize (s.requests.map _) = w at hst
  have hr := w.join_store_rings
  have ha := w.join_store_access
  have ht := w.join_store_turn
  rw [hst] at hr ha ht
  simp only [hr, ha, ht]

/-- No frame is in flight on a link once the one that was has arrived. -/
theorem Link.arrived_inFlight (l : Link) (address : BitVec 3) (frame : BitVec 32) :
    (l.arrived address frame).inFlight = none := by
  unfold Link.arrived
  split
  · assumption
  · next f _ =>
    have hj : (l.judged f (classify address frame) frame).inFlight = none := by
      rcases l.judged_cases f (classify address frame) frame with h | ⟨-, h⟩ | ⟨-, h⟩ <;> rw [h]
      · exact l.counted_inFlight f _ frame
      · exact Link.pass_inFlight_none _ _ (l.counted_inFlight f _ frame)
      · exact Link.pass_inFlight_none _ _ (l.counted_inFlight f _ frame)
    have hcount : ∀ l : Link, l.countCycle.inFlight = l.inFlight := by
      intro l
      unfold Link.countCycle
      dsimp only
      split <;> rfl
    dsimp only
    split
    · rcases (l.judged f (classify address frame) frame).endCycle_cases with ⟨-, h⟩ | ⟨-, h⟩ | ⟨-, h⟩ | ⟨-, h⟩ <;> rw [h]
      · unfold Link.formWord
        split <;> exact hj
      · rw [hcount, hj]
      · exact Link.pass_inFlight_none _ _ ((hcount _).trans hj)
      · exact Link.pass_inFlight_none _ _ ((hcount _).trans hj)
    · exact hj

/-- The links, the averagers and the Timebase of a frame tick are those of the tick on the state in which each link's own
unanswered frame has arrived (log 3). -/
theorem frameTick_of_settled (s u : State) (hset : u.settings = s.settings) (htime : u.timebase = s.timebase)
    (hl : ∀ n, nth u.links n = s.settledLink n) (ha : ∀ n, nth u.averagers n = s.settledAverager n) :
    (frameTick s).links = (frameTick u).links ∧ (frameTick s).averagers = (frameTick u).averagers ∧
      (frameTick s).timebase = (frameTick u).timebase := by
  have hin : ∀ n, (nth u.links n).inFlight = none := fun n => by rw [hl]; exact Link.arrived_inFlight _ _ _
  refine ⟨tab_ext fun n => ?_, tab_ext fun n => ?_, ?_⟩
  · rw [frameTick_links, frameTick_links, State.settledLink, State.settledLink, Link.arrived_of_none (hin n), hl, htime]
    rfl
  · rw [frameTick_averagers, frameTick_averagers, State.settledAverager, State.settledAverager,
      Averager.arrived_of_none (hin n), ha, htime]
    rfl
  · rw [frameTick_timebase, frameTick_timebase, State.frameTimebase, State.frameTimebase, hset, htime]

/-- Settles O4: the first part link by link, by what a request makes of one; the second by the arrivals that settle the
state. -/
theorem frameTickRequests : Obligations.FrameTickRequests := by
  refine ⟨fun s hin => ?_, fun s f hf => ?_⟩
  · obtain ⟨st, fr, he⟩ := tickFrame_frame s
    refine ⟨_, exec_frameTick s, ?_⟩
    rw [frameTick, settled_of_none hin]
    have hstore := tickFrame_store s
    rw [he] at hstore ⊢
    refine ⟨rfl, fun n => ?_, rfl, hstore⟩
    obtain ⟨h1, h2, h3, h4, h5, h6, h7⟩ := (nth s.links n).ticked_frame s.timebase.frameCounter
    simp only [nth_tab]
    refine ⟨Link.ticked_lines _ _ (hin n), Link.ticked_state _ _, h1, h2, h3, h4, h5, h6, h7,
      Link.ticked_command _ _, ?_⟩
    rw [Link.ticked_eq, Averager.ticked]
    split <;> exact ⟨rfl, rfl, rfl, rfl⟩
  · have hfn : ∀ n, f n = s.arrival n 0xFFFFFFFF#32 := fun n => by
      have := hf n
      rw [exec_frameArrival] at this
      exact (Host.Outcome.next.inj this).symm
    refine ⟨_, _, exec_frameTick s, exec_frameTick _, frameTick_of_settled s _ rfl rfl (fun n => ?_) fun n => ?_⟩
    · rw [nth_tab, hfn, State.arrival_link]
      rfl
    · rw [nth_tab, hfn, State.arrival_averagers, nth_upd_self]
      rfl

/-! ### Head commands -/

/-- Turns of which one alone speaks. What it says depends on `Q`, which every other turn keeps. -/
theorem Work.forEach_out {n : Nat} (P Q : Work → Prop) (f : Fin n → Work → Work) (k : Fin n) (r : List Handed) (w : Work)
    (hP0 : P w) (hQ0 : Q w) (hP : ∀ i w, P w → P (f i w)) (hQ : ∀ i w, i ≠ k → P w → Q w → Q (f i w))
    (hother : ∀ i w, i ≠ k → P w → (f i w).out = w.out) (hk : ∀ w, P w → Q w → (f k w).out = w.out ++ r) :
    (w.forEach f).out = w.out ++ r := by
  have key : ∀ l : List (Fin n), l.Nodup → ∀ w, P w → (k ∈ l → Q w) →
      (l.foldl (fun w i => f i w) w).out = if k ∈ l then w.out ++ r else w.out := by
    intro l
    induction l with
    | nil => exact fun _ w _ _ => by simp
    | cons a l ih =>
      intro hl w hw hq
      obtain ⟨ha, hl⟩ := List.nodup_cons.mp hl
      rw [List.foldl_cons]
      by_cases hak : a = k
      · subst hak
        rw [ih hl (f a w) (hP a w hw) (fun h => absurd h ha), if_neg ha, if_pos (List.mem_cons_self ..)]
        exact hk w hw (hq (List.mem_cons_self ..))
      · rw [ih hl (f a w) (hP a w hw) (fun h => hQ a w hak hw (hq (List.mem_cons_of_mem _ h))), hother a w hak hw]
        simp [Ne.symm hak]
  exact (key _ (List.nodup_finRange n) w hP0 fun _ => hQ0).trans (by simp)

/-- A tick at which one link alone sends a command to its end hands over that link's HEAD_CMD SENT event (R17). -/
theorem State.requests_out_of_sends {s : State} {n : Fin 8} {c : HeadCommand}
    (hc : (nth s.links n).command = some c) (hs : (nth s.links n).sends s.timebase.frameCounter = true)
    (hother : ∀ m, m ≠ n → (nth s.links m).command = none) :
    s.requests.out = [⟨.link n, s.followingRecord (.input n) (.headCmd n c false)⟩] := by
  obtain ⟨l, a, hb, hl, -⟩ := s.beginCycles_frame
  have hlink : ∀ m, (nth l m).command = (nth s.links m).command ∧
      (nth l m).sends s.timebase.frameCounter = (nth s.links m).sends s.timebase.frameCounter := fun m => by
    rw [hl]
    split <;> exact ⟨rfl, rfl⟩
  refine Work.forEach_out
    (fun w => w.st.timebase = s.timebase ∧ ∀ m, m ≠ n → (nth w.st.links m).command = none)
    (fun w => (nth w.st.links n).command = some c ∧ (nth w.st.links n).sends s.timebase.frameCounter = true)
    (Work.requestFrame s.timebase.frameCounter) n _ (Work.start s.beginCycles) ?_ ?_ ?_ ?_ ?_ ?_
  · rw [Work.start_st, hb]
    exact ⟨rfl, fun m hm => (hlink m).1.trans (hother m hm)⟩
  · rw [Work.start_st, hb]
    exact ⟨(hlink n).1.trans hc, (hlink n).2.trans hs⟩
  · rintro i w ⟨ht, hm⟩
    rw [Work.requestFrame_st]
    refine ⟨ht, fun m hmn => ?_⟩
    rw [nth_put]
    split
    · next e =>
      subst e
      have := hm i hmn
      unfold Link.request
      split <;> simp [this]
    · exact hm m hmn
  · rintro i w hi - hq
    rw [Work.requestFrame_st, nth_put_ne _ _ hi]
    exact hq
  · rintro i w hi ⟨-, hm⟩
    exact Work.requestFrame_out_of_not_sends _ i w (by simp [Link.sends, hm i hi])
  · rintro w ⟨ht, -⟩ ⟨hq, hqs⟩
    rw [Work.requestFrame_out_of_sends _ n w hq hqs, ht]
    rfl

/-- Settles O5: HEAD_CMD_START and HEAD_CMD_SENT are the frame tick where they are due, and there the slot moves as the
request of index 0 and of index 15 has it. -/
theorem headCommandGoesOut : Obligations.HeadCommandGoesOut := by
  intro s n c hin hs hc
  have hlink : nth (frameTick s).links n = (nth s.links n).ticked s.timebase.frameCounter := by
    rw [frameTick_links, State.settledLink, Link.arrived_of_none (hin n)]
  have hlines := Link.ticked_lines (nth s.links n) s.timebase.frameCounter (hin n)
  rw [if_pos (.inr (.inl hs))] at hlines
  obtain ⟨-, -, hmark, hbit⟩ := hlines
  obtain ⟨hcmd, hsend⟩ := Link.ticked_command (nth s.links n) s.timebase.frameCounter
  refine ⟨fun h0 hns => ?_, fun h15 hse => ?_⟩
  · have hdue : (nth (settled s).links n).starts s.timebase.frameCounter = true := by
      rw [settled_of_none hin]
      simp [Link.starts, hs, hc, hns, h0]
    refine ⟨frameTick s, ?_, exec_frameTick s, ?_⟩
    · change Host.Outcome.next (if _ then _ else _) = _
      rw [if_pos hdue]
    · rw [hlink, hcmd, hsend, hmark, hbit]
      simp [hs, hc, h0]
  · have hsends : (nth s.links n).sends s.timebase.frameCounter = true := by simp [Link.sends, hs, hc, hse, h15]
    refine ⟨frameTick s, ?_, exec_frameTick s, ?_, ?_, ?_, ?_, fun hother hroom => ?_⟩
    · change Host.Outcome.next (if _ then _ else _) = _
      rw [settled_of_none hin, if_pos hsends]
    · rw [hlink, hcmd]
      simp [hs, hc, h15, hse]
    · rw [hlink, hsend]
      simp [hs, hc, h15, hse]
    · rw [hlink, hmark]
      simp [h15]
    · rw [hlink, hbit]
      simp [hc, h15, hse]
    · obtain ⟨_, _, hst, -, -⟩ := s.requests_st
      rw [frameTick, settled_of_none hin, tickFrame_eq, Work.join_store_of_oneSender _ (.link n)]
      · rw [Work.map_out, Work.map_st, State.requests_out_of_sends hc hsends hother, hst]
        rw [List.map_singleton, Store.foldl_join_event _ [] rfl (by simpa using hroom)]
        exact ⟨rfl, rfl⟩
      · rw [Work.map_out, State.requests_out_of_sends hc hsends hother]
        simp

end Sys2Proof.Machine
end

section
/-! ## The second as it is formed, power-on, the head command request, and events that are not due -/

namespace Sys2Proof.Machine

/-! ### Input seconds (R23, R29, R57) -/

/-- The zeroing indication, written out from R14. -/
theorem Link.zeroing_eq (l : Link) : l.zeroing = l.word.any fun w => !w.stale && wordZeroing w.bits := by
  unfold Link.zeroing
  cases l.word <;> rfl

/-- Settles O13: a second tick forms the seconds from what a commit at it has left, and a commit reaches neither the
divider counts nor what a second holds so far. -/
theorem inputSecondFormed : Obligations.InputSecondFormed := by
  intro s pulled
  obtain ⟨hl, ha, hset, htime⟩ := secondTick_spec pulled s
  obtain ⟨⟨k, hk⟩, -, hav⟩ := s.commitStages_timing
  rw [hk] at ha htime
  refine ⟨_, rfl, by rw [htime], by rw [htime], by rw [htime], by rw [htime], fun n => ?_, fun n => ?_, fun hu => ?_⟩
  · obtain ⟨hsum, hn⟩ := hav n
    rw [ha]
    simp only [Averager.formSecond, Averager.value, clampCurrent, hsum, hn, and_self]
  · rw [hl, Link.freshMark, Link.zeroing_eq]
  · rw [State.commitStages_of_uncommitted hu] at hl ha hset hk
    refine ⟨fun n hn => ?_, by rw [htime]; exact (congrArg Timebase.frameCounter hk).symm, hset, fun n => ?_⟩
    · rw [hl, Link.retried, if_neg hn]
      rfl
    · rw [ha]
      exact ⟨rfl, rfl⟩

/-! ### Power-on (R134) -/

/-- Settles O3: each block's reset value is the one that its own rule states. -/
theorem powerOnState : Obligations.PowerOnState := by
  intro solo s
  refine ⟨_, rfl, rfl, rfl, rfl, rfl, fun n => nth_tab _ n, fun n => nth_tab _ n, fun c => ?_, rfl, nth_tab _ _,
    nth_tab _ _, nth_tab _ _, nth_tab _ _, rfl, rfl, rfl, nth_tab _ _, nth_tab _ _, rfl, fun c => nth_tab _ c, rfl,
    fun i => nth_tab _ i, fun l => nth_tab _ l, fun c => nth_tab _ c, fun r => nth_tab _ r, rfl, rfl, rfl, rfl,
    fun o => nth_tab _ o, fun p => ?_, rfl, rfl, rfl⟩
  · exact ⟨nth_tab _ c, nth_tab _ c, nth_tab _ c, nth_tab _ c, nth_tab _ c, nth_tab _ c⟩
  · exact (Ports.get_all s.ports Port.acrossReset p).trans rfl

/-- Settles O60: the reset state is written out, so each bound is one of its values. -/
theorem resetIsSound : Obligations.ResetIsSound := by
  have hch : ∀ c, nth State.reset.channels c = Channel.reset := fun c => nth_tab _ c
  have hsn : ∀ c, nth State.reset.test.snapshots c = none := fun c => nth_tab _ c
  have hen : ∀ i, nth State.reset.alarms i = AlarmEntry.reset := fun i => nth_tab _ i
  have hri : ∀ r, nth State.reset.store.rings r = { oldest := 1, next := 1, records := [] } := fun r => nth_tab _ r
  refine ⟨⟨by decide, by decide⟩, ⟨fun r => ?_, nofun⟩, fun p r => ?_, fun c => ⟨?_, ?_⟩, ⟨fun c => ?_, nofun, nofun⟩,
    fun c => ⟨fun k => ?_, ?_, ?_⟩, State.reset_linksSound, trivial⟩
  · rw [hri]
    exact ⟨by decide, by decide, by decide, Nat.zero_le _, rfl⟩
  · have hcu : (nth (State.reset.port p).cursors r).cursor = 1 := by
      cases p <;> exact congrArg Cursor.cursor (nth_tab _ r)
    rw [hri, hcu]
    exact ⟨Nat.le_refl 1, Nat.le_refl 1⟩
  · rw [hch]
    exact Nat.zero_le _
  · rw [hsn]
    nofun
  · rw [hch, hsn]
    exact ⟨by decide, by decide, by decide, nofun, nofun⟩
  · rw [hen, hch]
    cases k <;> rfl
  · rw [hch]
    nofun
  · rw [hsn]
    nofun

/-! ### SEND HEAD COMMAND (R15) -/

theorem nameOf_of_lt {n : Nat} {x : Byte} {i : Fin n} (h : x.toNat = i.val) : nameOf n x = some i := by
  unfold nameOf
  rw [dif_pos (h ▸ i.isLt)]
  exact congrArg some (Fin.ext h)

theorem nameOf_of_le {n : Nat} {x : Byte} (h : n ≤ x.toNat) : nameOf n x = none := by
  unfold nameOf
  rw [dif_neg (by omega)]

/-- When a ZERO command is refused (R15). -/
theorem State.zeroRefused_iff (s : State) (n : Fin 8) :
    s.zeroRefused n = true ↔
      (∃ c, (nth s.settings.map c).uses n = true ∧ (nth s.channels c).conds.excursion = true) ∨
        s.storm.state = .storm ∨ s.storm.state = .tail := by
  have hany : ((List.finRange 8).any fun c =>
      (nth s.settings.map c).uses n && (nth s.channels c).conds.excursion) = true ↔
        ∃ c, (nth s.settings.map c).uses n = true ∧ (nth s.channels c).conds.excursion = true := by
    simp [List.any_eq_true]
  unfold State.zeroRefused
  rw [Bool.or_eq_true, hany]
  cases s.storm.state <;> simp

/-- Settles O42: the request's conditions are the chain of the rule. -/
theorem headCommandTaken : Obligations.HeadCommandTaken := by
  intro s p x code hp
  have hexec : exec (.sendHeadCommand p x code) s =
      .next (((s.takeHeadCommand x code).1).answered p (s.takeHeadCommand x code).2) :=
    congrArg Host.Outcome.next (State.endTransfer_of_plain hp fun s => s.takeHeadCommand x code)
  refine ⟨fun hbad => ?_, fun n command hn hcode => ?_⟩
  · have htake : s.takeHeadCommand x code = (s, bare .badArgument 9) := by
      unfold State.takeHeadCommand
      rcases hbad with h | ⟨h1, h2⟩
      · rw [nameOf_of_le h]
      · have hnone : headCommandOf code = none := by
          exact (if_neg h1).trans (if_neg h2)
        rw [hnone]
        cases nameOf 8 x <;> rfl
    rw [hexec, htake]
  · have hcommand : headCommandOf code = some command := by
      rcases hcode with ⟨rfl, rfl⟩ | ⟨rfl, rfl⟩ <;> rfl
    rw [hexec]
    unfold State.takeHeadCommand
    simp only [nameOf_of_lt hn, hcommand, State.zeroRefused_iff]
    split
    · rfl
    · split
      · rfl
      · split <;> rfl

/-! ### Events that are not due (log 2) -/

/-- A frame with none in flight. -/
theorem exec_frameArrival_of_none {s : State} {n : Fin 8} (h : (nth s.links n).inFlight = none) (frame : BitVec 32) :
    exec (.frameArrival n frame) s = .next s := by
  rw [exec_frameArrival, State.arrival, Work.arrive_of_none _ n frame h, Work.join_of_nil _ rfl]
  rfl

/-- A command that is a second tick where its event is due, and nothing where it is not. -/
theorem next_ite_of_false {b : Bool} {s t : State} (h : b = false) :
    (.next (if b then t else s) : Host.Outcome State Fault Refusal) = .next s := by rw [h]; rfl

/-- The storm before and after the decision of a second tick that commits nothing. -/
theorem tickDecided_storm (pulled : Bool) (s : State) :
    (tickDecided pulled s).st.storm =
      s.commitStages.storm.second (tickJudged s).st.settings.station (excursions (tickJudged s).st.channels) pulled
        (tickJudged s).st.timebase.time := by
  obtain ⟨_, _, hi, -⟩ := tickInputs_spec s
  have hs : (tickJudged s).st.storm = s.commitStages.storm := by
    rw [tickJudged, Work.map_st, State.judgeChannels_storm, hi]
  unfold tickDecided Work.decideStorm
  dsimp only
  rw [← hs]
  split <;> rfl

/-- The tail goes on while its count is at least 2, and only a tail ends (R93). -/
theorem endsTail_of_notDue {s : State} (pulled : Bool) (hu : s.uncommitted)
    (h : s.storm.state ≠ .tail ∨ 2 ≤ s.storm.tail) : endsTail pulled s = false := by
  have hc := State.commitStages_of_uncommitted hu
  obtain ⟨_, _, hi, -⟩ := tickInputs_spec s
  have hs : (tickJudged s).st.storm = s.storm := by rw [tickJudged, Work.map_st, State.judgeChannels_storm, hi, hc]
  unfold endsTail
  rw [tickDecided_storm, hc, hs]
  rcases h with h | h
  · simp [h]
  · by_cases ht : s.storm.state = .tail
    · simp only [Storm.second, StormState.after, ht]
      rw [if_pos h]
      split
      · simp
      · simp
    · simp [ht]

theorem endsTail_of_storm {s : State} (pulled : Bool) (h : (secondTick pulled s).storm.state ≠ .quiet) :
    endsTail pulled s = false := by
  rw [(secondTick_fields pulled s).1] at h
  simp [endsTail, h]

theorem TestGen.afterSupply_frame (t : TestGen) :
    t.afterSupply.plan = t.plan ∧ t.afterSupply.remaining = t.remaining := by
  unfold TestGen.afterSupply
  split
  · next p _ =>
    unfold TestGen.supply
    cases p.form <;> dsimp only
    · exact ⟨rfl, rfl⟩
    · exact ⟨rfl, rfl⟩
    · split <;> exact ⟨rfl, rfl⟩
    · exact ⟨rfl, rfl⟩
  · exact ⟨rfl, rfl⟩

/-- A test that goes on does not expire (R44). -/
theorem expiresTest_of_goesOn {s : State} (hu : s.uncommitted) (h : s.testGoesOn) : expiresTest s = false := by
  obtain ⟨_, _, hi, -⟩ := tickInputs_spec s
  obtain ⟨hplan, hrem⟩ := s.test.afterSupply_frame
  unfold expiresTest
  rw [hi, State.commitStages_of_uncommitted hu]
  dsimp only
  rw [hplan, hrem]
  rcases h with h | h
  · simp [h]
  · have : ¬ s.test.remaining ≤ 1 := by omega
    simp [this]

/-- The channel that stages 1 to 5 of a second tick leave, when no proposal commits at it (R55 to R62). -/
theorem tickJudged_channel {s : State} (hu : s.uncommitted) (n : Fin 8) :
    nth (tickJudged s).st.channels n =
      if (nth s.channels n).state = .disabled then nth s.channels n
      else
        match s.secondValue n with
        | some g => (nth s.channels n).present s.settings n s.timebase.time g
        | none => (nth s.channels n).absent (nth s.settings.analysis n).staleLimit s.timebase.time
            ((List.finRange 8).any fun m => (nth s.settings.map n).uses m && (nth s.links m).zeroSeen) := by
  have hvalue := tickInputs_channelValue s hu n
  obtain ⟨l, p, hi, hl⟩ := tickInputs_spec s
  rw [State.commitStages_of_uncommitted hu] at hi hl
  have hseen : ∀ m, (nth l m).zeroSeen = (nth s.links m).zeroSeen := fun m => by
    rw [hl, Link.retried]
    split
    · unfold Link.pass
      split <;> rfl
    · rfl
  rw [tickJudged, Work.map_st]
  simp only [State.judgeChannels, nth_tab, State.judge, State.zeroingSeen]
  rw [hi] at hvalue ⊢
  dsimp only at hvalue ⊢
  simp only [hvalue, hseen] <;> rfl

/-- A present second takes no channel to STALE, and leaves it in LEARNING only from there (R55, R59). -/
theorem Channel.present_state (c : Channel) (s : Settings) (i : Fin 8) (stamp : Time) (g : Int) :
    (c.present s i stamp g).state = (if c.state = .stale then c.left.state else c.state) ∧
      (c.present s i stamp g).learned = c.learned := by
  unfold Channel.present
  dsimp only
  split <;> next h => exact ⟨h ▸ rfl, rfl⟩

/-- An absent second takes a channel to STALE where its absence count, moved on, has reached the stale limit (R57, R58),
and hands no value. -/
theorem Channel.absent_state (c : Channel) (limit : Nat) (stamp : Time) (zeroing : Bool)
    (hc : c.state = .learning ∨ c.state = .armed) (hstale : (c.absent limit stamp zeroing).state = .stale) :
    limit ≤ if zeroing then c.absence else if 65535 ≤ c.absence then 65535 else c.absence + 1 := by
  have htest : c.state ≠ .test := by rcases hc with h | h <;> rw [h] <;> decide
  unfold Channel.absent at hstale
  rw [if_neg htest] at hstale
  change limit ≤ if zeroing then c.absence else satSucc 65535 c.absence
  by_contra hlt
  dsimp only at hstale
  rw [if_neg hlt, if_neg hlt] at hstale
  rcases hc with h | h <;> rw [h] at hstale <;> cases hstale

theorem Channel.absent_latest (c : Channel) (limit : Nat) (stamp : Time) (zeroing : Bool) :
    (c.absent limit stamp zeroing).latest.bind (·.value) = none := by
  unfold Channel.absent
  generalize (if c.state = .test then 0 else if zeroing then c.absence else satSucc 65535 c.absence) = absence
  dsimp only
  split
  · split <;> rfl
  · split <;> rfl
  all_goals rfl

/-- A channel that goes STALE was in LEARNING or ARMED, its second was absent, and its stale limit is reached (R58). -/
theorem goesStale_due {s : State} (hu : s.uncommitted) {n : Fin 8} (h : goesStale n s = true) :
    ((nth s.channels n).state = .learning ∨ (nth s.channels n).state = .armed) ∧ s.secondValue n = none ∧
      (nth s.settings.analysis n).staleLimit ≤
        if (List.finRange 8).any fun m => (nth s.settings.map n).uses m && (nth s.links m).zeroSeen then
          (nth s.channels n).absence
        else if 65535 ≤ (nth s.channels n).absence then 65535 else (nth s.channels n).absence + 1 := by
  obtain ⟨_, _, hi, -⟩ := tickInputs_spec s
  rw [State.commitStages_of_uncommitted hu] at hi
  unfold goesStale at h
  rw [tickJudged_channel hu, hi] at h
  simp only [Bool.and_eq_true, Bool.or_eq_true, beq_iff_eq] at h
  obtain ⟨hstate, hstale⟩ := h
  have hnd : (nth s.channels n).state ≠ .disabled := by rcases hstate with h | h <;> rw [h] <;> decide
  rw [if_neg hnd] at hstale
  cases hv : s.secondValue n with
  | some g =>
    rw [hv] at hstale
    have hp := ((nth s.channels n).present_state s.settings n s.timebase.time g).1
    dsimp only at hstale
    rw [hstale] at hp
    rcases hstate with h | h <;> rw [h] at hp <;> cases hp
  | none =>
    rw [hv] at hstale
    exact ⟨hstate, rfl, Channel.absent_state _ _ _ _ hstate hstale⟩

/-- A channel that ends LEARNING was learning before the second, present in it, and in its 64th such second (R55). -/
theorem endsLearning_due {s : State} (hu : s.uncommitted) {n : Fin 8} {pulled : Bool}
    (h : endsLearning n pulled s = true) :
    ((nth s.channels n).state = .learning ∨ (nth s.channels n).state = .stale ∧ (nth s.channels n).left = .learning) ∧
      (s.secondValue n).isSome ∧ 63 ≤ (nth s.channels n).learned := by
  obtain ⟨_, _, hd⟩ := tickDecided_frame pulled s
  unfold endsLearning at h
  rw [tickMoved, Work.map_st, hd] at h
  simp only [State.moveChannels, nth_tab, Bool.and_eq_true, beq_iff_eq] at h
  obtain ⟨hlearn, hmove⟩ := h
  have hlatest : ∃ v, (nth (tickJudged s).st.channels n).latest.bind (·.value) = some v ∧
      63 ≤ (nth (tickJudged s).st.channels n).learned := by
    unfold Channel.move at hmove
    split at hmove
    · rw [hlearn] at hmove
      cases hmove
    · next v hv =>
      rw [hlearn] at hmove
      refine ⟨v, hv, ?_⟩
      dsimp only at hmove
      split at hmove
      · next h64 => omega
      · cases hmove
  obtain ⟨v, hv, h63⟩ := hlatest
  rw [tickJudged_channel hu] at hlearn hv h63
  split at hlearn
  · next hdis =>
    rw [hdis] at hlearn
    cases hlearn
  · next hnd =>
    rw [if_neg hnd] at hv h63
    cases hs : s.secondValue n with
    | none =>
      rw [hs] at hv
      dsimp only at hv
      rw [Channel.absent_latest] at hv
      cases hv
    | some g =>
      rw [hs] at hlearn h63
      obtain ⟨hp, hl⟩ := (nth s.channels n).present_state s.settings n s.timebase.time g
      dsimp only at hlearn h63
      rw [hl] at h63
      rw [hp] at hlearn
      refine ⟨?_, rfl, h63⟩
      split at hlearn
      · next hst =>
        refine .inr ⟨hst, ?_⟩
        cases hleft : (nth s.channels n).left with
        | learning => rfl
        | armed => rw [hleft] at hlearn; cases hlearn
      · exact .inl hlearn

/-! ### Frames that carry a request (R168) -/

/-- Which request a frame carries does not depend on the level of the strap, which only the request itself holds. -/
theorem requestOf_isSome (p : PortId) (a b : Bool) {code : Byte} (hcode : code.toNat ≤ 23) (args : List Byte) :
    (requestOf p a code args).isSome = (requestOf p b code args).isSome := by
  unfold requestOf
  generalize code.toNat = k at hcode ⊢
  rcases args with _ | ⟨x, _ | ⟨y, _ | ⟨z, _ | ⟨u, _ | ⟨v, _ | ⟨w, more⟩⟩⟩⟩⟩⟩ <;> interval_cases k <;> rfl

theorem judgeTransfer_request {p : PortId} {a : Bool} {bits : List Bool} {i : Instr}
    (h : judgeTransfer p a bits = .request i) (b : Bool) : ∃ j, judgeTransfer p b bits = .request j := by
  unfold judgeTransfer judgeFrame at h ⊢
  split at h
  · next code len rest _ =>
    dsimp only at h ⊢
    generalize rest.drop len.toNat = tail at h ⊢
    match tail with
    | [] => cases h
    | [_] => cases h
    | hi :: lo :: _ =>
      dsimp only at h ⊢
      split at h
      · cases h
      next hlen =>
      split at h
      · cases h
      next hcrc =>
      split at h
      · cases h
      next hcode =>
      split at h
      · cases h
      next htaken =>
      rw [if_neg hlen, if_neg hcrc, if_neg hcode, if_neg htaken]
      have hsome := requestOf_isSome p a b (by omega : code.toNat ≤ 23) (rest.take len.toNat)
      cases ha : requestOf p a code (rest.take len.toNat) with
      | none => rw [ha] at h; cases h
      | some j =>
        rw [ha, Option.isSome_some] at hsome
        obtain ⟨k, hk⟩ := Option.isSome_iff_exists.mp hsome.symm
        exact ⟨k, by rw [hk]⟩
  · cases h

/-! ### The retransmit pins (R163) -/

/-- No pulse runs under OFF, under a fault, with a code of 0 under SPLIT, or once the pins have left their first levels. -/
theorem Retransmit.endPulse_of_notDue (u : Retransmit)
    (h : u.period.mode = .off ∨ u.period.fault = true ∨
      u.period.mode = .offset ∧ ¬(u.pinA = true ∧ u.pinB = false) ∨
      u.period.mode = .split ∧ (u.period.code = 0 ∨
        ¬(u.pinA = decide (0 < u.period.code) ∧ u.pinB = decide (u.period.code < 0)))) : u.endPulse = u := by
  unfold Retransmit.endPulse
  split
  · next n hpulse =>
    rw [if_neg]
    intro hpins
    unfold PwmPeriod.pulse at hpulse
    unfold PwmPeriod.startPins at hpins
    split at hpulse
    · next hmode hfault =>
      rw [hmode, hfault] at h hpins
      simp_all
    · next hmode hfault =>
      rw [hmode, hfault] at h hpins
      split at hpulse
      · cases hpulse
      · simp_all
    · cases hpulse
  · rfl

/-! ### Windows that do not run out (R185, R189) -/

theorem expiresDraft_of_notDue {s : State} (h : ∀ o i, s.proposal ≠ .draft o i 0 ∧ s.proposal ≠ .draft o i 1) :
    expiresDraft s = false := by
  unfold expiresDraft
  split
  · next o i idle hp =>
    obtain ⟨h0, h1⟩ := h o i
    rw [hp] at h0 h1
    match idle with
    | 0 => exact absurd rfl h0
    | 1 => exact absurd rfl h1
    | k + 2 => simp
  all_goals rfl

theorem expiresConfirm_of_notDue {s : State} (h : ∀ o i, s.proposal ≠ .posted o i 0 ∧ s.proposal ≠ .posted o i 1) :
    expiresConfirm s = false := by
  unfold expiresConfirm
  split
  · next o i window hp =>
    obtain ⟨h0, h1⟩ := h o i
    rw [hp] at h0 h1
    match window with
    | 0 => exact absurd rfl h0
    | 1 => exact absurd rfl h1
    | k + 2 => simp
  all_goals rfl

/-! ### Accesses and transfers that are not due -/

theorem exec_storeGrant_of_busy {s : State} (h : s.store.access ≠ .idle) : exec .storeGrant s = .next s := by
  change execStoreGrant s = _
  unfold execStoreGrant
  split
  · next hi => exact absurd hi h
  all_goals rfl

theorem exec_writeComplete_of_none {s : State} (h : ∀ q, s.store.access ≠ .write q) :
    exec .writeComplete s = .next s := by
  change execWriteComplete s = _
  unfold execWriteComplete
  split
  · next q hq => exact absurd hq (h q)
  all_goals rfl

theorem exec_copyComplete_of_none {s : State} (h : ∀ q r, s.store.access ≠ .copy q r) :
    exec .copyComplete s = .next s := by
  change execCopyComplete s = _
  unfold execCopyComplete
  split
  · next p r hr => exact absurd hr (h p (some r))
  · next p hr => exact absurd hr (h p none)
  all_goals rfl

theorem exec_discardTimerExpiry_of_notReady {s : State} {p : PortId} (h : ∀ b, (s.port p).slot ≠ .ready b) :
    exec (.discardTimerExpiry p) s = .next s := by
  change execDiscardTimerExpiry p s = _
  unfold execDiscardTimerExpiry
  split
  · next b hb => exact absurd hb (h b)
  all_goals rfl

theorem exec_transferStart_of_low {s : State} {p : PortId} (h : (s.port p).transfer ≠ .idle) :
    exec (.transferStart p) s = .next s := by
  change execTransferStart p s = _
  unfold execTransferStart
  split
  · next hi => exact absurd hi h
  all_goals rfl

theorem exec_frameError_of_request {s : State} {p : PortId} {solo : Bool} {bits : List Bool} {i : Instr}
    (h : judgeTransfer p solo bits = .request i) : exec (.frameError p bits) s = .next s := by
  obtain ⟨j, hj⟩ := judgeTransfer_request h s.solo
  change execFrameError p bits s = _
  unfold execFrameError
  rw [hj]

/-! ### Head commands that do not begin or end (R16, R17) -/

/-- The link that the frame tick finds is the one that an unanswered frame leaves. -/
theorem settled_link_of_arrival {s u : State} {n : Fin 8} (h : exec (.frameArrival n 0xFFFFFFFF#32) s = .next u) :
    nth (settled s).links n = nth u.links n := by
  rw [exec_frameArrival] at h
  cases h
  exact ((settled_spec s).2.2 n).1.trans (s.arrival_link n _).symm

theorem Link.starts_of_not {l : Link} {index : Fin 16}
    (h : ¬((l.state = .locked ∧ l.command.isSome) ∧ l.sending = false ∧ index = 0)) : l.starts index = false := by
  rw [← Bool.not_eq_true]
  intro hs
  simp only [Link.starts, Bool.and_eq_true, beq_iff_eq, Bool.not_eq_true'] at hs
  obtain ⟨⟨⟨hl, hc⟩, hn⟩, hi⟩ := hs
  exact h ⟨⟨hl, hc⟩, hn, hi⟩

theorem Link.sends_of_not {l : Link} {index : Fin 16}
    (h : ¬((l.state = .locked ∧ l.command.isSome) ∧ l.sending = true ∧ index = 15)) : l.sends index = false := by
  rw [← Bool.not_eq_true]
  intro hs
  simp only [Link.sends, Bool.and_eq_true, beq_iff_eq] at hs
  obtain ⟨⟨⟨hl, hc⟩, hn⟩, hi⟩ := hs
  exact h ⟨⟨hl, hc⟩, hn, hi⟩

theorem retries_of_not_lost {s : State} {n : Fin 8} (hu : s.uncommitted) (h : (nth s.links n).state ≠ .lost) :
    retries n s = false := by
  rw [retries, State.commitStages_of_uncommitted hu]
  exact beq_eq_false_iff_ne.2 h

theorem exec_secondTick {s t : State} {pulled : Bool} (h : exec (.secondTick pulled) s = .next t) :
    t = secondTick pulled s :=
  (Host.Outcome.next.inj ((rfl : exec (.secondTick pulled) s = .next (secondTick pulled s)).symm.trans h)).symm

/-- Settles O29: each such command tests whether its event is due, and the test answers false. -/
theorem eventsNotDue : Obligations.EventsNotDue := by
  intro s n p pulled frame
  refine ⟨fun h => exec_frameArrival_of_none h frame, fun hu h => next_ite_of_false (retries_of_not_lost hu h),
    fun u hu => ⟨fun h => ?_, fun h => ?_⟩, fun hu h => next_ite_of_false (endsTail_of_notDue pulled hu h),
    fun _ t ht h => ?_, fun hu h => next_ite_of_false (expiresTest_of_goesOn hu h), fun hu => ⟨fun h => ?_, fun h => ?_⟩,
    fun h => next_ite_of_false (expiresDraft_of_notDue h), fun h => next_ite_of_false (expiresConfirm_of_notDue h),
    fun hu => next_ite_of_false hu, exec_storeGrant_of_busy, exec_writeComplete_of_none, exec_copyComplete_of_none,
    exec_discardTimerExpiry_of_notReady, exec_transferStart_of_low, fun o h => ?_,
    fun solo bits i h => exec_frameError_of_request h⟩
  · have hstarts := Link.starts_of_not h
    rw [← settled_link_of_arrival hu] at hstarts
    exact next_ite_of_false hstarts
  · have hsends := Link.sends_of_not h
    rw [← settled_link_of_arrival hu] at hsends
    exact next_ite_of_false hsends
  · rw [exec_secondTick ht] at h
    exact next_ite_of_false (endsTail_of_storm pulled h)
  · exact next_ite_of_false (Bool.eq_false_iff.2 fun hg => h (goesStale_due hu hg))
  · exact next_ite_of_false (Bool.eq_false_iff.2 fun he => h (endsLearning_due hu he))
  · change Host.Outcome.next { s with outputs := upd s.outputs o Retransmit.endPulse } = _
    rw [upd, Retransmit.endPulse_of_notDue _ h, put_nth]

end Sys2Proof.Machine
end

section
/-! ## What a step hands over and tells the ports -/

namespace Sys2Proof.Machine

/-! ### Notices only grow -/

/-- The flags, and the bits of the ALARM and LINK details, that stand in `a` stand in `b`. -/
def Notices.within (a b : Notices) : Prop :=
  (∀ i, a.flags.getLsbD i = true → b.flags.getLsbD i = true) ∧
    (∀ i, a.alarm.getLsbD i = true → b.alarm.getLsbD i = true) ∧
    ∀ i, a.link.getLsbD i = true → b.link.getLsbD i = true

theorem Notices.within_refl (a : Notices) : a.within a := ⟨fun _ h => h, fun _ h => h, fun _ h => h⟩

theorem Notices.within_trans {a b c : Notices} (h : a.within b) (k : b.within c) : a.within c :=
  ⟨fun i hi => k.1 i (h.1 i hi), fun i hi => k.2.1 i (h.2.1 i hi), fun i hi => k.2.2 i (h.2.2 i hi)⟩

theorem getLsbD_or_left {w : Nat} {a b : BitVec w} {i : Nat} (h : a.getLsbD i = true) : (a ||| b).getLsbD i = true := by
  rw [BitVec.getLsbD_or, h, Bool.true_or]

theorem getLsbD_or_right {w : Nat} {a b : BitVec w} {i : Nat} (h : b.getLsbD i = true) : (a ||| b).getLsbD i = true := by
  rw [BitVec.getLsbD_or, h, Bool.or_true]

theorem Notices.within_addAlarm (a : Notices) (m : BitVec 8) : a.within (a.addAlarm m) :=
  ⟨fun _ => getLsbD_or_left, fun _ => getLsbD_or_left, fun _ h => h⟩

theorem Notices.within_addLink (a : Notices) (n : Fin 8) : a.within (a.addLink n) :=
  ⟨fun _ => getLsbD_or_left, fun _ h => h, fun _ => getLsbD_or_left⟩

theorem Notices.within_addStorm (a : Notices) : a.within a.addStorm :=
  ⟨fun _ => getLsbD_or_left, fun _ h => h, fun _ h => h⟩

theorem Notices.within_addSettings (a : Notices) (c : Fin 4) : a.within (a.addSettings c) :=
  ⟨fun _ => getLsbD_or_left, fun _ h => h, fun _ h => h⟩

theorem Notices.within_addTest (a : Notices) (e : Bool) : a.within (a.addTest e) :=
  ⟨fun _ => getLsbD_or_left, fun _ h => h, fun _ h => h⟩

/-- The bit of a place in a mask with room for it. -/
theorem getLsbD_bitOf {m : Nat} (w : Nat) (i : Fin m) (h : i.val < w) : (bitOf w i).getLsbD i.val = true := by
  simp [bitOf, h]

/-- The LINK notice of an input, as it stands once added. -/
theorem Notices.addLink_bits (a : Notices) (n : Fin 8) :
    (a.addLink n).flags.getLsbD 4 = true ∧ (a.addLink n).link.getLsbD n.val = true :=
  ⟨getLsbD_or_right rfl, getLsbD_or_right (getLsbD_bitOf 8 n n.isLt)⟩

/-- The ALARM notice of a channel, as it stands once added. -/
theorem Notices.addAlarm_bits (a : Notices) (c : Fin 8) :
    (a.addAlarm (bitOf 8 c)).flags.getLsbD 0 = true ∧ (a.addAlarm (bitOf 8 c)).alarm.getLsbD c.val = true :=
  ⟨getLsbD_or_right rfl, getLsbD_or_right (getLsbD_bitOf 8 c c.isLt)⟩

/-- Of every port, what its notices say in `s` they say in `t`. -/
def State.told (s t : State) : Prop := ∀ p, (s.port p).notices.within (t.port p).notices

theorem State.told_of_ports {s t : State} (h : t.ports = s.ports) : s.told t := fun p => by
  rw [State.port, State.port, h]
  exact Notices.within_refl _

theorem State.told_trans {s t u : State} (h : s.told t) (k : t.told u) : s.told u :=
  fun p => Notices.within_trans (h p) (k p)

/-- All ports told of something have heard it, and what they heard before. -/
theorem State.told_of_all {s t : State} {f : Notices → Notices} (ht : t.ports = (s.notifyAll f).ports)
    (h : ∀ a : Notices, a.within (f a)) : s.told t := fun p => by
  have hp : t.port p = { s.port p with notices := f (s.port p).notices } :=
    (congrArg (fun ps : Ports => ps.get p) ht).trans (s.port_notifyAll f p)
  rw [hp]
  exact h _

/-! ### Operations that hand over at most so many records -/

/-- A step that hands over at most `k` records, takes no notice back, and reaches neither the store nor the Timebase. -/
structure Work.Hands (k : Nat) (w w' : Work) : Prop where
  out : ∃ l, w'.out = w.out ++ l ∧ l.length ≤ k
  told : w.st.told w'.st
  store : w'.st.store = w.st.store
  timebase : w'.st.timebase = w.st.timebase

namespace Work.Hands

theorem refl (k : Nat) (w : Work) : Hands k w w :=
  ⟨⟨[], by simp, Nat.zero_le k⟩, State.told_of_ports rfl, rfl, rfl⟩

theorem trans {j k : Nat} {w x y : Work} (h : Hands j w x) (g : Hands k x y) : Hands (j + k) w y := by
  obtain ⟨l, hl, hlj⟩ := h.out
  obtain ⟨m, hm, hmk⟩ := g.out
  exact ⟨⟨l ++ m, by rw [hm, hl, List.append_assoc], by rw [List.length_append]; omega⟩,
    State.told_trans h.told g.told, g.store.trans h.store, g.timebase.trans h.timebase⟩

theorem mono {j k : Nat} {w x : Work} (h : Hands j w x) (hjk : j ≤ k) : Hands k w x := by
  obtain ⟨l, hl, hlj⟩ := h.out
  exact ⟨⟨l, hl, hlj.trans hjk⟩, h.told, h.store, h.timebase⟩

/-- A change of the state that is none of the ports, the store and the Timebase. -/
theorem map (w : Work) {f : State → State} (hp : (f w.st).ports = w.st.ports) (hs : (f w.st).store = w.st.store)
    (ht : (f w.st).timebase = w.st.timebase) : Hands 0 w (w.map f) :=
  ⟨⟨[], by simp [Work.map], Nat.le_refl 0⟩, State.told_of_ports hp, hs, ht⟩

/-- A change of the state by which all ports are told of something. -/
theorem tell (w : Work) {f : State → State} {g : Notices → Notices} (hg : ∀ a : Notices, a.within (g a))
    (hp : (f w.st).ports = (w.st.notifyAll g).ports) (hs : (f w.st).store = w.st.store)
    (ht : (f w.st).timebase = w.st.timebase) : Hands 0 w (w.map f) :=
  ⟨⟨[], by simp [Work.map], Nat.le_refl 0⟩, State.told_of_all hp hg, hs, ht⟩

theorem event (w : Work) (x : Sender) (source : EventSource) (body : EventBody) :
    Hands 1 w (w.event x source body) :=
  ⟨⟨_, w.event_out x source body, Nat.le_refl 1⟩, State.told_of_ports rfl, rfl, rfl⟩

theorem foldl {ι : Type} {k : Nat} {f : Work → ι → Work} (h : ∀ w i, Hands k w (f w i)) (l : List ι) (w : Work) :
    Hands (l.length * k) w (l.foldl f w) := by
  induction l generalizing w with
  | nil => exact refl _ w
  | cons i l ih => exact ((h w i).trans (ih (f w i))).mono (by rw [List.length_cons, Nat.succ_mul]; omega)

theorem forEach {n k : Nat} {f : Fin n → Work → Work} (h : ∀ i w, Hands k w (f i w)) (w : Work) :
    Hands (n * k) w (w.forEach f) := by
  have := foldl (f := fun w i => f i w) (fun w i => h i w) (List.finRange n) w
  rwa [List.length_finRange] at this

theorem ite {k : Nat} {w x y : Work} {b : Prop} [Decidable b] (h : Hands k w x) (g : Hands k w y) :
    Hands k w (if b then x else y) := by
  split
  · exact h
  · exact g

end Work.Hands

open Work (Hands)

theorem Work.hands_moveEntry (w : Work) (x : Sender) (i : Fin 32) (e : AlarmEntry) (v : Nat) (c : AlarmCause) :
    Hands 1 w (w.moveEntry x i e v c) :=
  ⟨⟨_, w.moveEntry_out x i e v c, Nat.le_refl 1⟩,
    State.told_of_all (f := (·.addAlarm (bitOf 8 (channelOf i)))) rfl fun a => a.within_addAlarm _, rfl, rfl⟩

theorem Work.hands_handCondition (w : Work) (c : Fin 8) (k : AlarmKind) (was now : Bool) (v : Nat) (t : Bool) :
    Hands 1 w (w.handCondition c k was now v t) := by
  rcases w.handCondition_cases c k was now v t with h | ⟨_, _, _, h⟩ | ⟨_, _, _, h⟩ <;> rw [h]
  · exact .refl 1 w
  · exact w.hands_moveEntry ..
  · exact w.hands_moveEntry ..

theorem Work.hands_handChanges (w : Work) (c : Fin 8) (old new : Channel) : Hands 4 w (w.handChanges c old new) :=
  Hands.foldl (fun w _ => w.hands_handCondition ..) alarmKinds w

theorem Work.hands_setChannel (w : Work) (c : Fin 8) (new : Channel) : Hands 4 w (w.setChannel c new) :=
  ((Hands.map w rfl rfl rfl).trans (Work.hands_handChanges _ c _ new)).mono (Nat.le_refl 4)

theorem Work.hands_closeInterval (w : Work) (c : Fin 8) (t : Bool) : Hands 1 w (w.closeInterval c t) := by
  rcases w.closeInterval_cases c t with ⟨_, h⟩ | ⟨v, _, hst, h⟩
  · rw [h]
    exact .refl 1 w
  · refine ⟨?_, State.told_of_ports (by rw [hst]), by rw [hst], by rw [hst]⟩
    rcases h with ⟨_, h⟩ | ⟨_, _, h⟩
    · exact ⟨[], by simp [h], Nat.zero_le 1⟩
    · exact ⟨_, h, Nat.le_refl 1⟩

theorem Work.hands_addSecond (w : Work) (c : Fin 8) (d : Option Int) : Hands 2 w (w.addSecond c d) := by
  unfold Work.addSecond
  split
  · exact .refl 2 w
  · next v _ =>
    dsimp only
    have h1 : Hands 1 w (if v.first.any (fun f => f.1 ≠ w.st.storm.state.class) then w.closeInterval c false else w) :=
      .ite (w.hands_closeInterval c false) (.refl 1 w)
    generalize (if v.first.any (fun f => f.1 ≠ w.st.storm.state.class) then w.closeInterval c false else w) = u at h1 ⊢
    refine h1.trans (.ite ?_ ((Hands.map u rfl rfl rfl).mono (Nat.zero_le 1)))
    exact ((Hands.map u rfl rfl rfl).trans (Work.hands_closeInterval _ c false)).mono (Nat.le_refl 1)

theorem Work.hands_handResults (before : Tab 8 Channel) (c : Fin 8) (w : Work) :
    Hands 6 w (w.handResults before c) := by
  unfold Work.handResults
  dsimp only
  split
  · exact .refl 6 w
  · have h1 := w.hands_handChanges c (nth before c) (nth w.st.channels c)
    generalize w.handChanges c (nth before c) (nth w.st.channels c) = u at h1 ⊢
    obtain ⟨a, ha⟩ := u.st.raisePeaks_frame c (nth before c) (nth w.st.channels c)
    have h2 : Hands 0 u (u.map fun s => s.raisePeaks c (nth before c) (nth w.st.channels c)) :=
      .map u (by rw [ha]) (by rw [ha]) (by rw [ha])
    exact (h1.trans h2).trans (Work.hands_addSecond _ c _)

theorem Work.hands_zeroedChannel (w : Work) (c : Fin 8) : Hands 4 w (w.zeroedChannel c) := by
  unfold Work.zeroedChannel
  dsimp only
  split
  · exact .refl 4 w
  · exact w.hands_setChannel ..
  · exact w.hands_setChannel ..
  · exact w.hands_setChannel ..
  · exact (Hands.map w rfl rfl rfl).mono (Nat.zero_le 4)

/-- A transition hands over the LINK event, and one more where a loaded command is dropped. -/
theorem Work.hands_transition (w : Work) (n : Fin 8) (dest : LinkState) (cause : LinkCause) :
    Hands (1 + (w.st.dropRecords n (nth w.st.links n)).length) w (w.transition n dest cause) := by
  obtain ⟨p, h⟩ := w.transition_frame n dest cause
  refine ⟨⟨_, w.transition_out n dest cause, by simp [Nat.add_comm]⟩, fun q => ?_, by rw [h], by rw [h]⟩
  rw [Work.transition_port]
  exact Notices.within_addLink _ n

theorem Work.hands_retryLink (n : Fin 8) (w : Work) : Hands 1 w (w.retryLink n) := by
  unfold Work.retryLink
  split
  · next h =>
    have ht := w.hands_transition n .seeking .retry
    rwa [State.dropRecords_of_not_locked _ _ (by rw [h]; decide)] at ht
  · exact .refl 1 w

theorem Work.hands_decideStorm (w : Work) (pulled : Bool) : Hands 1 w (w.decideStorm pulled) := by
  unfold Work.decideStorm
  dsimp only
  refine .ite ((Hands.map w rfl rfl rfl).mono (Nat.zero_le 1)) ?_
  exact ⟨⟨_, Work.event_out .., Nat.le_refl 1⟩, State.told_of_all (f := Notices.addStorm) rfl Notices.within_addStorm,
    rfl, rfl⟩

theorem Work.hands_endTestOn (c : Fin 8) (w : Work) : Hands 5 w (w.endTestOn c) := by
  unfold Work.endTestOn
  split
  · exact .refl 5 w
  · exact ((w.hands_setChannel ..).trans (Hands.map _ rfl rfl rfl)).trans (Work.hands_closeInterval _ c false)

theorem Work.hands_endTest (w : Work) (cause : TestCause) (source : EventSource) : Hands 41 w (w.endTest cause source) := by
  unfold Work.endTest
  split
  · exact .refl 41 w
  · have h := Hands.forEach Work.hands_endTestOn w
    dsimp only
    generalize w.forEach Work.endTestOn = u at h ⊢
    exact (h.trans (Hands.event u .test source _)).trans
      (Hands.tell _ (g := (·.addTest true)) (fun a => a.within_addTest true) rfl rfl rfl)

theorem Work.hands_countTest (w : Work) : Hands 41 w w.countTest := by
  unfold Work.countTest
  dsimp only
  refine .ite (.refl 41 w) (.ite ?_ ((Hands.map w rfl rfl rfl).mono (Nat.zero_le 41)))
  exact ((Hands.map w rfl rfl rfl).trans (Work.hands_endTest _ ..)).mono (Nat.le_refl 41)

/-- A test that goes on hands nothing over at its count. -/
theorem Work.hands_countTest_of_goesOn {w : Work} (h : w.st.testGoesOn) : Hands 0 w w.countTest := by
  unfold Work.countTest
  dsimp only
  split
  · exact .refl 0 w
  · next hplan =>
    rw [if_neg]
    · exact .map w rfl rfl rfl
    · rcases h with h | h
      · exact absurd (by rw [h]; rfl) hplan
      · omega

theorem Work.hands_countWindows (w : Work) : Hands 1 w w.countWindows := by
  have hexpire : ∀ cause, Hands 1 w ((w.endProposal cause .station).map fun s => s.notifyAll (·.addSettings 2)) :=
    fun _ => ⟨⟨_, Work.event_out .., Nat.le_refl 1⟩,
      State.told_of_all (f := (·.addSettings 2)) rfl fun a => a.within_addSettings 2, rfl, rfl⟩
  unfold Work.countWindows
  split
  · exact .ite (hexpire _) ((Hands.map w rfl rfl rfl).mono (Nat.zero_le 1))
  · exact .ite (hexpire _) ((Hands.map w rfl rfl rfl).mono (Nat.zero_le 1))
  · exact .refl 1 w
  · exact .refl 1 w

/-! ### The second tick -/

/-- From the retries to the retransmit codes, a second tick hands over at most 49 records: the storm's, and six for each
channel. -/
theorem hands_tickHanded_of_retried (pulled : Bool) (s : State) :
    Hands 49 ((Work.start s.commitStages).forEach Work.retryLink) (tickHanded pulled s) := by
  have hinputs : Hands 0 ((Work.start s.commitStages).forEach Work.retryLink) (tickInputs s) := by
    unfold tickInputs
    generalize (Work.start s.commitStages).forEach Work.retryLink = u
    have hform : Hands 0 u (u.map State.formSeconds) := .map u rfl rfl rfl
    generalize u.map State.formSeconds = x at hform ⊢
    refine hform.trans (k := 0) (.map x ?_ ?_ ?_) <;> rw [State.supplyTest_eq]
  have hjudged : Hands 0 (tickInputs s) (tickJudged s) := by
    unfold tickJudged
    generalize tickInputs s = u
    exact .map u rfl rfl rfl
  have hdecided : Hands 1 (tickJudged s) (tickDecided pulled s) := Work.hands_decideStorm _ pulled
  have hmoved : Hands 0 (tickDecided pulled s) (tickMoved pulled s) := by
    unfold tickMoved
    generalize tickDecided pulled s = u
    exact .map u rfl rfl rfl
  have hhanded : Hands 48 (tickMoved pulled s) (tickHanded pulled s) := by
    have hall := Hands.forEach (Work.hands_handResults (tickInputs s).st.channels) (tickMoved pulled s)
    unfold tickHanded
    generalize (tickMoved pulled s).forEach (Work.handResults (tickInputs s).st.channels) = u at hall ⊢
    exact (hall.trans (Hands.map u rfl rfl rfl)).trans (Hands.map _ rfl rfl rfl)
  exact (((hinputs.trans hjudged).trans hdecided).trans hmoved).trans hhanded

/-- Up to the retransmit codes, a second tick hands over at most 57 records: one more for each link. -/
theorem hands_tickHanded (pulled : Bool) (s : State) : Hands 57 (Work.start s.commitStages) (tickHanded pulled s) :=
  (Hands.forEach Work.hands_retryLink _).trans (hands_tickHanded_of_retried pulled s)

theorem hands_tickCounted (pulled : Bool) (s : State) : Hands 99 (Work.start s.commitStages) (tickCounted pulled s) :=
  ((hands_tickHanded pulled s).trans (Work.hands_countTest _)).trans (Work.hands_countWindows _)

/-! ### The store and the ports at the end of a step -/

/-- The notices told stand, and what is queued stays queued, in its order. -/
structure State.Grows (s t : State) : Prop where
  told : s.told t
  queue : s.store.queue <+: t.store.queue

theorem State.Grows.trans {s t u : State} (h : s.Grows t) (k : t.Grows u) : s.Grows u :=
  ⟨State.told_trans h.told k.told, h.queue.trans k.queue⟩

theorem Store.join_prefix (st : Store) (q : QueuedRecord) : st.queue <+: (st.join q).queue := by
  rcases st.join_cases q with ⟨_, e⟩ | ⟨_, _, _, e⟩ | ⟨_, _, e⟩ <;> rw [e]
  · exact List.prefix_append ..
  · exact List.prefix_append ..

/-- Records that join stand behind those that are queued (R131). -/
theorem Work.join_grows (w : Work) : w.st.Grows w.join := by
  obtain ⟨l, -, h⟩ := w.join_store
  refine ⟨State.told_of_ports rfl, ?_⟩
  rw [h]
  exact Store.foldl_join (fun x => w.st.store.queue <+: x.queue) (fun x q hx => hx.trans (x.join_prefix q)) l _
    (List.prefix_refl _)

theorem State.closeCommit_grows (s : State) : s.Grows s.closeCommit := by
  unfold State.closeCommit
  split
  · next owner confirmer items _ =>
    refine State.Grows.trans ?_ (Work.join_grows _)
    exact ⟨State.told_of_all (f := (·.addSettings 3)) rfl fun a => a.within_addSettings 3, List.prefix_refl _⟩
  all_goals exact ⟨State.told_of_ports rfl, List.prefix_refl _⟩

/-- Once the records of a second have joined, the close of a commit is all that follows. -/
theorem tickCounted_grows (pulled : Bool) (s : State) : (tickCounted pulled s).join.Grows (secondTick pulled s) := by
  unfold secondTick
  generalize (tickCounted pulled s).join = j
  exact j.closeCommit_grows.trans ⟨State.told_of_ports rfl, List.prefix_refl _⟩

/-- Whatever the stages of a commit have queued and told stands after the second tick. -/
theorem secondTick_grows (pulled : Bool) (s : State) : s.commitStages.Grows (secondTick pulled s) := by
  have hcount := hands_tickCounted pulled s
  have hgrows : s.commitStages.Grows (tickCounted pulled s).st :=
    ⟨hcount.told, by rw [hcount.store]; exact List.prefix_refl _⟩
  exact (hgrows.trans (Work.join_grows _)).trans (tickCounted_grows pulled s)

end Sys2Proof.Machine
end

section
/-! ## Commits of one item, and the LINK item (R8, R9, R190) -/

namespace Sys2Proof.Machine

open Work (Hands)

/-! ### Turns of which one alone does something -/

/-- Turns of which one alone does something are that turn. -/
theorem Work.forEach_only {n : Nat} (P : Work → Prop) (f : Fin n → Work → Work) (k : Fin n) (w : Work) (h0 : P w)
    (hk : P (f k w)) (hother : ∀ i x, i ≠ k → P x → f i x = x) : w.forEach f = f k w := by
  obtain ⟨as, bs, hl, hk'⟩ := List.eq_append_cons_of_mem (List.mem_finRange k)
  have hbs : k ∉ bs := by
    have hnd := List.nodup_finRange n
    rw [hl, List.nodup_append] at hnd
    exact (List.nodup_cons.mp hnd.2.1).1
  have hidle : ∀ (l : List (Fin n)) x, k ∉ l → P x → l.foldl (fun w i => f i w) x = x := by
    intro l
    induction l with
    | nil => exact fun x _ _ => rfl
    | cons a l ih =>
      intro x ha hx
      rw [List.mem_cons, not_or] at ha
      rw [List.foldl_cons, hother a x (Ne.symm ha.1) hx, ih x ha.2 hx]
  unfold Work.forEach
  rw [hl, List.foldl_append, hidle as w hk' h0, List.foldl_cons, hidle bs _ hbs hk]

/-- Turns each of which reads and writes a place of its own: what stands in a place after all of them is what its own turn
made of it, and what that turn handed over and told, the later ones keep. -/
theorem Work.foldl_turn {ι β : Type} {k : Nat} {f : Work → ι → Work} (P : Work → Prop) (read : Work → ι → β)
    (hands : ∀ w i, Hands k w (f w i)) (hP : ∀ w i, P w → P (f w i))
    (hother : ∀ w i j, P w → j ≠ i → read (f w i) j = read w j) {l : List ι} (hl : l.Nodup) {i : ι} (hi : i ∈ l)
    {w : Work} (h0 : P w) :
    ∃ m x, P x ∧ read x i = read w i ∧ read (l.foldl f w) i = read (f x i) i ∧ Hands m (f x i) (l.foldl f w) := by
  have hkeep : ∀ (l : List ι) w, i ∉ l → P w → P (l.foldl f w) ∧ read (l.foldl f w) i = read w i := by
    intro l
    induction l with
    | nil => exact fun w _ hw => ⟨hw, rfl⟩
    | cons a l ih =>
      intro w ha hw
      rw [List.mem_cons, not_or] at ha
      obtain ⟨h1, h2⟩ := ih (f w a) ha.2 (hP w a hw)
      exact ⟨h1, h2.trans (hother w a i hw ha.1)⟩
  obtain ⟨as, bs, rfl, ha⟩ := List.eq_append_cons_of_mem hi
  have hb : i ∉ bs := by
    rw [List.nodup_append] at hl
    exact (List.nodup_cons.mp hl.2.1).1
  obtain ⟨hx, hr⟩ := hkeep as w ha h0
  refine ⟨bs.length * k, as.foldl f w, hx, hr, ?_, ?_⟩
  · rw [List.foldl_append, List.foldl_cons]
    exact (hkeep bs _ hb (hP _ i hx)).2
  · rw [List.foldl_append, List.foldl_cons]
    exact Hands.foldl hands bs _

/-! ### Records that join where there is room for all -/

theorem Work.Hands.length_le {k : Nat} {s : State} {w : Work} (h : Hands k (Work.start s) w) : w.out.length ≤ k := by
  obtain ⟨l, hl, hk⟩ := h.out
  rw [hl]
  simpa [Work.start] using hk

theorem Work.Hands.mem {k : Nat} {w x : Work} (h : Hands k w x) {r : Handed} (hr : r ∈ w.out) : r ∈ x.out := by
  obtain ⟨l, hl, -⟩ := h.out
  rw [hl]
  exact List.mem_append_left l hr

/-- With no loss counted and room for every record handed over, each of them joins the queue. -/
theorem Work.mem_join {w : Work} {x : Sender} {q : QueuedRecord} (hq : ⟨x, q⟩ ∈ w.out) (hl : w.st.store.loss = 0)
    (hroom : w.st.store.queue.length + w.out.length ≤ 64) : q.carrying 0 ∈ w.join.store.queue := by
  obtain ⟨l, hperm, hjoin⟩ := w.join_store
  have hlen : l.length = w.out.length := by rw [hperm.length_eq, List.length_map]
  have hmem : q ∈ l := hperm.mem_iff.mpr (List.mem_map.mpr ⟨_, hq, rfl⟩)
  rw [hjoin, Store.foldl_join_room l (by omega) hl]
  exact List.mem_append_right _ (List.mem_map.mpr ⟨q, hmem, rfl⟩)

/-! ### The proposal buffer at a second tick -/

theorem tickHanded_proposal (pulled : Bool) (s : State) : (tickHanded pulled s).st.proposal = s.proposal := by
  obtain ⟨_, _, _, _, _, _, hh⟩ := tickHanded_frame pulled s
  obtain ⟨_, _, hd⟩ := tickDecided_frame pulled s
  obtain ⟨_, _, hi, -⟩ := tickInputs_spec s
  rw [hh, hd, tickJudged, Work.map_st, State.judgeChannels_proposal, hi]
  exact s.commitStages_timing.2.1

/-- A tick leaves the buffer EMPTY where it was, and after a commit (R190). -/
theorem secondTick_proposal (pulled : Bool) {s : State}
    (h : s.proposal = .empty ∨ ∃ owner confirmer items, s.proposal = .committing owner confirmer items) :
    (secondTick pulled s).proposal = .empty := by
  have hcount : (tickCounted pulled s).join.proposal = s.proposal := by
    obtain ⟨_, _, _, _, _, _, ht⟩ := (tickHanded pulled s).countTest_frame
    have hp : (tickHanded pulled s).countTest.st.proposal = s.proposal := by rw [ht, tickHanded_proposal]
    rw [Work.join_proposal, tickCounted]
    generalize (tickHanded pulled s).countTest = w at hp ⊢
    unfold Work.countWindows
    rw [← hp] at h ⊢
    rcases h with h | ⟨_, _, _, h⟩ <;> rw [h] <;> dsimp only <;> rw [h]
  unfold secondTick
  generalize (tickCounted pulled s).join = j at hcount ⊢
  change j.closeCommit.proposal = .empty
  unfold State.closeCommit
  rw [← hcount] at h
  rcases h with h | ⟨_, _, _, h⟩ <;> rw [h] <;> dsimp only
  · exact h
  · rfl

/-- A commit tick agrees with the tick from a state like the one that the items leave. -/
theorem State.commit_leaves {s u : State} {owner : PortId} {confirmer : Option PortId} {items : List Item}
    (pulled : Bool) (hp : s.proposal = .committing owner confirmer items) (h : (s.applyItems items).like u) :
    exec (.commit pulled) s = .next (secondTick pulled s) ∧
      ∃ w, exec (.secondTick pulled) u.emptied = .next w ∧ (secondTick pulled s).agrees w := by
  have hcommits : commits s = true := by
    unfold commits
    rw [hp]
  refine ⟨?_, _, rfl, ?_⟩
  · change Host.Outcome.next (if commits s = true then secondTick pulled s else s) = _
    rw [hcommits, if_pos rfl]
  · rw [← State.commitStages_of_committing hp] at h
    exact secondTick_agrees pulled h (secondTick_proposal pulled (.inr ⟨_, _, _, hp⟩))
      (secondTick_proposal pulled (.inl rfl))

/-! ### What an item does not reach -/

/-- A channel whose record stands, of which no item closes the interval, and whose limit does not fall. -/
theorem Work.commitChannel_of_quiet {old : Settings} {items : List Item} {c : Fin 8} {w : Work}
    (hmap : nth old.map c = nth w.st.settings.map c) (hclose : items.any (Item.closes c) = false)
    (hlimit : ¬ (nth w.st.settings.exposure c).limit < (nth old.exposure c).limit) : w.commitChannel old items c = w := by
  unfold Work.commitChannel
  simp [hmap, hclose, hlimit]

/-- Items that reach no channel are put in force, and nothing more. -/
theorem State.commitChannels_of_quiet {s : State} {items : List Item}
    (hmap : (s.settings.applyAll items).map = s.settings.map) (hclose : ∀ c, items.any (Item.closes c) = false)
    (hlimit : (s.settings.applyAll items).exposure = s.settings.exposure) :
    s.commitChannels items = { s with settings := s.settings.applyAll items } := by
  have hall : (Work.start { s with settings := s.settings.applyAll items }).forEach (Work.commitChannel s.settings items) =
      Work.start { s with settings := s.settings.applyAll items } :=
    Work.forEach_induct (fun w => w = Work.start { s with settings := s.settings.applyAll items })
      (Work.commitChannel s.settings items) _ rfl fun c w hw => by
        subst hw
        refine Work.commitChannel_of_quiet ?_ (hclose c) ?_
        · exact congrArg (nth · c) hmap.symm
        · change ¬ (nth (s.settings.applyAll items).exposure c).limit < _
          rw [hlimit]
          exact Nat.lt_irrefl _
  unfold State.commitChannels
  rw [hall]
  exact Work.join_of_nil _ rfl

/-- With no LINK item, no link is restarted. -/
theorem State.commitBlocks_of_noLink (s : State) (old : Settings) {items : List Item} (h : ∀ n, linkItem items n = none) :
    s.commitBlocks old items = (((s.commitDivider old).commitStation items).commitLines items).commitOutputs items := by
  have hall : (Work.start s).forEach (Work.commitLink old items) = Work.start s :=
    Work.forEach_induct (fun w => w = Work.start s) (Work.commitLink old items) _ rfl fun n w hw => by
      rw [Work.commitLink, h n]
      exact hw
  unfold State.commitBlocks
  rw [hall, Work.join_of_nil _ rfl]
  rfl

theorem State.commitDivider_of_same {s : State} {old : Settings} (h : old.divider = s.settings.divider) :
    s.commitDivider old = s := if_pos h

theorem State.commitStation_of_other (s : State) {i : Item} (h : ∀ v, i ≠ .station v) : s.commitStation [i] = s := by
  unfold State.commitStation
  cases i with
  | station v => exact absurd rfl (h v)
  | _ => simp

theorem State.commitLines_of_other (s : State) {i : Item} (h : ∀ l v, i ≠ .output l v) : s.commitLines [i] = s := by
  unfold State.commitLines
  cases i with
  | output l v => exact absurd rfl (h l v)
  | _ => simp

theorem State.commitOutputs_of_other (s : State) {i : Item} (h : ∀ o v, i ≠ .retransmit o v) : s.commitOutputs [i] = s := by
  unfold State.commitOutputs
  cases i with
  | retransmit o v => exact absurd rfl (h o v)
  | _ => simp

/-- One item that reaches neither the store nor the test: its channels, then the other blocks. -/
theorem State.applyItems_one (s : State) {i : Item} (hp : ∀ sizes, i ≠ .partition sizes) (hc : i ≠ .clear)
    (ht : ∀ v, i ≠ .test v) : s.applyItems [i] = (s.commitChannels [i]).commitBlocks s.settings [i] := by
  unfold State.applyItems State.commitTest State.commitStore
  generalize (s.commitChannels [i]).commitBlocks s.settings [i] = u
  cases i with
  | partition sizes => exact absurd rfl (hp sizes)
  | clear => exact absurd rfl hc
  | test v => exact absurd rfl (ht v)
  | _ => simp [testItem]

/-! ### The LINK item (R9) -/

theorem linkItem_self (n : Fin 8) (v : LinkItem) : linkItem [.link n v] n = some v := by
  simp [linkItem]

theorem linkItem_other {n m : Fin 8} (v : LinkItem) (h : m ≠ n) : linkItem [.link n v] m = none := by
  simp [linkItem, Ne.symm h]

/-- The step of the commit that restarts the link. -/
def State.linkWork (s : State) (n : Fin 8) (v : LinkItem) : Work :=
  (Work.start { s with settings := { s.settings with link := put s.settings.link n v } }).restartLink n
    (nth s.settings.link n) v

/-- The commit of one LINK item is the restart of its link. -/
theorem State.applyItems_link (s : State) (n : Fin 8) (v : LinkItem) :
    s.applyItems [.link n v] = (s.linkWork n v).join := by
  have hall : ∀ w : Work, w.forEach (Work.commitLink s.settings [.link n v]) =
      w.restartLink n (nth s.settings.link n) v := by
    intro w
    have hself : ∀ w : Work, w.commitLink s.settings [.link n v] n = w.restartLink n (nth s.settings.link n) v := by
      intro w
      rw [Work.commitLink, linkItem_self]
    rw [← hself]
    refine Work.forEach_only (fun _ => True) _ n w trivial trivial fun i x hi _ => ?_
    rw [Work.commitLink, linkItem_other v hi]
  have hchannels : s.commitChannels [.link n v] =
      { s with settings := { s.settings with link := put s.settings.link n v } } :=
    State.commitChannels_of_quiet rfl (fun _ => rfl) rfl
  rw [State.applyItems_one s (by simp) (by simp) (by simp), hchannels, State.commitBlocks, hall]
  change ((((s.linkWork n v).join.commitDivider s.settings).commitStation _).commitLines _).commitOutputs _ = _
  obtain ⟨_, hf⟩ := (Work.start { s with settings := { s.settings with link := put s.settings.link n v } }).restartLink_frame
    n (nth s.settings.link n) v
  have hdiv : (s.linkWork n v).join.settings.divider = s.settings.divider := by
    rw [Work.join_settings, State.linkWork, hf]
    rfl
  rw [State.commitDivider_of_same hdiv.symm, State.commitStation_of_other _ (by simp), State.commitLines_of_other _ (by simp),
    State.commitOutputs_of_other _ (by simp)]

/-- What the restart leaves of the state. -/
theorem State.linkWork_frame (s : State) (n : Fin 8) (v : LinkItem) :
    ∃ p, (s.linkWork n v).st = { s with
      settings := { s.settings with link := put s.settings.link n v }
      links := put s.links n ((nth s.links n).restart (nth s.settings.link n) v), ports := p } :=
  Work.restartLink_frame _ n (nth s.settings.link n) v

/-- A restart that moves the link hands over the records of the move and tells the ports. -/
theorem State.linkWork_of_move {s : State} {n : Fin 8} {v : LinkItem} {dest : LinkState} {cause : LinkCause}
    (h : (nth s.links n).restartMove (nth s.settings.link n) v = some (dest, cause)) :
    (s.linkWork n v).out = (s.followingRecord (.input n) (.link n (nth s.links n).state dest cause) ::
        s.dropRecords n (nth s.links n)).map (fun q => ⟨.link n, q⟩) ∧
      ∀ p, (s.linkWork n v).st.port p = { s.port p with notices := (s.port p).notices.addLink n } := by
  have hmove : ∀ w : Work, w.transitionIf n (some (dest, cause)) = w.transition n dest cause := fun _ => rfl
  rw [State.linkWork, Work.restartLink_eq]
  change ((Work.transitionIf _ n ((nth s.links n).restartMove _ v)).map _).out = _ ∧ ∀ p,
    ((Work.transitionIf _ n ((nth s.links n).restartMove _ v)).map _).st.port p = _
  rw [h, hmove]
  exact ⟨Work.transition_out _ n dest cause, fun p => Work.transition_port _ n dest cause p⟩

/-- The records of a move, where the queue has room for both, and the LINK notice stand after the tick. -/
theorem State.linkCommit_records {s : State} {pulled : Bool} {owner : PortId} {confirmer : Option PortId} {n : Fin 8}
    {v : LinkItem} {dest : LinkState} {cause : LinkCause} (hp : s.proposal = .committing owner confirmer [.link n v])
    (h : (nth s.links n).restartMove (nth s.settings.link n) v = some (dest, cause)) :
    (∀ p, ((secondTick pulled s).port p).notices.flags.getLsbD 4 = true ∧
        ((secondTick pulled s).port p).notices.link.getLsbD n.val = true) ∧
      (s.store.queue.length ≤ 62 →
        ∀ q ∈ s.eventRecord (.input n) (.link n (nth s.links n).state dest cause) :: s.dropRecords n (nth s.links n),
          q ∈ (secondTick pulled s).store.queue) := by
  obtain ⟨hout, hports⟩ := State.linkWork_of_move h
  obtain ⟨_, hf⟩ := s.linkWork_frame n v
  have hgrows : (s.linkWork n v).join.Grows (secondTick pulled s) := by
    rw [← State.applyItems_link, ← State.commitStages_of_committing hp]
    exact secondTick_grows pulled s
  refine ⟨fun p => ?_, fun hroom q hq => ?_⟩
  · have hport : (s.linkWork n v).join.port p = { s.port p with notices := (s.port p).notices.addLink n } := hports p
    obtain ⟨hflags, -, hlink⟩ := hgrows.told p
    rw [hport] at hflags hlink
    obtain ⟨hb, hn⟩ := (s.port p).notices.addLink_bits n
    exact ⟨hflags _ hb, hlink _ hn⟩
  · have hdrop := s.dropRecords_length n (nth s.links n)
    have hqueue : (s.linkWork n v).join.store.queue = s.store.queue ++ _ :: s.dropRecords n (nth s.links n) :=
      Work.join_queue_of_transition (by rw [hf]) rfl hout (by omega)
    refine hgrows.queue.subset ?_
    rw [hqueue]
    exact List.mem_append_right _ hq

/-- The rule's table of R9, written out. -/
theorem Link.restart_table (l : Link) (old new : LinkItem) :
    (l.restart old new, l.restartMove old new) =
      (let moved := old.address ≠ new.address
       let parted := if l.state = .locked then
          { l with word := none, counterRef := none, command := none, sending := false } else l
       let forgot := fun (l : Link) => { l with zeroPending := false, word := none, counterRef := none }
       let off : Link := forgot
        { parted with state := .off, badRun := 0, badSeen := false, cycleGood := 0, inFlight := none, lck := false
                      lsyncMark := false, lsyncBit := false }
       let seeking : Link :=
        { parted with state := .seeking, badRun := 0, badSeen := false, goodCycles := 0, cycleGood := 0
                      inFlight := l.inFlight.map fun f => { f with current := false } }
       if new.enabled = false then if l.state = .off then (l, none) else (off, some (.off, .disabled))
       else if l.state = .off then (if moved then forgot seeking else seeking, some (.seeking, .enabled))
       else if moved then
        if l.state = .seeking then ({ forgot l with goodCycles := 0 }, none)
        else (forgot seeking, some (.seeking, .address))
       else (l, none)) := by
  unfold Link.restart Link.restartMove
  by_cases he : new.enabled = false
  · by_cases ho : l.state = .off
    · simp [he, ho]
    · by_cases hl : l.state = .locked <;> simp [he, ho, hl, Link.pass, Link.enter, Link.leaveLocked, Link.forgetHead]
  · rw [Bool.not_eq_false] at he
    by_cases ho : l.state = .off
    · by_cases hm : old.address = new.address <;>
        simp [he, ho, hm, Link.pass, Link.enter, Link.forgetHead] <;> rfl
    · by_cases hm : old.address = new.address
      · simp [he, ho, hm]
      · by_cases hs : l.state = .seeking
        · simp [he, hs, hm, Link.forgetHead]
        · by_cases hl : l.state = .locked <;>
            simp [he, ho, hs, hm, hl, Link.pass, Link.enter, Link.leaveLocked, Link.forgetHead] <;>
            rfl

/-! ### The retry (R8) -/

/-- A test that goes on still does so when the windows are counted. -/
theorem tickHanded_testGoesOn {s : State} (pulled : Bool) (hu : s.uncommitted) (h : s.testGoesOn) :
    (tickHanded pulled s).st.testGoesOn := by
  obtain ⟨_, _, _, _, _, _, hh⟩ := tickHanded_frame pulled s
  obtain ⟨_, _, hd⟩ := tickDecided_frame pulled s
  obtain ⟨_, _, hi, -⟩ := tickInputs_spec s
  obtain ⟨hplan, hrem⟩ := s.test.afterSupply_frame
  have ht : (tickHanded pulled s).st.test = s.test.afterSupply := by
    rw [hh, hd, tickJudged, Work.map_st, State.judgeChannels_test, hi, State.commitStages_of_uncommitted hu]
  unfold State.testGoesOn
  rw [ht, hplan, hrem]
  exact h

/-- A tick at which nothing commits and no test ends hands over at most 58 records. -/
theorem hands_tickCounted_of_goesOn {s : State} (pulled : Bool) (hu : s.uncommitted) (h : s.testGoesOn) :
    Hands 58 (Work.start s) (tickCounted pulled s) := by
  have hh := hands_tickHanded pulled s
  rw [State.commitStages_of_uncommitted hu] at hh
  exact (hh.trans (Work.hands_countTest_of_goesOn (tickHanded_testGoesOn pulled hu h))).trans (Work.hands_countWindows _)

/-- The turn of a LOST link among the retries: the tick that follows keeps what it hands over and tells. -/
theorem retryLink_turn (pulled : Bool) {s : State} {n : Fin 8} (hu : s.uncommitted)
    (hlost : (nth s.links n).state = .lost) :
    ∃ (k : Nat) (x : Work), x.st.timebase = s.timebase ∧ (nth x.st.links n).state = .lost ∧
      Hands k (x.transition n .seeking .retry) (tickCounted pulled s) := by
  obtain ⟨_, x, htime, hread, -, hafter⟩ := Work.foldl_turn (f := fun w n => w.retryLink n)
    (fun w => w.st.timebase = s.timebase) (fun w n => (nth w.st.links n).state) (fun w n => w.hands_retryLink n)
    (fun w n hw => (w.hands_retryLink n).timebase.trans hw)
    (fun w n m _ hm => by rw [Work.retryLink_links, nth_put_ne _ _ (Ne.symm hm)])
    (List.nodup_finRange 8) (List.mem_finRange n) (w := Work.start s) rfl
  have hx : (nth x.st.links n).state = .lost := hread.trans hlost
  have hturn : x.retryLink n = x.transition n .seeking .retry := if_pos hx
  have hrest := hands_tickHanded_of_retried pulled s
  rw [State.commitStages_of_uncommitted hu] at hrest
  rw [hturn] at hafter
  exact ⟨_, x, htime, hx,
    ((hafter.trans hrest).trans (Work.hands_countTest _)).trans (Work.hands_countWindows _)⟩

/-- A retry tells every port, and its event joins where there is room for all that the tick hands over. -/
theorem retry_records (pulled : Bool) {s : State} {n : Fin 8} (hu : s.uncommitted)
    (hlost : (nth s.links n).state = .lost) :
    (∀ p, ((secondTick pulled s).port p).notices.flags.getLsbD 4 = true ∧
        ((secondTick pulled s).port p).notices.link.getLsbD n.val = true) ∧
      (s.testGoesOn → s.store.queue = [] → s.store.loss = 0 →
        s.eventRecord (.input n) (.link n .lost .seeking .retry) ∈ (secondTick pulled s).store.queue) := by
  obtain ⟨k, x, htime, hx, hafter⟩ := retryLink_turn pulled hu hlost
  have hgrows := tickCounted_grows pulled s
  refine ⟨fun p => ?_, fun htest hqueue hloss => hgrows.queue.subset ?_⟩
  · have htold := State.told_trans hafter.told (State.told_trans (Work.join_grows _).told hgrows.told)
    obtain ⟨hflags, -, hlink⟩ := htold p
    rw [Work.transition_port] at hflags hlink
    obtain ⟨hb, hn⟩ := (x.st.port p).notices.addLink_bits n
    exact ⟨hflags _ hb, hlink _ hn⟩
  · have hcount := hands_tickCounted_of_goesOn pulled hu htest
    have hstore : (tickCounted pulled s).st.store = s.store := hcount.store
    have hmem : (⟨.link n, x.st.followingRecord (.input n) (.link n .lost .seeking .retry)⟩ : Handed) ∈
        (tickCounted pulled s).out := by
      refine hafter.mem ?_
      rw [Work.transition_out, hx]
      simp
    have hroom : (tickCounted pulled s).st.store.queue.length + (tickCounted pulled s).out.length ≤ 64 := by
      have := hcount.length_le
      rw [hstore, hqueue, List.length_nil]
      omega
    have hjoin := Work.mem_join hmem (by rw [hstore, hloss]) hroom
    rwa [State.followingRecord_carrying, htime, ← hloss] at hjoin

/-- Settles O24: the commit of the item is the restart of its link alone, and the retry is one turn of the tick. -/
theorem linkCommit : Obligations.LinkCommit := by
  refine ⟨fun s pulled owner confirmer n v hp => ?_, fun s pulled n hu hlost => ?_⟩
  · have htable := Link.restart_table (nth s.links n) (nth s.settings.link n) v
    dsimp only at htable ⊢
    rw [← htable]
    obtain ⟨_, hf⟩ := s.linkWork_frame n v
    have hlike : (s.applyItems [.link n v]).like { s with
        settings := { s.settings with link := put s.settings.link n v }
        links := put s.links n ((nth s.links n).restart (nth s.settings.link n) v) } := by
      rw [State.applyItems_link]
      refine State.like_trans (State.like_symm (Work.like_join _)) ?_
      rw [hf]
      exact ⟨_, _, _, _, _, rfl⟩
    obtain ⟨ht, w, hw, hagrees⟩ := State.commit_leaves pulled hp hlike
    refine ⟨_, w, ht, hw, hagrees, fun dest cause hmove => ?_⟩
    obtain ⟨htold, hqueue⟩ := State.linkCommit_records (pulled := pulled) hp hmove
    refine ⟨htold, fun hroom => ⟨hqueue hroom _ (List.mem_cons_self ..), fun command hl hc => ?_⟩⟩
    refine hqueue hroom _ (List.mem_cons_of_mem _ ?_)
    rw [State.dropRecords_of_locked _ _ hl, hc]
    exact List.mem_singleton_self _
  · have hretries : retries n s = true := by
      rw [retries, State.commitStages_of_uncommitted hu, hlost]
      rfl
    obtain ⟨hlink, -⟩ := secondTick_spec pulled s
    obtain ⟨htold, hqueue⟩ := retry_records pulled hu hlost
    have hn : nth (secondTick pulled s).links n = ((nth s.links n).pass .seeking).freshMark := by
      rw [hlink, State.commitStages_of_uncommitted hu, Link.retried, if_pos hlost]
    have hpass : (nth s.links n).pass .seeking = (nth s.links n).enter .seeking := by
      rw [Link.pass, if_neg (by rw [hlost]; decide)]
    rw [hpass] at hn
    refine ⟨secondTick pulled s, ?_, rfl, ?_, ?_, ?_, ?_, htold, hqueue⟩
    · change Host.Outcome.next (if retries n s = true then secondTick pulled s else s) = _
      rw [hretries, if_pos rfl]
    all_goals rw [hn]; rfl

end Sys2Proof.Machine
end

section
/-! ## Commits of one settings item (R10, R20, R22, R35, R48, R67, R84, R94, R114, R126, R128, R164) -/

namespace Sys2Proof.Machine

/-! ### The close of an interval -/

/-- What the close of an interval leaves of the state. -/
theorem Work.closeInterval_st (w : Work) (c : Fin 8) (t : Bool) :
    (w.closeInterval c t).st = { w.st with
      intervals := put w.st.intervals c ((nth w.st.intervals c).map fun _ => Interval.opened) } := by
  rcases w.closeInterval_cases c t with ⟨hn, h⟩ | ⟨v, hv, h, -⟩
  · rw [h, hn, Option.map_none, ← hn, put_nth]
  · rw [h, hv, Option.map_some]

/-- An interval that holds a second, for a ring with slots, hands over its record. -/
theorem Work.closeInterval_out {w : Work} {c : Fin 8} {v : Interval} (t : Bool) (hv : nth w.st.intervals c = some v)
    (hlength : v.length ≠ 0) (hring : w.st.settings.ringSize c.castSucc ≠ 0) :
    (w.closeInterval c t).out = w.out ++ [⟨.interval c, { ring := c.castSucc, record := .interval (v.toRecord c t) }⟩] := by
  unfold Work.closeInterval
  rw [hv]
  dsimp only
  rw [if_neg (not_or.mpr ⟨hlength, hring⟩)]
  rfl

/-- The interval record of R127, written out, is the one that is made. -/
theorem Interval.record_eq (v : Interval) (c : Fin 8) (t : Bool) : v.record c t = v.toRecord c t := by
  unfold Interval.record Interval.toRecord Interval.recordFlags
  simp

theorem Store.join_interval {st : Store} (h : st.queue.length < 64) {q : QueuedRecord} {v : IntervalRecord}
    (hq : q.record = .interval v) : st.join q = { st with queue := st.queue ++ [q] } := by
  have hfull : ¬ queueSize ≤ st.queue.length := by simpa [queueSize] using h
  rw [Store.join, if_neg hfull]
  simp only [hq]

/-! ### Items that reach no channel -/

theorem min_eq_cut (x top : Nat) : min x top = if top < x then top else x := by
  split <;> omega

/-- The state with one item put in force. -/
def State.inForce (s : State) (i : Item) : State := { s with settings := s.settings.apply i }

/-- One item that reaches no channel and no link is put in force, and then the other blocks respond to it. -/
theorem State.applyItems_of_quiet (s : State) {i : Item} (hp : ∀ sizes, i ≠ .partition sizes) (hc : i ≠ .clear)
    (ht : ∀ v, i ≠ .test v) (hl : ∀ n, linkItem [i] n = none) (hclose : ∀ c, [i].any (Item.closes c) = false)
    (hmap : (s.settings.apply i).map = s.settings.map) (hlimit : (s.settings.apply i).exposure = s.settings.exposure) :
    s.applyItems [i] =
      ((((s.inForce i).commitDivider s.settings).commitStation [i]).commitLines [i]).commitOutputs [i] := by
  have hchannels : s.commitChannels [i] = s.inForce i := State.commitChannels_of_quiet hmap hclose hlimit
  rw [State.applyItems_one s hp hc ht, hchannels, State.commitBlocks_of_noLink _ _ hl]

/-- The same for an item that leaves the divider. -/
theorem State.applyItems_of_quiet_divider (s : State) {i : Item} (hp : ∀ sizes, i ≠ .partition sizes)
    (hc : i ≠ .clear) (ht : ∀ v, i ≠ .test v) (hl : ∀ n, linkItem [i] n = none)
    (hclose : ∀ c, [i].any (Item.closes c) = false) (hmap : (s.settings.apply i).map = s.settings.map)
    (hlimit : (s.settings.apply i).exposure = s.settings.exposure)
    (hdivider : (s.settings.apply i).divider = s.settings.divider) :
    s.applyItems [i] = (((s.inForce i).commitStation [i]).commitLines [i]).commitOutputs [i] := by
  rw [State.applyItems_of_quiet s hp hc ht hl hclose hmap hlimit, State.commitDivider_of_same hdivider.symm]

/-- A MAP item that repeats the source record in force. -/
theorem State.applyItems_map_same (s : State) (c : Fin 8) : s.applyItems [.map c (nth s.settings.map c)] = s := by
  have hsettings : s.settings.apply (.map c (nth s.settings.map c)) = s.settings := by
    rw [Settings.apply, put_nth]
  rw [State.applyItems_of_quiet_divider s (by simp) (by simp) (by simp) (fun _ => rfl) (fun _ => rfl)
    (by rw [hsettings]) (by rw [hsettings]) rfl, State.commitStation_of_other _ (by simp),
    State.commitLines_of_other _ (by simp), State.commitOutputs_of_other _ (by simp), State.inForce, hsettings]

/-- A STATION item cuts a running tail to the new hold (R94). -/
theorem State.applyItems_station (s : State) (v : StationItem) :
    s.applyItems [.station v] = { s with
      settings := { s.settings with station := v }
      storm := if s.storm.state = .tail then
          { s.storm with tail := if v.stormHold < s.storm.tail then v.stormHold else s.storm.tail }
        else s.storm } := by
  rw [State.applyItems_of_quiet_divider s (by simp) (by simp) (by simp) (fun _ => rfl) (fun _ => rfl) rfl rfl rfl,
    State.commitLines_of_other _ (by simp), State.commitOutputs_of_other _ (by simp)]
  unfold State.commitStation
  by_cases h : s.storm.state = .tail <;> simp [h, State.inForce, Settings.apply, min_eq_cut]

/-- A TIMEBASE item with the divider in force. -/
theorem State.applyItems_timebase_same {s : State} {d : Nat} (h : min d 3072 = s.settings.divider) :
    s.applyItems [.timebase d] = s := by
  have hsettings : s.settings.apply (.timebase d) = s.settings := by
    rw [Settings.apply, h]
  rw [State.applyItems_of_quiet_divider s (by simp) (by simp) (by simp) (fun _ => rfl) (fun _ => rfl) rfl rfl
    (by rw [hsettings]), State.commitStation_of_other _ (by simp), State.commitLines_of_other _ (by simp),
    State.commitOutputs_of_other _ (by simp), State.inForce, hsettings]

/-- A TIMEBASE item with a new divider (R10, R22). -/
theorem State.applyItems_timebase_new {s : State} {d : Nat} (h : min d 3072 ≠ s.settings.divider) :
    s.applyItems [.timebase d] = { s with
      settings := { s.settings with divider := min d 3072 }
      timebase := { s.timebase with frameCounter := 0 }
      links := tab fun n => (nth s.links n).abandonCycle
      averagers := tab fun n => { nth s.averagers n with cycleSum := 0, cycleValid := 0 } } := by
  rw [State.applyItems_of_quiet s (by simp) (by simp) (by simp) (fun _ => rfl) (fun _ => rfl) rfl rfl,
    State.commitStation_of_other _ (by simp), State.commitLines_of_other _ (by simp),
    State.commitOutputs_of_other _ (by simp)]
  exact if_neg (Ne.symm h)

/-- The line of an OUTPUT item is evaluated under the rule in force, and no other is (R114). -/
theorem State.commitLines_output (s : State) (l : Fin 4) (v : OutputItem) :
    s.commitLines [.output l v] =
      { s with lines := put s.lines l (evaluateLine (nth s.settings.output l) s.alarms) } := by
  refine congrArg (fun x => { s with lines := x }) (tab_ext fun m => ?_)
  by_cases h : l = m
  · subst h
    simp
  · simp [nth_put_ne _ _ h, h]

theorem State.applyItems_output (s : State) (l : Fin 4) (v : OutputItem) :
    s.applyItems [.output l v] = { s with
      settings := { s.settings with output := put s.settings.output l v }
      lines := put s.lines l (evaluateLine v s.alarms) } := by
  rw [State.applyItems_of_quiet_divider s (by simp) (by simp) (by simp) (fun _ => rfl) (fun _ => rfl) rfl rfl rfl,
    State.commitStation_of_other _ (by simp), State.commitLines_output, State.commitOutputs_of_other _ (by simp)]
  simp [State.inForce, Settings.apply]

/-- The output of a RETRANSMIT item takes its mode, and no other does (R164). -/
theorem State.commitOutputs_retransmit (s : State) (o : Fin 2) (v : RetransmitItem) :
    s.commitOutputs [.retransmit o v] =
      { s with outputs := put s.outputs o ((nth s.outputs o).commit (nth s.settings.retransmit o).mode) } := by
  refine congrArg (fun x => { s with outputs := x }) (tab_ext fun m => ?_)
  by_cases h : o = m
  · subst h
    simp
  · simp [nth_put_ne _ _ h, h]

theorem State.applyItems_retransmit (s : State) (o : Fin 2) (v : RetransmitItem) :
    s.applyItems [.retransmit o v] = { s with
      settings := { s.settings with retransmit := put s.settings.retransmit o v }
      outputs := put s.outputs o ((nth s.outputs o).commit v.mode) } := by
  rw [State.applyItems_of_quiet_divider s (by simp) (by simp) (by simp) (fun _ => rfl) (fun _ => rfl) rfl rfl rfl,
    State.commitStation_of_other _ (by simp), State.commitLines_of_other _ (by simp), State.commitOutputs_retransmit]
  simp [State.inForce, Settings.apply]

/-- POLICY and RECORDING items do nothing more than take force. -/
theorem State.applyItems_policy (s : State) (v : PolicyItem) : s.applyItems [.policy v] = s.inForce (.policy v) := by
  rw [State.applyItems_of_quiet_divider s (by simp) (by simp) (by simp) (fun _ => rfl) (fun _ => rfl) rfl rfl rfl,
    State.commitStation_of_other _ (by simp), State.commitLines_of_other _ (by simp),
    State.commitOutputs_of_other _ (by simp)]

theorem State.applyItems_recording (s : State) (v : RecordingItem) :
    s.applyItems [.recording v] = s.inForce (.recording v) := by
  rw [State.applyItems_of_quiet_divider s (by simp) (by simp) (by simp) (fun _ => rfl) (fun _ => rfl) rfl rfl rfl,
    State.commitStation_of_other _ (by simp), State.commitLines_of_other _ (by simp),
    State.commitOutputs_of_other _ (by simp)]

/-! ### Items that close a channel's interval -/

theorem Item.closes_iff (c : Fin 8) (i : Item) :
    i.closes c = true ↔ (∃ x, i = .analysis c x) ∨ (∃ x, i = .levels c x) ∨ ∃ x, i = .exposure c x := by
  cases i <;> simp [Item.closes]

/-- The step of a commit that closes a channel's interval, and clamps its exposure where the limit falls (R84, R126). -/
def State.closeWork (s : State) (i : Item) (c : Fin 8) : Work :=
  if (nth (s.settings.apply i).exposure c).limit < (nth s.settings.exposure c).limit then
    ((Work.start (s.inForce i)).closeInterval c false).map fun s => s.clampExposure c
  else (Work.start (s.inForce i)).closeInterval c false

/-- The commit of one ANALYSIS, LEVELS or EXPOSURE item is that step on its channel. -/
theorem State.applyItems_of_closes (s : State) {i : Item} {c : Fin 8} (h : i.closes c = true) :
    s.applyItems [i] = (s.closeWork i c).join := by
  have hkeeps : (s.settings.apply i).map = s.settings.map ∧ (s.settings.apply i).divider = s.settings.divider ∧
      (∀ d, d ≠ c → nth (s.settings.apply i).exposure d = nth s.settings.exposure d ∧ i.closes d = false) := by
    rcases (Item.closes_iff c i).mp h with ⟨x, rfl⟩ | ⟨x, rfl⟩ | ⟨x, rfl⟩
    · exact ⟨rfl, rfl, fun d hd => ⟨rfl, by simp [Item.closes, Ne.symm hd]⟩⟩
    · exact ⟨rfl, rfl, fun d hd => ⟨rfl, by simp [Item.closes, Ne.symm hd]⟩⟩
    · exact ⟨rfl, rfl, fun d hd => ⟨nth_put_ne _ _ (Ne.symm hd), by simp [Item.closes, Ne.symm hd]⟩⟩
  obtain ⟨hmap, hdivider, hother⟩ := hkeeps
  have hself : (Work.start (s.inForce i)).commitChannel s.settings [i] c = s.closeWork i c := by
    unfold Work.commitChannel State.closeWork
    simp [h, State.inForce, Work.start, hmap]
  have hall : (Work.start (s.inForce i)).forEach (Work.commitChannel s.settings [i]) = s.closeWork i c := by
    rw [← hself]
    refine Work.forEach_only (fun w => w.st.settings = s.settings.apply i) _ c _ rfl ?_ fun d w hd hw => ?_
    · obtain ⟨_, _, _, _, _, _, hf⟩ := (Work.start (s.inForce i)).commitChannel_frame s.settings [i] c
      rw [hf]
      rfl
    · obtain ⟨hlimit, hclose⟩ := hother d hd
      refine Work.commitChannel_of_quiet (by rw [hw, hmap]) (by simp [hclose]) ?_
      rw [hw, hlimit]
      exact Nat.lt_irrefl _
  have hchannels : s.commitChannels [i] = (s.closeWork i c).join := congrArg Work.join hall
  have hsettings : (s.closeWork i c).join.settings.divider = s.settings.divider := by
    rw [← hchannels]
    obtain ⟨_, _, _, _, _, _, _, _, hf⟩ := s.commitChannels_frame [i]
    rw [hf]
    exact hdivider
  rcases (Item.closes_iff c i).mp h with ⟨x, rfl⟩ | ⟨x, rfl⟩ | ⟨x, rfl⟩ <;>
    rw [State.applyItems_one s (by simp) (by simp) (by simp), State.commitBlocks_of_noLink _ _ (fun _ => rfl), hchannels,
      State.commitDivider_of_same hsettings.symm, State.commitStation_of_other _ (by simp),
      State.commitLines_of_other _ (by simp), State.commitOutputs_of_other _ (by simp)]

/-- The exposure under a limit that a commit may have lowered (R84). -/
def cutExposure (old new : ExposureItem) (x : Nat) : Nat :=
  match if new.limit < old.limit then some (2 * new.limit) else none with
  | some top => if top < x then top else x
  | none => x

/-- What the commit of such an item leaves of the state. -/
theorem State.closeWork_st (s : State) (i : Item) (c : Fin 8) :
    (s.closeWork i c).st = { s.inForce i with
      channels := put s.channels c { nth s.channels c with
        x := cutExposure (nth s.settings.exposure c) (nth (s.settings.apply i).exposure c) (nth s.channels c).x }
      test := { s.test with snapshots := upd s.test.snapshots c (·.map fun n => { n with
        x := cutExposure (nth s.settings.exposure c) (nth (s.settings.apply i).exposure c) n.x }) }
      intervals := put s.intervals c ((nth s.intervals c).map fun _ => Interval.opened) } := by
  unfold State.closeWork cutExposure
  split
  · rw [Work.map_st, Work.closeInterval_st]
    simp only [State.clampExposure, upd, min_eq_cut]
    rfl
  · rw [Work.closeInterval_st]
    simp [State.inForce, Work.start, upd]
    exact (put_nth s.channels c).symm

/-- An item that leaves the limit cuts no exposure. -/
theorem State.closeWork_of_limit {s : State} {i : Item} (c : Fin 8)
    (h : (s.settings.apply i).exposure = s.settings.exposure) :
    (s.closeWork i c).st = { s.inForce i with
      intervals := put s.intervals c ((nth s.intervals c).map fun _ => Interval.opened) } := by
  have hcut : ∀ x, cutExposure (nth s.settings.exposure c) (nth s.settings.exposure c) x = x := fun x => by
    simp [cutExposure]
  rw [State.closeWork_st, h]
  simp [hcut, upd, State.inForce]
  exact put_nth s.channels c

theorem State.applyItems_of_closes_like {s u : State} {i : Item} {c : Fin 8} (h : i.closes c = true)
    (hu : (s.closeWork i c).st = u) : (s.applyItems [i]).like u := by
  rw [State.applyItems_of_closes s h, ← hu]
  exact State.like_symm (Work.like_join _)

/-- The interval that the commit closes joins a queue with room, and stands after the tick (R126, R127). -/
theorem State.closeCommit_record {s : State} {owner : PortId} {confirmer : Option PortId} {i : Item} {c : Fin 8}
    {v : Interval} (pulled : Bool) (hp : s.proposal = .committing owner confirmer [i]) (h : i.closes c = true)
    (hv : nth s.intervals c = some v) (hlength : v.length ≠ 0) (hring : s.settings.ringSize c.castSucc ≠ 0)
    (hroom : s.store.queue.length ≤ 63) :
    ({ ring := c.castSucc, record := .interval (v.record c false) } : QueuedRecord) ∈
      (secondTick pulled s).store.queue := by
  have hpartition : (s.settings.apply i).ringSize c.castSucc = s.settings.ringSize c.castSucc := by
    rcases (Item.closes_iff c i).mp h with ⟨x, rfl⟩ | ⟨x, rfl⟩ | ⟨x, rfl⟩ <;> rfl
  have hout : (s.closeWork i c).out =
      [⟨.interval c, { ring := c.castSucc, record := .interval (v.toRecord c false) }⟩] := by
    have hclose := Work.closeInterval_out (w := Work.start (s.inForce i)) false hv hlength
      (by rw [← hpartition] at hring; exact hring)
    unfold State.closeWork
    split <;> exact hclose
  have hqueue : (s.closeWork i c).join.store.queue =
      s.store.queue ++ [{ ring := c.castSucc, record := .interval (v.toRecord c false) }] := by
    have hone : ∀ y ∈ (s.closeWork i c).out, y.sender = .interval c := by simp [hout]
    rw [Work.join_store_of_oneSender _ _ hone, hout, State.closeWork_st]
    exact congrArg Store.queue (Store.join_interval (st := s.store)
      (q := { ring := c.castSucc, record := .interval (v.toRecord c false) }) (Nat.lt_succ_of_le hroom) rfl)
  have hgrows := (secondTick_grows pulled s).queue
  rw [State.commitStages_of_committing hp, State.applyItems_of_closes s h, hqueue] at hgrows
  refine hgrows.subset ?_
  rw [Interval.record_eq]
  exact List.mem_append_right _ (List.mem_singleton_self _)

/-- Settles O26: for each item, the state that its commit leaves, from which the second is evaluated. -/
theorem settingsCommit : Obligations.SettingsCommit := by
  intro s pulled owner confirmer
  have hleaves : ∀ (i : Item) (u : State), (s.applyItems [i]).like u →
      s.proposal = .committing owner confirmer [i] →
      ∃ t w, exec (.commit pulled) s = .next t ∧ exec (.secondTick pulled) u.emptied = .next w ∧ t.agrees w :=
    fun i u h hp => ⟨_, (State.commit_leaves pulled hp h).2.imp fun _ hw => ⟨(State.commit_leaves pulled hp h).1, hw⟩⟩
  have hsame : ∀ {i : Item} {u : State}, s.applyItems [i] = u → (s.applyItems [i]).like u :=
    fun h => h ▸ State.like_refl _
  have hcloses : ∀ {i : Item} (c : Fin 8) {u : State}, i.closes c = true → (s.closeWork i c).st = u →
      (s.applyItems [i]).like u := fun _ _ h hu => State.applyItems_of_closes_like h hu
  refine ⟨fun c => hleaves _ _ (hsame (s.applyItems_map_same c)), fun v => hleaves _ _ (hsame (s.applyItems_station v)),
    fun d d' hd => hleaves _ _ (hsame ?_), fun l v => hleaves _ _ (hsame (s.applyItems_output l v)),
    fun o v => hleaves _ _ (hsame ((s.applyItems_retransmit o v).trans ?_)),
    fun c v => hleaves _ _ (hcloses c ?_ ?_),
    fun c v => hleaves _ _ (hcloses c ?_ (State.closeWork_of_limit c rfl)),
    fun c v => hleaves _ _ (hcloses c ?_ ((State.closeWork_of_limit c rfl).trans ?_)),
    fun v => hleaves _ _ (hsame (s.applyItems_policy v)), fun v => hleaves _ _ (hsame (s.applyItems_recording v)),
    fun c i v hp hi hv hlength hring hroom => ?_⟩
  · have hmin : min d 3072 = d' := (min_eq_cut d 3072).trans hd.symm
    split
    · next h => exact State.applyItems_timebase_same (hmin.trans h)
    · next h =>
      rw [State.applyItems_timebase_new (by rwa [hmin]), hmin]
      rfl
  · unfold Retransmit.commit
    cases v.mode <;> rfl
  · simp [Item.closes]
  · rw [State.closeWork_st]
    simp only [Settings.apply, nth_put_self]
    rfl
  · simp [Item.closes]
  · simp [Item.closes]
  · simp only [State.inForce, Settings.apply, LevelsItem.clamped, min_eq_cut]
  · have hclose := (Item.closes_iff c i).mpr hi
    refine ⟨secondTick pulled s, ?_, State.closeCommit_record pulled hp hclose hv hlength hring hroom⟩
    exact (State.commit_leaves pulled hp (State.applyItems_of_closes_like hclose rfl)).1

end Sys2Proof.Machine
end

section
/-! ## The end of zeroing (R14, R48, R78, R79) -/

namespace Sys2Proof.Machine

open Work (Hands)

/-! ### Entries that follow a channel's change (R74, R99) -/

theorem AlarmKind.getElem?_number (k : AlarmKind) : alarmKinds[k.number.val]? = some k := by
  cases k <;> rfl

theorem entryOf_inj {c d : Fin 8} {k m : AlarmKind} (h : entryOf c k = entryOf d m) : c = d ∧ k = m := by
  have h' : 4 * c.val + k.number.val = 4 * d.val + m.number.val := congrArg Fin.val h
  have hk := k.number.isLt
  have hm := m.number.isLt
  have hn : k.number.val = m.number.val := by omega
  have hget := k.getElem?_number
  rw [hn, m.getElem?_number] at hget
  exact ⟨Fin.ext (by omega), (Option.some.inj hget).symm⟩

theorem channelOf_entryOf (c : Fin 8) (k : AlarmKind) : channelOf (entryOf c k) = c := by
  have hk := k.number.isLt
  exact Fin.ext (by simp only [channelOf, entryOf]; omega)

theorem AlarmKind.mem_alarmKinds (k : AlarmKind) : k ∈ alarmKinds := by
  cases k <;> decide

theorem AlarmKind.holds_eq (k : AlarmKind) (c : Channel) : k.holds c = c.condition k := by
  cases k <;> rfl

theorem AlarmKind.handed_eq (k : AlarmKind) (c : Channel) : k.handed c = c.value k := by
  cases k <;> rfl

theorem AlarmState.active_iff (a : AlarmState) : a.active = true ↔ a = .raised ∨ a = .accepted := by
  cases a <;> simp [AlarmState.active]

/-- A channel whose conditions stand leaves its entries. -/
theorem AlarmEntry.moved_of_same (e : AlarmEntry) {k : AlarmKind} {old new : Channel} (policy : PolicyItem) (now : Time)
    (h : new.condition k = old.condition k) : e.moved k old new policy now = e := by
  rw [AlarmEntry.moved, AlarmKind.holds_eq, AlarmKind.holds_eq, h]
  cases old.condition k <;> rfl

/-- A change of an entry's state has been told to every port, and its ALARM event handed over. -/
def Work.announces (w : Work) (c : Fin 8) (k : AlarmKind) (was now : AlarmState) (value : Nat) : Prop :=
  (∀ p, (w.st.port p).notices.flags.getLsbD 0 = true ∧ (w.st.port p).notices.alarm.getLsbD c.val = true) ∧
    ⟨.alarm c, w.st.followingRecord (.channel c) (.alarm (entryOf c k) was now value .condition)⟩ ∈ w.out

theorem Work.announces.later {w x : Work} {m : Nat} {c : Fin 8} {k : AlarmKind} {was now : AlarmState} {value : Nat}
    (h : w.announces c k was now value) (hx : Hands m w x) : x.announces c k was now value := by
  obtain ⟨htold, hout⟩ := h
  refine ⟨fun p => ?_, ?_⟩
  · obtain ⟨hflags, halarm, -⟩ := hx.told p
    exact ⟨hflags _ (htold p).1, halarm _ (htold p).2⟩
  · have hrecord : x.st.followingRecord (.channel c) (.alarm (entryOf c k) was now value .condition) =
        w.st.followingRecord (.channel c) (.alarm (entryOf c k) was now value .condition) := by
      rw [State.followingRecord, hx.timebase]
      rfl
    rw [hrecord]
    exact hx.mem hout

/-- A change of an entry of a channel announces itself. -/
theorem Work.moveEntry_announces (w : Work) (c : Fin 8) (k : AlarmKind) (e : AlarmEntry) (v : Nat) :
    (w.moveEntry (.alarm c) (entryOf c k) e v .condition).announces c k (nth w.st.alarms (entryOf c k)).state e.state v := by
  refine ⟨fun p => ?_, ?_⟩
  · have hport : (w.moveEntry (.alarm c) (entryOf c k) e v .condition).st.port p =
        { w.st.port p with notices := (w.st.port p).notices.addAlarm (bitOf 8 (channelOf (entryOf c k))) } :=
      w.st.port_notifyAll (·.addAlarm (bitOf 8 (channelOf (entryOf c k)))) p
    rw [hport, channelOf_entryOf]
    exact (w.st.port p).notices.addAlarm_bits c
  · rw [Work.moveEntry_out, channelOf_entryOf]
    exact List.mem_append_right _ (List.mem_singleton_self _)

/-- A rise raises an entry that is not active (R100). -/
theorem AlarmEntry.moved_of_rise (e : AlarmEntry) {k : AlarmKind} {old new : Channel} (policy : PolicyItem) (now : Time)
    (ho : old.condition k = false) (hn : new.condition k = true) :
    e.moved k old new policy now =
      if e.state.active then e else e.raise now (new.value k) (new.state == .test) := by
  rw [AlarmEntry.moved, AlarmKind.holds_eq, AlarmKind.holds_eq, AlarmKind.handed_eq, ho, hn]
  simp only [AlarmState.active_iff, AlarmEntry.raise, satSucc]

/-- A fall takes an active entry to RETURNED or to NORMAL (R101). -/
theorem AlarmEntry.moved_of_fall (e : AlarmEntry) {k : AlarmKind} {old new : Channel} (policy : PolicyItem) (now : Time)
    (ho : old.condition k = true) (hn : new.condition k = false) :
    e.moved k old new policy now = if e.state.active then e.fall now (policy.required k) else e := by
  rw [AlarmEntry.moved, AlarmKind.holds_eq, AlarmKind.holds_eq, ho, hn]
  simp only [AlarmState.active_iff, AlarmEntry.fall]

/-- The change of one condition of a channel: its entry moves, alone, and a change of its state announces itself. -/
theorem Work.handCondition_moved (w : Work) (c : Fin 8) (k : AlarmKind) (old new : Channel) {e : AlarmEntry}
    (he : (nth w.st.alarms (entryOf c k)).moved k old new w.st.settings.policy w.st.timebase.time = e) :
    (w.handCondition c k (old.condition k) (new.condition k) (new.value k) (new.state == .test)).st.alarms =
        put w.st.alarms (entryOf c k) e ∧
      (e.state ≠ (nth w.st.alarms (entryOf c k)).state →
        (w.handCondition c k (old.condition k) (new.condition k) (new.value k) (new.state == .test)).announces c k
          (nth w.st.alarms (entryOf c k)).state e.state (new.value k)) := by
  have hstands : e = nth w.st.alarms (entryOf c k) → w.st.alarms = put w.st.alarms (entryOf c k) e ∧
      (e.state ≠ (nth w.st.alarms (entryOf c k)).state →
        w.announces c k (nth w.st.alarms (entryOf c k)).state e.state (new.value k)) := fun h => by
    rw [h, put_nth]
    exact ⟨rfl, fun hne => absurd rfl hne⟩
  unfold Work.handCondition
  dsimp only
  by_cases hsame : old.condition k = new.condition k
  · rw [if_pos hsame]
    exact hstands (he ▸ AlarmEntry.moved_of_same _ _ _ hsame.symm)
  · rw [if_neg hsame]
    cases hn : new.condition k with
    | true =>
      have ho : old.condition k = false := by rwa [hn, Bool.not_eq_true] at hsame
      rw [AlarmEntry.moved_of_rise _ _ _ ho hn] at he
      rw [if_pos rfl]
      split
      · next hactive =>
        rw [if_pos hactive] at he
        exact hstands he.symm
      · next hactive =>
        rw [if_neg hactive] at he
        subst he
        exact ⟨rfl, fun _ => w.moveEntry_announces c k _ _⟩
    | false =>
      have ho : old.condition k = true := by rwa [hn, Bool.not_eq_false] at hsame
      rw [AlarmEntry.moved_of_fall _ _ _ ho hn] at he
      rw [if_neg (by decide)]
      split
      · next hactive =>
        rw [if_pos hactive] at he
        subst he
        exact ⟨rfl, fun _ => w.moveEntry_announces c k _ _⟩
      · next hactive =>
        rw [if_neg hactive] at he
        exact hstands he.symm

/-- What a change of a channel's record makes of one of its entries, and that a change of state announces itself. -/
theorem Work.handChanges_moved (w : Work) (c : Fin 8) (k : AlarmKind) (old new : Channel) {e : AlarmEntry}
    (he : (nth w.st.alarms (entryOf c k)).moved k old new w.st.settings.policy w.st.timebase.time = e) :
    nth (w.handChanges c old new).st.alarms (entryOf c k) = e ∧
      (e.state ≠ (nth w.st.alarms (entryOf c k)).state →
        (w.handChanges c old new).announces c k (nth w.st.alarms (entryOf c k)).state e.state (new.value k)) := by
  have hframe : ∀ (x : Work) m, ∃ a p, (x.handCondition c m (old.condition m) (new.condition m) (new.value m)
      (new.state == .test)).st = { x.st with alarms := a, ports := p } := fun x m => x.handCondition_frame ..
  obtain ⟨j, x, ⟨hset, htime⟩, hread, hafter, hhands⟩ := Work.foldl_turn (β := AlarmEntry)
    (f := fun w k => w.handCondition c k (old.condition k) (new.condition k) (new.value k) (new.state == .test))
    (fun x => x.st.settings = w.st.settings ∧ x.st.timebase = w.st.timebase)
    (fun x m => nth x.st.alarms (entryOf c m)) (fun x m => x.hands_handCondition ..)
    (fun x m ⟨hs, ht⟩ => by
      obtain ⟨_, _, hf⟩ := hframe x m
      rw [hf]
      exact ⟨hs, ht⟩)
    (fun x m d _ hd => by
      rw [(x.handCondition_moved c m old new rfl).1]
      exact nth_put_ne _ _ fun h => hd (entryOf_inj h).2.symm)
    (by decide) (AlarmKind.mem_alarmKinds k) ⟨rfl, rfl⟩
  rw [← hread, ← hset, ← htime] at he
  obtain ⟨halarms, hann⟩ := x.handCondition_moved c k old new he
  rw [halarms, nth_put_self] at hafter
  refine ⟨hafter, fun hne => ?_⟩
  rw [← hread] at hne ⊢
  exact (hann hne).later hhands

/-- A change of a channel's record reaches no entry of another channel. -/
theorem Work.handChanges_other (w : Work) {c d : Fin 8} (k : AlarmKind) (old new : Channel) (h : d ≠ c) :
    nth (w.handChanges c old new).st.alarms (entryOf d k) = nth w.st.alarms (entryOf d k) := by
  refine foldl_kinds (fun x : Work => nth x.st.alarms (entryOf d k) = nth w.st.alarms (entryOf d k)) _ w rfl
    fun x m hx => ?_
  rw [(x.handCondition_moved c m old new rfl).1, nth_put_ne _ _ fun e => h (entryOf_inj e).1.symm]
  exact hx

/-! ### The turn of one channel (R48, R78) -/

/-- What stands of a channel beside its settings: its record, its snapshot and its entries. -/
def Work.channelParts (w : Work) (c : Fin 8) : Channel × Option Snapshot × (AlarmKind → AlarmEntry) :=
  (nth w.st.channels c, nth w.st.test.snapshots c, fun k => nth w.st.alarms (entryOf c k))

/-- From `w` to `x` a channel's record has become `new` and its snapshot `saved`; its entries have followed, and each
change of an entry's state is announced. -/
structure Work.Turned (c : Fin 8) (new : Channel) (saved : Option Snapshot) (w x : Work) : Prop where
  channel : nth x.st.channels c = new
  snapshot : nth x.st.test.snapshots c = saved
  entry : ∀ k, nth x.st.alarms (entryOf c k) =
    (nth w.st.alarms (entryOf c k)).moved k (nth w.st.channels c) new w.st.settings.policy w.st.timebase.time
  announced : ∀ k, (nth x.st.alarms (entryOf c k)).state ≠ (nth w.st.alarms (entryOf c k)).state →
    x.announces c k (nth w.st.alarms (entryOf c k)).state (nth x.st.alarms (entryOf c k)).state (new.value k)

/-- A record replaced, its changed conditions handed to the Alarm Table. -/
theorem Work.setChannel_turned (w : Work) (c : Fin 8) (new : Channel) :
    Work.Turned c new (nth w.st.test.snapshots c) w (w.setChannel c new) := by
  obtain ⟨_, _, hf⟩ := w.setChannel_frame c new
  have hmoved := fun k => (w.map fun s => { s with channels := put s.channels c new }).handChanges_moved c k
    (nth w.st.channels c) new rfl
  refine ⟨by rw [hf, nth_put_self], by rw [hf], fun k => (hmoved k).1, fun k hne => ?_⟩
  have hann := (hmoved k).2
  rw [← (hmoved k).1] at hann
  exact hann hne

/-- Where no condition changes, the entries stand. -/
theorem Work.turned_of_conditions {c : Fin 8} {new : Channel} {saved : Option Snapshot} {w x : Work}
    (hc : nth x.st.channels c = new) (hs : nth x.st.test.snapshots c = saved) (ha : x.st.alarms = w.st.alarms)
    (hcond : ∀ k, new.condition k = (nth w.st.channels c).condition k) : Work.Turned c new saved w x :=
  ⟨hc, hs, fun k => by rw [ha, AlarmEntry.moved_of_same _ _ _ (hcond k)], fun k hne => absurd (by rw [ha]) hne⟩

/-- A turn stands where others, before and after it, leave the parts of its channel. -/
theorem Work.Turned.among {c : Fin 8} {new : Channel} {saved : Option Snapshot} {m : Nat} {v w x y : Work}
    (h : Work.Turned c new saved w x) (hv : w.channelParts c = v.channelParts c) (hset : w.st.settings = v.st.settings)
    (htime : w.st.timebase = v.st.timebase) (hy : y.channelParts c = x.channelParts c) (hands : Hands m x y) :
    Work.Turned c new saved v y := by
  obtain ⟨hvc, hvs⟩ := Prod.mk.inj hv
  have hva : ∀ k, nth w.st.alarms (entryOf c k) = nth v.st.alarms (entryOf c k) :=
    congrFun (Prod.mk.inj hvs).2
  obtain ⟨hyc, hys⟩ := Prod.mk.inj hy
  have hya : ∀ k, nth y.st.alarms (entryOf c k) = nth x.st.alarms (entryOf c k) :=
    congrFun (Prod.mk.inj hys).2
  refine ⟨hyc.trans h.channel, (Prod.mk.inj hys).1.trans h.snapshot, fun k => ?_, fun k hne => ?_⟩
  · rw [hya, h.entry, hva, hvc, hset, htime]
  · rw [hya, ← hva] at hne ⊢
    exact (h.announced k hne).later hands

/-- What an end of zeroing makes of a channel whose baseline it sets to 0 at once. -/
def Channel.zeroed (ch : Channel) (m : StartMode) : Channel :=
  match ch.state with
  | .disabled => ch
  | .learning | .armed | .stale => ch.applyStart m
  | .test => { ch with bAcc := 0 }

/-- What it makes of the channel's snapshot. -/
def Channel.zeroedSnapshot (ch : Channel) (m : StartMode) (saved : Option Snapshot) : Option Snapshot :=
  if ch.state = .test then saved.map (·.applyStart m) else saved

theorem Work.zeroedChannel_turned (w : Work) (c : Fin 8) {ch : Channel} (hch : nth w.st.channels c = ch) {m : StartMode}
    (hm : (nth w.st.settings.analysis c).startMode = m) :
    Work.Turned c (ch.zeroed m) (ch.zeroedSnapshot m (nth w.st.test.snapshots c)) w (w.zeroedChannel c) := by
  have hset := w.setChannel_turned c (ch.applyStart m)
  unfold Work.zeroedChannel Channel.zeroed Channel.zeroedSnapshot
  rw [hch, hm]
  dsimp only
  cases hs : ch.state with
  | disabled =>
    rw [if_neg (by decide)]
    exact Work.turned_of_conditions hch rfl rfl fun k => by rw [hch]
  | test =>
    rw [if_pos rfl]
    refine Work.turned_of_conditions (nth_put_self _ _ _) (nth_upd_self _ _ _) rfl fun k => ?_
    rw [hch]
    cases k with
    | data => exact congrArg (· == ChannelState.stale) hs.symm
    | _ => rfl
  | _ =>
    rw [if_neg (by decide)]
    exact hset

/-- The parts of the other channels stand. -/
theorem Work.zeroedChannel_other (w : Work) {c d : Fin 8} (h : d ≠ c) :
    (w.zeroedChannel c).channelParts d = w.channelParts d := by
  have hset : ∀ new, (w.setChannel c new).channelParts d = w.channelParts d := fun new => by
    obtain ⟨_, _, hf⟩ := w.setChannel_frame c new
    have hentry : ∀ k, nth (w.setChannel c new).st.alarms (entryOf d k) = nth w.st.alarms (entryOf d k) := fun k =>
      (w.map fun s => { s with channels := put s.channels c new }).handChanges_other k (nth w.st.channels c) new h
    unfold Work.channelParts
    simp only [hentry]
    rw [hf, nth_put_ne _ _ (Ne.symm h)]
  unfold Work.zeroedChannel
  dsimp only
  split
  · rfl
  · exact hset _
  · exact hset _
  · exact hset _
  · unfold Work.channelParts
    simp only [Work.map_st, nth_put_ne _ _ (Ne.symm h), nth_upd_ne _ _ (Ne.symm h)]

/-! ### The end of zeroing on an input -/

/-- The channel as an end of zeroing on an input leaves it. -/
def State.zeroedRecord (s : State) (n c : Fin 8) : Channel :=
  if s.zeroesNow n c then (nth s.channels c).zeroed (nth s.settings.analysis c).startMode else nth s.channels c

/-- Its snapshot. -/
def State.zeroedSaved (s : State) (n c : Fin 8) : Option Snapshot :=
  if s.zeroesNow n c then
    (nth s.channels c).zeroedSnapshot (nth s.settings.analysis c).startMode (nth s.test.snapshots c)
  else nth s.test.snapshots c

/-- All the channels' turns: each channel by its own, and at most four records from each. -/
theorem Work.zeroedChannels_turned (w : Work) (n : Fin 8) {x : Work}
    (hx : w.forEach (fun c x => if w.st.zeroesNow n c then x.zeroedChannel c else x) = x) :
    (∀ c, Work.Turned c (w.st.zeroedRecord n c) (w.st.zeroedSaved n c) w x) ∧ Hands 32 w x := by
  subst hx
  have hands : ∀ c x, Hands 4 x (if w.st.zeroesNow n c then x.zeroedChannel c else x) :=
    fun c x => .ite (x.hands_zeroedChannel c) (.refl 4 x)
  refine ⟨fun c => ?_, Hands.forEach hands w⟩
  obtain ⟨_, x, ⟨hset, htime⟩, hread, hafter, hhands⟩ := Work.foldl_turn (k := 4)
    (f := fun x c => if w.st.zeroesNow n c then x.zeroedChannel c else x)
    (fun x => x.st.settings = w.st.settings ∧ x.st.timebase = w.st.timebase) Work.channelParts (fun x c => hands c x)
    (fun x c ⟨hs, ht⟩ => by
      split
      · obtain ⟨_, _, _, _, hf⟩ := x.zeroedChannel_frame c
        rw [hf]
        exact ⟨hs, ht⟩
      · exact ⟨hs, ht⟩)
    (fun x c d _ hd => by
      split
      · exact x.zeroedChannel_other hd
      · rfl)
    (List.nodup_finRange 8) (List.mem_finRange c) ⟨rfl, rfl⟩
  obtain ⟨hc, hparts⟩ := Prod.mk.inj hread
  have hsaved := (Prod.mk.inj hparts).1
  have hturn : Work.Turned c (w.st.zeroedRecord n c) (w.st.zeroedSaved n c) x
      (if w.st.zeroesNow n c then x.zeroedChannel c else x) := by
    unfold State.zeroedRecord State.zeroedSaved
    split
    · rw [← hsaved]
      exact x.zeroedChannel_turned c hc (by rw [hset])
    · exact Work.turned_of_conditions hc hsaved rfl fun k => by rw [hc]
  exact hturn.among hread hset htime hafter hhands

/-- An end of zeroing: every channel by its turn, the ZERO_END event behind their records, and the lines behind the
entries. -/
theorem Work.endOfZeroing_turned (w : Work) (n : Fin 8) :
    (∀ c, Work.Turned c (w.st.zeroedRecord n c) (w.st.zeroedSaved n c) w (w.endOfZeroing n)) ∧
      Hands 33 w (w.endOfZeroing n) ∧
      (∀ l, nth (w.endOfZeroing n).st.lines l =
        refreshLine (nth w.st.settings.output l) (w.endOfZeroing n).st.alarms (nth w.st.lines l)) ∧
      ⟨.link n, w.st.followingRecord (.input n) (.zeroEnd n (w.st.settings.users n))⟩ ∈ (w.endOfZeroing n).out := by
  unfold Work.endOfZeroing
  dsimp only
  generalize hx : w.forEach (fun c x => if w.st.zeroesNow n c then x.zeroedChannel c else x) = x
  obtain ⟨hturns, hhands⟩ := w.zeroedChannels_turned n hx
  have hframe : ∃ ch a p t, x.st = { w.st with channels := ch, alarms := a, ports := p, test := t } := by
    subst hx
    refine Work.forEach_induct (fun x => ∃ ch a p t, x.st =
      { w.st with channels := ch, alarms := a, ports := p, test := t }) _ w ⟨_, _, _, _, rfl⟩ fun c x ⟨_, _, _, _, hx⟩ => ?_
    split
    · obtain ⟨ch, a, p, t, h⟩ := x.zeroedChannel_frame c
      exact ⟨ch, a, p, t, by rw [h, hx]⟩
    · exact ⟨_, _, _, _, hx⟩
  have hlast : Hands 1 x ((x.event (.link n) (.input n) (.zeroEnd n (w.st.settings.users n))).map State.refreshLines) :=
    (Hands.event x ..).trans (Hands.map _ rfl rfl rfl)
  refine ⟨fun c => (hturns c).among rfl rfl rfl rfl hlast, hhands.trans hlast, fun l => ?_, ?_⟩
  · obtain ⟨_, _, _, _, hf⟩ := hframe
    simp only [Work.map_st, Work.event_st, State.refreshLines, nth_tab]
    rw [hf]
  · have hrecord : x.st.followingRecord (.input n) (.zeroEnd n (w.st.settings.users n)) =
        w.st.followingRecord (.input n) (.zeroEnd n (w.st.settings.users n)) := by
      rw [State.followingRecord, hhands.timebase]
      rfl
    rw [Work.map_out, Work.event_out, hrecord]
    exact List.mem_append_right _ (List.mem_singleton_self _)

/-! ### The arrival that ends a zeroing -/

/-- The frame whose word ends a zeroing: up to the end of zeroing, the arrival has moved the link and the averager of
its input alone, and said nothing. -/
theorem State.arrival_of_endsZeroing {s : State} {n : Fin 8} {f : InFlight} {frame : BitVec 32} {l : Link}
    (hf : (nth s.links n).inFlight = some f) (h15 : f.index = 15) (ha : f.abandoned = false)
    (hl : (nth s.links n).counted f (classify (nth s.settings.link n).address frame) frame = l)
    (h : arrivalTransition l f (classify (nth s.settings.link n).address frame) frame = none)
    (hs : l.state = .locked) (hz : l.endsZeroing = true) :
    ∃ w : Work, (∃ li av, w.st = { s with links := li, averagers := av }) ∧ w.out = [] ∧
      s.arrival n frame = (w.endOfZeroing n).join := by
  obtain ⟨hout, hport⟩ := (Work.start s).takeFrame_of_none n f frame (by rw [Work.start_st, hl]; exact h)
  have hlink : nth ((Work.start s).takeFrame n f frame).st.links n = l := by
    rw [Work.takeFrame_link]
    simp only [Link.judged, Work.start_st, hl, h]
    rfl
  obtain ⟨_, hframe⟩ := (Work.start s).takeFrame_frame n f frame
  have harrive : (Work.start s).arrive n frame = ((Work.start s).takeFrame n f frame).cycleEnd n := by
    rw [Work.arrive_of_some _ n frame hf, if_pos ⟨h15, by simp [ha]⟩]
  rw [State.arrival, harrive]
  generalize (Work.start s).takeFrame n f frame = u at hout hport hlink hframe
  refine ⟨u.map fun s => { s with links := put s.links n l.formWord }, ?_, hout, ?_⟩
  · rw [hframe] at hport
    rw [Work.map_st, hframe]
    simp only at hport
    rw [hport]
    exact ⟨_, _, rfl⟩
  · unfold Work.cycleEnd
    simp only [hlink, if_pos hs, if_pos hz]

/-- A channel that an end of zeroing on an input leaves, written out from R48, R54 and R78. -/
theorem State.zeroedRecord_eq (s : State) (n c : Fin 8) :
    s.zeroedRecord n c =
      if (nth s.settings.map c).uses n = false ∨ (nth s.channels c).state = .disabled then nth s.channels c
      else if (nth s.channels c).state = .test then { nth s.channels c with bAcc := 0 }
      else if s.remapAgreed c = true then nth s.channels c
      else (nth s.channels c).applyStart (nth s.settings.analysis c).startMode := by
  have huses : (s.settings.users n).getLsbD c.val = (nth s.settings.map c).uses n := getLsbD_maskOf 8 _ c c.isLt
  unfold State.zeroedRecord State.zeroesNow Channel.zeroed
  rw [huses]
  cases (nth s.settings.map c).uses n <;> cases s.remapAgreed c <;>
    cases hst : (nth s.channels c).state <;> simp [hst]

theorem State.zeroedSaved_eq (s : State) (n c : Fin 8) :
    s.zeroedSaved n c =
      if (nth s.settings.map c).uses n = true ∧ (nth s.channels c).state = .test then
        (nth s.test.snapshots c).map (·.applyStart (nth s.settings.analysis c).startMode)
      else nth s.test.snapshots c := by
  have huses : (s.settings.users n).getLsbD c.val = (nth s.settings.map c).uses n := getLsbD_maskOf 8 _ c c.isLt
  unfold State.zeroedSaved State.zeroesNow Channel.zeroedSnapshot
  rw [huses]
  cases (nth s.settings.map c).uses n <;> by_cases ht : (nth s.channels c).state = .test <;> simp [ht]

/-- Settles O11: the counted link ends the zeroing at its cycle end; each channel then has its own turn, and what that
turn says joins the queue and stands. -/
theorem zeroingEnds : Obligations.ZeroingEnds := by
  intro s n f frame hs hf h15 hcur ha hgood hmark hcg hpend hword hcounter
  have hcounts : f.counts frame = true := by simp [InFlight.counts, hcur, ha, hmark, h15]
  obtain ⟨l, hl⟩ : ∃ l, (nth s.links n).counted f (classify (nth s.settings.link n).address frame) frame = l := ⟨_, rfl⟩
  have hl' := hl
  rw [hgood, Link.counted_good, hcounts, hs, hcg] at hl'
  have ht : arrivalTransition l f (classify (nth s.settings.link n).address frame) frame = none := by
    rw [hgood]
    exact arrivalTransition_good fun _ => by rw [hmark, h15]; rfl
  have hstate : l.state = .locked := by rw [← hl']
  have haccept : l.acceptsWord = true := by
    rw [← hl', Link.acceptsWord]
    revert hcounter
    cases (nth s.links n).counterRef <;> simp
  have hzero : wordZeroing l.wbits = false := by
    rw [← hl']
    simpa using hword
  have hz : l.endsZeroing = true := by
    rw [Link.endsZeroing, haccept, hzero, ← hl', hpend]
    rfl
  obtain ⟨w, ⟨li, av, hw⟩, hout, harrival⟩ := State.arrival_of_endsZeroing hf h15 ha hl ht hstate hz
  obtain ⟨hturns, hhands, hlines, hend⟩ := w.endOfZeroing_turned n
  have hlink : (nth (s.arrival n frame).links n).zeroPending = false := by
    rw [State.arrival_link, Link.arrived_of_last hf h15 ha, Link.judged, hl, ht, Link.passIf_none, Link.endCycle,
      if_pos hstate, Link.formWord, if_pos haccept]
    exact hzero
  refine ⟨_, exec_frameArrival n frame s, hlink, ?_⟩
  rw [harrival]
  rw [hw] at hturns hlines hend
  generalize w.endOfZeroing n = x at hturns hhands hlines hend
  have hstore : x.st.store = s.store := hhands.store.trans (by rw [hw])
  have htime : x.st.timebase = s.timebase := hhands.timebase.trans (by rw [hw])
  have hentry : ∀ c k, nth x.st.alarms (entryOf c k) = (nth s.alarms (entryOf c k)).moved k (nth s.channels c)
      (nth x.st.channels c) s.settings.policy s.timebase.time := fun c k => by
    rw [(hturns c).channel, (hturns c).entry k, hw]
  have hjoins : ∀ {y : Sender} {source : EventSource} {body : EventBody},
      (⟨y, s.followingRecord source body⟩ : Handed) ∈ x.out → s.store.loss = 0 → s.store.queue.length ≤ 31 →
        s.eventRecord source body ∈ x.join.store.queue := by
    intro y source body hmem hloss hroom
    obtain ⟨r, hr, hlen⟩ := hhands.out
    have hx : x.out.length ≤ 33 := by
      rw [hr, hout]
      simpa using hlen
    have hq := Work.mem_join hmem (by rw [hstore, hloss]) (by rw [hstore]; omega)
    rwa [State.followingRecord_carrying, ← hloss] at hq
  refine ⟨⟨fun c => ?_, fun c => ?_⟩, hentry, fun m => ?_, fun c k hne => ?_, hjoins hend⟩
  · exact (hturns c).channel.trans (s.zeroedRecord_eq n c)
  · exact (hturns c).snapshot.trans (s.zeroedSaved_eq n c)
  · refine (hlines m).trans ?_
    rw [refreshLine]
    simp only [Option.isNone_iff_eq_none]
    rfl
  · have hann := (hturns c).announced k
    rw [hw] at hann
    obtain ⟨htold, hmem⟩ := hann hne
    refine ⟨htold, hjoins (y := .alarm c) ?_⟩
    rw [AlarmKind.handed_eq]
    rw [State.followingRecord, htime] at hmem
    have hvalue : (nth x.join.channels c).value k = _ := congrArg (·.value k) (hturns c).channel
    rw [hvalue]
    exact hmem

end Sys2Proof.Machine
end

section
/-! ## One period of the clock (R20, R23, R135, R149, R162, R163) -/

namespace Sys2Proof.Machine

/-- The order in which events that fall together are taken loses none and makes none (log 7). -/
theorem clockOrder_perm (fuel seed : Nat) (l : List Instr) : (clockOrder fuel seed l).Perm l := by
  induction fuel generalizing seed l with
  | zero => exact .refl _
  | succ fuel ih =>
    match l with
    | [] => exact .refl _
    | [_] => exact .refl _
    | h :: i :: t =>
      have hmem : (h :: i :: t).getD (Config.pick seed % (h :: i :: t).length) h ∈ h :: i :: t := by
        have hlt : Config.pick seed % (h :: i :: t).length < (h :: i :: t).length := Nat.mod_lt _ (Nat.succ_pos _)
        rw [List.getD_eq_getElem _ _ hlt]
        exact List.getElem_mem hlt
      exact ((ih _ _).cons _).trans (List.perm_cons_erase hmem).symm

@[simp] theorem mem_whenDue {due : Bool} {i j : Instr} : i ∈ whenDue due j ↔ due = true ∧ i = j := by
  cases due <;> simp [whenDue]

theorem Port.discardDue_iff (q : Port) : q.discardDue = true ↔ (∃ b, q.slot = .ready b) ∧ q.timer = 0 := by
  unfold Port.discardDue
  cases q.slot <;> simp

/-- A period that is over brings no pulse's end (R162, R163). -/
theorem Retransmit.mem_due {o : Retransmit} {n : Fin 2} {i : Instr} :
    i ∈ o.due n ↔
      (o.period.length ≤ o.counter ∧ i = .pwmPeriodStart n) ∨
        (o.counter < o.period.length ∧ ∃ k, o.period.pulse = some k ∧ o.counter = k * o.period.prescale) ∧
          i = .pwmPulseEnd n := by
  unfold Retransmit.due
  split
  · next h => simp [h, Nat.not_lt.mpr h]
  · next h => simp [h, Nat.not_le.mp h, Option.any_eq_true]

/-- Some port is in WORKING (R135). -/
theorem State.nextWorking_isSome (s : State) :
    s.nextWorking.isSome = true ↔ ∃ p f, (s.port p).slot = .working f := by
  have hfetch : ∀ sl : Slot, sl.fetch.isSome = true ↔ ∃ f, sl = .working f := fun sl => by
    cases sl <;> simp [Slot.fetch]
  have hall : ∀ turn p : PortId, p ∈ portsAfter turn := fun turn p => by
    cases turn <;> cases p <;> decide
  simp only [State.nextWorking, List.findSome?_isSome_iff, Option.isSome_map, hfetch, hall, true_and]

theorem State.mem_storeDue {s : State} {ends : Bool} {i : Instr} :
    i ∈ s.storeDue ends ↔
      (s.store.access = .idle ∧ (s.store.queue ≠ [] ∨ ∃ p f, (s.port p).slot = .working f)) ∧ i = .storeGrant ∨
        ((∃ q, s.store.access = .write q) ∧ ends = true) ∧ i = .writeComplete ∨
        ((∃ p r, s.store.access = .copy p r) ∧ ends = true) ∧ i = .copyComplete := by
  unfold State.storeDue
  cases s.store.access <;> simp [← State.nextWorking_isSome]

/-- The events that a count can bring about, each with its condition. -/
theorem State.mem_due {s : State} {pulled ends : Bool} {i : Instr} :
    i ∈ s.due pulled ends ↔
      (s.timebase.framePeriod ≤ s.timebase.frameDiv ∧ i = .frameTick) ∨
        (2048000 ≤ s.timebase.secondDiv ∧ i = .secondTick pulled) ∨
        (∃ p, (s.port p).discardDue = true ∧ i = .discardTimerExpiry p) ∨
        (∃ o, i ∈ (nth s.outputs o).due o) ∨ i ∈ s.storeDue ends := by
  have hports : ∀ P : PortId → Prop, (∃ p, P p) ↔ P .a ∨ P .b ∨ P .c := fun P =>
    ⟨fun ⟨p, h⟩ => by cases p <;> simp [h], by rintro (h | h | h) <;> exact ⟨_, h⟩⟩
  have hsecond : (decide (secondPeriods ≤ s.timebase.secondDiv) = true) ↔ 2048000 ≤ s.timebase.secondDiv :=
    decide_eq_true_iff
  simp only [State.due, List.mem_append, mem_whenDue, decide_eq_true_eq, hsecond, hports, Fin.exists_fin_two,
    State.port, Ports.get, or_assoc]

theorem State.clock_port (s : State) (p : PortId) : s.clock.port p = (s.port p).clock := Ports.get_all _ _ _

theorem State.clock_output (s : State) (o : Fin 2) :
    nth s.clock.outputs o = { nth s.outputs o with counter := (nth s.outputs o).counter + 1 } := nth_tab _ o

theorem Port.clock_slot (q : Port) : q.clock.slot = q.slot := by
  unfold Port.clock
  split <;> rfl

/-- A timer is due in READY once the period has taken its last count. -/
theorem Port.clock_discardDue (q : Port) :
    q.clock.discardDue = true ↔ (∃ b, q.slot = .ready b) ∧ q.timer ≤ 1 := by
  rw [Port.discardDue_iff, Port.clock_slot]
  refine and_congr_right fun ⟨b, hb⟩ => ?_
  rw [Port.clock, hb]
  exact Nat.sub_eq_zero_iff_le

/-- What waits after a period on an empty queue: the events that the moved counters have brought about. -/
theorem State.mem_idle_pending {s : State} (h : s.pending = []) {i : Instr} :
    i ∈ s.idle.pending ↔ i ∈ s.clock.due (Config.stormPulled s.free) (Config.accessEnds s.free) := by
  change i ∈ s.pending ++ clockOrder _ _ _ ↔ _
  rw [h, List.nil_append]
  exact (clockOrder_perm ..).mem_iff

/-- Settles O2: each event is due exactly when its moved counter says so, and the free order of those that fall together
keeps them all. -/
theorem idleStepRunsClock : Obligations.IdleStepRunsClock := by
  intro s hs
  have hstep : step s = .next s.idle := by
    unfold step
    rw [hs]
  refine ⟨s.idle, hstep, rfl, s.clock_port, s.clock_output, rfl, ?_⟩
  simp only [State.mem_idle_pending hs, State.mem_due, Retransmit.mem_due, State.mem_storeDue, State.clock_port,
    State.clock_output, Port.clock_discardDue, Port.clock_slot, State.clock_store, PwmPeriod.length]
  refine ⟨by simp [State.clock], by simp [State.clock], fun p => by simp, by simp, ?_, ?_, fun o => by simp,
    fun o => by simp⟩
  · intro h
    have hwrite : (∃ q, s.store.access = .write q) ∧ Config.accessEnds s.free = true := by simpa using h
    exact hwrite.1
  · intro h
    have hcopy : (∃ p r, s.store.access = .copy p r) ∧ Config.accessEnds s.free = true := by simpa using h
    exact hcopy.1

end Sys2Proof.Machine
end

section
/-! ## SET TIME (R24, R126, R127) -/

namespace Sys2Proof.Machine

/-- The record that the close of a channel's interval hands over, marked TIME_SET or not: none where it holds no second
or its ring no slot (R120, R127). -/
def State.closedRecord (s : State) (timeSet : Bool) (c : Fin 8) : Option QueuedRecord :=
  (nth s.intervals c).bind fun v =>
    if v.length = 0 ∨ s.settings.ringSize c.castSucc = 0 then none
    else some { ring := c.castSucc, record := .interval (v.record c timeSet) }

theorem Work.closeInterval_handed (w : Work) (c : Fin 8) (timeSet : Bool) :
    (w.closeInterval c timeSet).out =
      w.out ++ (w.st.closedRecord timeSet c).toList.map fun q => ⟨.interval c, q⟩ := by
  unfold State.closedRecord
  rcases w.closeInterval_cases c timeSet with ⟨hn, h⟩ | ⟨v, hv, -, ⟨hnone, h⟩ | ⟨hlength, hring, h⟩⟩
  · rw [h, hn]
    simp
  · rw [h, hv, Option.bind_some, if_pos hnone]
    simp
  · rw [h, hv, Option.bind_some, if_neg (by omega), Interval.record_eq]
    simp

/-- An interval record joins as it is, whatever the loss count (R132). -/
theorem State.closedRecord_carrying {s : State} {timeSet : Bool} {c : Fin 8} {q : QueuedRecord}
    (h : s.closedRecord timeSet c = some q) (loss : Nat) : q.carrying loss = q := by
  obtain ⟨v, -, hq⟩ := Option.bind_eq_some_iff.mp h
  split at hq
  · cases hq
  · cases hq
    rfl

/-- The intervals of channels in turn closed: each is opened afresh, and each hands over its own record. -/
theorem Work.closeIntervals_spec (timeSet : Bool) {l : List (Fin 8)} (hl : l.Nodup) (w : Work) :
    (∃ v, (l.foldl (fun w c => w.closeInterval c timeSet) w).st = { w.st with intervals := v } ∧
        ∀ c, nth v c = if c ∈ l then (nth w.st.intervals c).map fun _ => .opened else nth w.st.intervals c) ∧
      (l.foldl (fun w c => w.closeInterval c timeSet) w).out.map (·.queued) =
        w.out.map (·.queued) ++ l.filterMap (w.st.closedRecord timeSet) := by
  induction l generalizing w with
  | nil => exact ⟨⟨w.st.intervals, rfl, fun c => by simp⟩, by simp⟩
  | cons a l ih =>
    obtain ⟨ha, hl⟩ := List.nodup_cons.mp hl
    obtain ⟨⟨v, hst, hv⟩, hout⟩ := ih hl (w.closeInterval a timeSet)
    rw [List.foldl_cons]
    refine ⟨⟨v, ?_, fun c => ?_⟩, ?_⟩
    · rw [hst, Work.closeInterval_st]
    · rw [hv, Work.closeInterval_st]
      by_cases hc : c = a
      · subst hc
        simp [ha]
      · simp [hc, nth_put_ne _ _ (Ne.symm hc)]
    · have hsame : ∀ c ∈ l, (w.closeInterval a timeSet).st.closedRecord timeSet c = w.st.closedRecord timeSet c :=
        fun c hc => by
          have hne : a ≠ c := fun e => ha (e ▸ hc)
          rw [State.closedRecord, Work.closeInterval_st, nth_put_ne _ _ hne]
          rfl
      rw [hout, List.filterMap_congr hsame, Work.closeInterval_handed, List.filterMap_cons]
      cases w.st.closedRecord timeSet a <;> simp

/-- Every channel's interval closed (R126). -/
theorem Work.closeAll_spec (timeSet : Bool) (w : Work) :
    (∃ v, (w.forEach fun c w => w.closeInterval c timeSet).st = { w.st with intervals := v } ∧
        ∀ c, nth v c = (nth w.st.intervals c).map fun _ => .opened) ∧
      (w.forEach fun c w => w.closeInterval c timeSet).out.map (·.queued) =
        w.out.map (·.queued) ++ (List.finRange 8).filterMap (w.st.closedRecord timeSet) := by
  obtain ⟨⟨v, hst, hv⟩, hout⟩ := Work.closeIntervals_spec timeSet (List.nodup_finRange 8) w
  exact ⟨⟨v, hst, fun c => by rw [hv, if_pos (List.mem_finRange c)]⟩, hout⟩

/-- The TIME event of R24, as it is handed over. -/
def State.timeEvent (s : State) (p : PortId) (time : Time) : QueuedRecord :=
  { ring := 8
    record := .event { time, source := .port p, body := .time s.timebase.time time p, loss := 0 } }

/-- What SET TIME does when it is taken, with the records that it hands over (R24, R126). -/
theorem State.takeSetTime_spec (s : State) (p : PortId) (time : Time) :
    ∃ (v : Tab 8 (Option Interval)) (fr : Nat) (l : List QueuedRecord), s.takeSetTime p time =
        ({ s with timebase := { s.timebase with time }, intervals := v, store := l.foldl Store.join s.store
                  ports := (s.notifyOthers p (·.addTime p)).ports, free := fr }, bare .done 8) ∧
      (∀ c, nth v c = (nth s.intervals c).map fun _ => .opened) ∧
      l.Perm (s.timeEvent p time :: (List.finRange 8).filterMap (s.closedRecord true)) := by
  unfold State.takeSetTime
  dsimp only
  generalize hw : Work.event _ _ _ _ = w
  have hwst : w.st = { s with timebase := { s.timebase with time } }.notifyOthers p (·.addTime p) := by
    rw [← hw]
    rfl
  have hwout : w.out = [⟨.time, s.timeEvent p time⟩] := by
    rw [← hw]
    rfl
  obtain ⟨⟨v, hst, hv⟩, hout⟩ := w.closeAll_spec true
  generalize w.forEach _ = x at hst hout ⊢
  obtain ⟨l, hl, hjoin⟩ := x.join_store
  refine ⟨v, x.join.free, l, ?_, fun c => by rw [hv, hwst]; rfl, ?_⟩
  · have hx : x.join = { x.st with store := x.join.store, free := x.join.free } := rfl
    rw [hx, hjoin, hst, hwst]
    rfl
  · rw [hout, hwout, hwst] at hl
    exact hl

/-- Settles O41: the TIME event and the intervals that the request closes are the records of one step. -/
theorem stationTimeSet : Obligations.StationTimeSet := by
  intro s p time hp
  obtain ⟨v, fr, l, htake, hv, hl⟩ := s.takeSetTime_spec p time
  have hexec : exec (.setTime p time) s = .next (s.endTransfer p fun s => s.takeSetTime p time) := rfl
  rw [State.endTransfer_of_plain hp, htake] at hexec
  refine ⟨_, hexec, rfl, ?_, fun q hq => ?_, hv, fun hloss hroom => ?_, ?_⟩
  · rw [State.port_updPort_self]
    exact congrArg (fun q : Port => { q with transfer := .idle, due := bare .done 8 }) 
      (s.port_notifyOthers_self p (·.addTime p))
  · rw [State.port_updPort_ne _ _ (Ne.symm hq)]
    exact s.port_notifyOthers_ne (·.addTime p) (Ne.symm hq)
  · have hlen : l.length ≤ 9 := by
      rw [hl.length_eq, List.length_cons]
      exact Nat.succ_le_succ (List.length_filterMap_le _ _)
    have hjoin := Store.foldl_join_room l (st := s.store) (by omega) hloss
    have hcarry : ∀ q ∈ l, q.carrying 0 = q := fun q hq => by
      rcases List.mem_cons.mp (hl.mem_iff.mp hq) with rfl | hq
      · rfl
      · obtain ⟨c, -, hc⟩ := List.mem_filterMap.mp hq
        exact State.closedRecord_carrying hc 0
    rw [List.map_congr_left hcarry, List.map_id'] at hjoin
    refine ⟨l, congrArg Store.queue hjoin, hl.trans (.of_eq ?_)⟩
    rw [State.eventRecord, State.updPort_store, State.updPort_timebase]
    dsimp only
    rw [hjoin]
    rfl
  · rfl

end Sys2Proof.Machine
end

section
/-! ## What a second makes of a channel (R29 to R33, R40, R55 to R72, R81, R82) -/

namespace Sys2Proof.Machine

/-! ### The channel after the tick -/

theorem tickHanded_channels (pulled : Bool) (s : State) :
    (tickHanded pulled s).st.channels = (tickMoved pulled s).st.channels := by
  obtain ⟨_, _, _, h⟩ := (tickMoved pulled s).handAll_frame (tickInputs s).st.channels
  rw [tickHanded, Work.map_st, Work.map_st, State.judgeOutputs_channels, State.evaluateLines_channels, h]

/-- The count of a test that goes on reaches no channel (R44). -/
theorem Work.countTest_channels_of_goesOn {w : Work} (h : w.st.testGoesOn) :
    w.countTest.st.channels = w.st.channels := by
  unfold Work.countTest
  dsimp only
  split
  · rfl
  · next hplan =>
    rw [if_neg]
    · rfl
    · rcases h with h | h
      · exact absurd (by rw [h]; rfl) hplan
      · omega

/-- Where no test ends, what follows the baselines reaches no channel. -/
theorem secondTick_channels (pulled : Bool) {s : State} (hu : s.uncommitted) (ht : s.testGoesOn) :
    (secondTick pulled s).channels = (tickMoved pulled s).st.channels := by
  have hclosed : ∀ j : State, j.closeCommit.endSecond.channels = j.channels := fun j => by
    obtain ⟨_, _, _, _, _, hl⟩ := j.closeCommit_frame
    rw [State.endSecond, hl]
  have hcounted : (tickCounted pulled s).st.channels = (tickHanded pulled s).st.channels := by
    have hgoes := tickHanded_testGoesOn pulled hu ht
    unfold tickCounted
    generalize tickHanded pulled s = w at hgoes ⊢
    obtain ⟨_, _, hw⟩ := w.countTest.countWindows_frame
    rw [hw]
    exact Work.countTest_channels_of_goesOn hgoes
  rw [secondTick, hclosed, Work.join_channels, hcounted, tickHanded_channels]

theorem tickDecided_channels (pulled : Bool) (s : State) :
    (tickDecided pulled s).st.channels = (tickJudged s).st.channels := by
  obtain ⟨_, _, hd⟩ := tickDecided_frame pulled s
  rw [hd]

/-- After a tick at which nothing commits and no test ends, a channel is what its stages 1 to 5, 7 and 8 have made of it
(R61). -/
theorem secondTick_channel (pulled : Bool) {s : State} (hu : s.uncommitted) (ht : s.testGoesOn) (c : Fin 8) :
    nth (secondTick pulled s).channels c =
      (nth (tickJudged s).st.channels c).move (nth s.settings.analysis c).baselineShift
        (secondTick pulled s).storm.state := by
  obtain ⟨_, _, hi, -⟩ := tickInputs_spec s
  obtain ⟨_, _, hd⟩ := tickDecided_frame pulled s
  have hset : (tickDecided pulled s).st.settings = s.settings := by
    rw [hd, tickJudged, Work.map_st, State.judgeChannels_settings, hi, State.commitStages_of_uncommitted hu]
  rw [secondTick_channels pulled hu ht, (secondTick_fields pulled s).1, tickMoved, Work.map_st, State.moveChannels,
    nth_tab, hset, tickDecided_channels]

/-! ### A present second -/

/-- The state that a present second finds or brings back: a STALE channel is in the one it had left (R59). -/
def Channel.resumed (c : Channel) : ChannelState := if c.state = .stale then c.left.state else c.state

/-- A present second in ARMED or TEST (R63, R64, R68, R81, R82). -/
theorem Channel.present_of_measuring {c : Channel} (h : c.resumed = .armed ∨ c.resumed = .test) (v : Settings)
    (i : Fin 8) (stamp : Time) (g : Int) :
    c.present v i stamp g =
      let m := (deviation c g).m
      let eAcc := followEnvelope c.eAcc m (nth v.analysis i).decayShift
      let x := accumulate c.x m (nth v.exposure i)
      { c with
        state := c.resumed, absence := 0, latest := some { stamp, value := some (deviation c g) }, eAcc, x
        conds := c.conds.evaluate (nth v.levels i) (nth v.exposure i) (eAcc / 256) x } := by
  unfold Channel.present Channel.resumed
  rcases h with h | h <;> unfold Channel.resumed at h <;> dsimp only <;> rw [h]

/-- A present second in LEARNING (R55). -/
theorem Channel.present_of_learning {c : Channel} (h : c.resumed = .learning) (v : Settings) (i : Fin 8) (stamp : Time)
    (g : Int) :
    c.present v i stamp g =
      { c with
        state := .learning, absence := 0, latest := some { stamp, value := some (deviation c g) }, eAcc := 0, x := 0
        conds := .none } := by
  unfold Channel.present
  unfold Channel.resumed at h
  dsimp only
  rw [h]

/-- Stages 7 and 8 reach the baseline alone in ARMED, and nothing in TEST (R71, R72). -/
theorem Channel.move_of_measuring {c : Channel} (h : c.state = .armed ∨ c.state = .test) {g : Int}
    (hv : ∃ v, c.latest.bind (·.value) = some v ∧ v.g = g) (shift : Nat) (st : StormState) :
    c.move shift st = { c with
      bAcc :=
        if c.state ≠ .test ∧ c.conds.excursion = false ∧ st = .quiet then followBaseline c.bAcc g shift
        else c.bAcc } := by
  obtain ⟨state, left, bAcc, eAcc, conds, x, absence, learned, latest⟩ := c
  obtain ⟨v, hv, rfl⟩ := hv
  dsimp only at h hv
  unfold Channel.move
  simp only [hv]
  rcases h with rfl | rfl
  · cases conds.excursion <;> cases st <;> rfl
  · rfl

/-- Stages 7 and 8 in LEARNING: the baseline moves with shift 4, and the 64th second is the last (R55). -/
theorem Channel.move_of_learning {c : Channel} (h : c.state = .learning) {v : SecondValue}
    (hv : c.latest.bind (·.value) = some v) (shift : Nat) (st : StormState) :
    c.move shift st = { c with
      bAcc := followBaseline c.bAcc v.g 4, learned := min 64 (c.learned + 1)
      state := if 63 ≤ c.learned then .armed else .learning } := by
  have h64 : 64 ≤ min 64 (c.learned + 1) ↔ 63 ≤ c.learned := by omega
  unfold Channel.move
  rw [hv]
  dsimp only
  rw [h]
  simp only [h64]

/-- Stages 7 and 8 do nothing after an absent second. -/
theorem Channel.move_of_absent {c : Channel} (h : c.latest.bind (·.value) = none) (shift : Nat) (st : StormState) :
    c.move shift st = c := by
  unfold Channel.move
  rw [h]

theorem tickJudged_of_present {s : State} (hu : s.uncommitted) {c : Fin 8} (hd : (nth s.channels c).state ≠ .disabled)
    {g : Int} (hg : s.secondValue c = some g) :
    nth (tickJudged s).st.channels c = (nth s.channels c).present s.settings c s.timebase.time g := by
  rw [tickJudged_channel hu, if_neg hd, hg]

/-- Settles O14: the channel is measured, and then its baseline moves where nothing holds it. -/
theorem presentSecond : Obligations.PresentSecond := by
  intro s pulled c hu ht hstate g hg
  have hd : (nth s.channels c).state ≠ .disabled := by
    rcases hstate with h | h | ⟨h, -⟩ <;> rw [h] <;> decide
  have hresumed : (nth s.channels c).resumed = if (nth s.channels c).state = .test then .test else .armed := by
    unfold Channel.resumed
    rcases hstate with h | h | ⟨h, hl⟩ <;> rw [h]
    · rfl
    · rfl
    · rw [hl]
      rfl
  have hmeasuring : (nth s.channels c).resumed = .armed ∨ (nth s.channels c).resumed = .test := by
    rw [hresumed]
    split
    · exact .inr rfl
    · exact .inl rfl
  have htest : (nth s.channels c).resumed = .test ↔ (nth s.channels c).state = .test := by
    rw [hresumed]
    split <;> simp [*]
  have hjudged := tickJudged_of_present hu hd hg
  rw [Channel.present_of_measuring hmeasuring] at hjudged
  have hnew := secondTick_channel pulled hu ht c
  rw [hjudged, Channel.move_of_measuring hmeasuring ⟨_, rfl, rfl⟩] at hnew
  refine ⟨_, rfl, ?_⟩
  dsimp only
  rw [hnew]
  refine ⟨rfl, rfl, hresumed, rfl, rfl, rfl, rfl, rfl, rfl, rfl, ?_⟩
  simp only [ne_eq, htest]
  rfl

/-- Settles O15: the envelope, the exposure and the conditions are emptied, and the 64th present second is the last of
LEARNING. -/
theorem learningSecond : Obligations.LearningSecond := by
  intro s pulled c hu ht hstate g hg
  have hd : (nth s.channels c).state ≠ .disabled := by
    rcases hstate with h | ⟨h, -⟩ <;> rw [h] <;> decide
  have hresumed : (nth s.channels c).resumed = .learning := by
    unfold Channel.resumed
    rcases hstate with h | ⟨h, hl⟩ <;> rw [h]
    · rfl
    · rw [hl]
      rfl
  have hjudged := tickJudged_of_present hu hd hg
  rw [Channel.present_of_learning hresumed] at hjudged
  have hnew := secondTick_channel pulled hu ht c
  refine ⟨_, rfl, fun h63 => ?_, ?_⟩
  · refine congrArg Host.Outcome.next (if_pos ?_)
    rw [endsLearning, tickDecided_channels, ← secondTick_channels pulled hu ht, hnew, hjudged,
      Channel.move_of_learning rfl rfl]
    simp [h63]
  · rw [hnew, hjudged, Channel.move_of_learning rfl rfl]
    rfl

/-! ### An absent second -/

theorem tickJudged_of_absent {s : State} (hu : s.uncommitted) {c : Fin 8} (hd : (nth s.channels c).state ≠ .disabled)
    (hg : s.secondValue c = none) :
    nth (tickJudged s).st.channels c =
      (nth s.channels c).absent (nth s.settings.analysis c).staleLimit s.timebase.time
        ((List.finRange 8).any fun n => (nth s.settings.map c).uses n && (nth s.links n).zeroSeen) := by
  rw [tickJudged_channel hu, if_neg hd, hg]

/-- What an absent second makes of an enabled channel (R57, R58, R62). -/
theorem Channel.absent_eq {c : Channel} (h : c.state ≠ .disabled) (limit : Nat) (stamp : Time) (zeroing : Bool) :
    c.absent limit stamp zeroing =
      let absence :=
        if c.state = .test then 0 else if zeroing then c.absence else if 65535 ≤ c.absence then 65535 else c.absence + 1
      let stale := (c.state = .learning ∨ c.state = .armed) ∧ limit ≤ absence
      { c with
        absence, latest := some { stamp, value := none }
        state := if stale then .stale else c.state
        left := if stale then (if c.state = .learning then .learning else .armed) else c.left } := by
  obtain ⟨state, left, bAcc, eAcc, conds, x, count, learned, latest⟩ := c
  unfold Channel.absent satSucc
  dsimp only at h ⊢
  generalize (if state = .test then 0 else if zeroing then count else if 65535 ≤ count then 65535 else count + 1) =
    absence
  cases state with
  | disabled => exact absurd rfl h
  | learning | armed => by_cases hlimit : limit ≤ absence <;> simp [hlimit]
  | stale | test => simp

theorem tickInputs_channels {s : State} (hu : s.uncommitted) : (tickInputs s).st.channels = s.channels := by
  obtain ⟨_, _, hi, -⟩ := tickInputs_spec s
  rw [hi, State.commitStages_of_uncommitted hu]

/-- Settles O16: an absent second counts, and takes a channel whose count reaches its limit to STALE. -/
theorem absentSecond : Obligations.AbsentSecond := by
  intro s pulled c hu ht hd hg
  have hjudged := tickJudged_of_absent hu hd hg
  have hnew := secondTick_channel pulled hu ht c
  rw [hjudged, Channel.move_of_absent (Channel.absent_latest ..)] at hnew
  rw [Channel.absent_eq hd] at hjudged hnew
  refine ⟨_, rfl, hnew, fun hstale => congrArg Host.Outcome.next (if_pos ?_)⟩
  have hbefore : ((nth s.channels c).state == .learning || (nth s.channels c).state == .armed) = true := by
    simpa using hstale.1
  rw [goesStale, tickInputs_channels hu, hjudged, hbefore]
  simp only [if_pos hstale, beq_self_eq_true, Bool.and_self]

end Sys2Proof.Machine
end

section
/-! ## The items in force and the close of a commit (R20, R67, R190, R191) -/

namespace Sys2Proof.Machine

/-! ### The item in force under a name -/

/-- A place of a table as GET SETTING names it, after another place has been written. -/
theorem nameOf_map_put_ne {n : Nat} {α β : Type} {index : Byte} {i : Fin n} (h : index.toNat ≠ i.val) (t : Tab n α)
    (x : α) (f : Fin n → α → β) :
    ((nameOf n index).map fun c => f c (nth (put t i x) c)) = (nameOf n index).map fun c => f c (nth t c) := by
  unfold nameOf
  split
  · have hne : i ≠ ⟨index.toNat, ‹_›⟩ := fun e => h (congrArg Fin.val e).symm
    simp [nth_put_ne _ _ hne]
  · rfl

theorem onlyZero_of_ne {α : Type} {index : Byte} (h : index.toNat ≠ 0) (x : Option α) : onlyZero index x = none := by
  rw [onlyZero, if_neg]
  rintro rfl
  exact h rfl

/-- An item put in force leaves the items of every other name (R190, stage 1). -/
theorem Settings.item_apply_of_ne (s : Settings) (j : Item) {kind index : Byte}
    (h : (kind.toNat, index.toNat) ≠ j.name) : (s.apply j).item kind index = s.item kind index := by
  by_cases hkind : kind.toNat = j.name.1
  · have hindex : index.toNat ≠ j.name.2 := fun e => h (Prod.ext hkind e)
    unfold Settings.item
    rw [hkind]
    cases j with
    | map c v => exact nameOf_map_put_ne hindex s.map v Item.map
    | analysis c v => exact nameOf_map_put_ne hindex s.analysis v Item.analysis
    | levels c v => exact nameOf_map_put_ne hindex s.levels v.clamped Item.levels
    | exposure c v => exact nameOf_map_put_ne hindex s.exposure v Item.exposure
    | link n v => exact nameOf_map_put_ne hindex s.link v Item.link
    | output l v => exact nameOf_map_put_ne hindex s.output v Item.output
    | retransmit o v => exact nameOf_map_put_ne hindex s.retransmit v Item.retransmit
    | policy _ | station _ | recording _ | partition _ | timebase _ =>
      exact (onlyZero_of_ne hindex _).trans (onlyZero_of_ne hindex _).symm
    | test _ | clear => rfl
  · -- an item writes one field, and only its own kind reads it
    unfold Settings.item
    cases j <;> split <;> first | rfl | exact absurd ‹kind.toNat = _› hkind

theorem Settings.item_applyAll_of_notMem {items : List Item} (s : Settings) {kind index : Byte}
    (h : (kind.toNat, index.toNat) ∉ items.map Item.name) : (s.applyAll items).item kind index = s.item kind index := by
  induction items generalizing s with
  | nil => rfl
  | cons j items ih =>
    rw [List.map_cons, List.mem_cons, not_or] at h
    exact (ih (s.apply j) h.2).trans (s.item_apply_of_ne j h.1)

/-! ### The items of a proposal in force -/

/-- What an item is in force as, with the clamps of R20 and R67; TEST and CLEAR are not in force. -/
def Settings.holds (s : Settings) (i : Item) : Prop :=
  match i with
  | .map c v => nth s.map c = v
  | .analysis c v => nth s.analysis c = v
  | .levels c v => nth s.levels c = v.clamped
  | .exposure c v => nth s.exposure c = v
  | .link n v => nth s.link n = v
  | .policy v => s.policy = v
  | .output l v => nth s.output l = v
  | .station v => s.station = v
  | .recording v => s.recording = v
  | .partition sizes => s.partition = sizes
  | .timebase d => s.divider = min d 3072
  | .retransmit o v => nth s.retransmit o = v
  | .test _ | .clear => True

theorem Settings.apply_holds (s : Settings) (i : Item) : (s.apply i).holds i := by
  cases i <;> simp [Settings.holds, Settings.apply]

/-- One of at most 256 names travels in a byte. -/
theorem toNat_nameByte {n : Nat} (hn : n ≤ 256) (c : Fin n) : (BitVec.ofNat 8 c.val).toNat = c.val := by
  rw [BitVec.toNat_ofNat]
  omega

theorem nameOf_nameByte {n : Nat} (hn : n ≤ 256) (c : Fin n) : nameOf n (BitVec.ofNat 8 c.val) = some c :=
  nameOf_of_lt (toNat_nameByte hn c)

/-- An item in force stays so while the item of its name stands. -/
theorem Settings.holds.of_item {s t : Settings} {i : Item} (h : s.holds i)
    (ht : ∀ kind index : Byte, i.name = (kind.toNat, index.toNat) → t.item kind index = s.item kind index) :
    t.holds i := by
  have hplace : ∀ {n : Nat} (kind : Byte) (c : Fin n), n ≤ 256 →
      ((kind.toNat, c.val) : Nat × Nat) = (kind.toNat, (BitVec.ofNat 8 c.val).toNat) := fun kind c hn => by
    rw [toNat_nameByte hn]
  have hread : ∀ {n : Nat} (c : Fin n) {f g : Fin n → Item}, n ≤ 256 →
      (nameOf n (.ofNat 8 c)).map f = (nameOf n (.ofNat 8 c)).map g → f c = g c := fun c f g hn e => by
    rw [nameOf_nameByte hn] at e
    exact Option.some.inj e
  cases i with
  | map c v => exact (Item.map.inj (hread c (by decide) (ht 0 _ (hplace 0 c (by decide))))).2.trans h
  | analysis c v => exact (Item.analysis.inj (hread c (by decide) (ht 1 _ (hplace 1 c (by decide))))).2.trans h
  | levels c v => exact (Item.levels.inj (hread c (by decide) (ht 2 _ (hplace 2 c (by decide))))).2.trans h
  | exposure c v => exact (Item.exposure.inj (hread c (by decide) (ht 3 _ (hplace 3 c (by decide))))).2.trans h
  | link n v => exact (Item.link.inj (hread n (by decide) (ht 4 _ (hplace 4 n (by decide))))).2.trans h
  | policy v => exact (Item.policy.inj (Option.some.inj (ht 5 0 rfl))).trans h
  | output l v => exact (Item.output.inj (hread l (by decide) (ht 6 _ (hplace 6 l (by decide))))).2.trans h
  | station v => exact (Item.station.inj (Option.some.inj (ht 7 0 rfl))).trans h
  | recording v => exact (Item.recording.inj (Option.some.inj (ht 8 0 rfl))).trans h
  | partition sizes => exact (Item.partition.inj (Option.some.inj (ht 9 0 rfl))).trans h
  | timebase d => exact (Item.timebase.inj (Option.some.inj (ht 10 0 rfl))).trans h
  | retransmit o v => exact (Item.retransmit.inj (hread o (by decide) (ht 11 _ (hplace 11 o (by decide))))).2.trans h
  | test _ | clear => trivial

/-- Of items no two of which have one name, each is in force once all are (R190, stage 1). -/
theorem Settings.applyAll_holds {items : List Item} (hn : (items.map Item.name).Nodup) (s : Settings) {i : Item}
    (hi : i ∈ items) : (s.applyAll items).holds i := by
  obtain ⟨as, bs, rfl⟩ := List.append_of_mem hi
  have hall : s.applyAll (as ++ i :: bs) = ((s.applyAll as).apply i).applyAll bs := List.foldl_append ..
  rw [List.map_append, List.nodup_append, List.map_cons, List.nodup_cons] at hn
  obtain ⟨-, ⟨hbs, -⟩, -⟩ := hn
  rw [hall]
  refine ((s.applyAll as).apply_holds i).of_item fun kind index hname => ?_
  rw [hname] at hbs
  exact Settings.item_applyAll_of_notMem _ hbs

/-! ### The close of the commit -/

theorem State.closeCommit_of_committing {s : State} {owner : PortId} {confirmer : Option PortId} {items : List Item}
    (h : s.proposal = .committing owner confirmer items) :
    s.closeCommit.generation = s.generation + 1 ∧ s.closeCommit.proposal = .empty ∧
      s.closeCommit.ports = (s.notifyAll (·.addSettings 3)).ports ∧
      s.closeCommit.store = s.store.join
        (s.followingRecord .station (.commit (s.generation + 1) owner confirmer (items.map Item.name))) := by
  unfold State.closeCommit
  rw [h]
  refine ⟨rfl, rfl, rfl, ?_⟩
  exact Work.join_store_of_oneSender _ .proposal (by simp [Work.event_out])

/-- An event handed over alone is the last of the queue, or is counted as lost where the queue is full (R131, R132). -/
theorem Store.join_event_last (st : Store) (e : EventRecord) :
    (∃ before loss, (st.join { ring := 8, record := .event e }).queue =
        before ++ [{ ring := 8, record := .event { e with loss } }]) ∨
      64 ≤ (st.join { ring := 8, record := .event e }).queue.length ∧
        1 ≤ (st.join { ring := 8, record := .event e }).loss := by
  rcases st.join_cases { ring := 8, record := .event e } with ⟨hfull, h⟩ | ⟨-, e', he, h⟩ | ⟨-, ⟨v, hv⟩, -⟩
  · refine .inr (h ▸ ⟨hfull, ?_⟩)
    dsimp only [satSucc]
    split <;> omega
  · cases he
    exact .inl ⟨_, _, congrArg Store.queue h⟩
  · cases hv

/-- A commit's first stages leave the generation. -/
theorem State.commitStages_generation (s : State) : s.commitStages.generation = s.generation := by
  rcases s.uncommitted_or_committing with h | ⟨_, _, items, h⟩
  · rw [State.commitStages_of_uncommitted h]
  · obtain ⟨_, _, _, _, _, _, _, _, _, _, _, _, _, he, -⟩ := s.applyItems_frame items
    rw [State.commitStages_of_committing h, he]

/-- A second tick comes to the close of its commit with the buffer still COMMITTING, and with the generation and the
time as they stood. -/
theorem tickCounted_of_committing (pulled : Bool) {s : State} {owner : PortId} {confirmer : Option PortId}
    {items : List Item} (h : s.proposal = .committing owner confirmer items) :
    (tickCounted pulled s).st.proposal = .committing owner confirmer items ∧
      (tickCounted pulled s).st.generation = s.generation ∧
      (tickCounted pulled s).st.timebase.time = s.timebase.time := by
  obtain ⟨_, _, _, _, _, _, _, _, hc⟩ := tickCounted_frame pulled s
  obtain ⟨_, _, hd⟩ := tickDecided_frame pulled s
  obtain ⟨_, _, hi, -⟩ := tickInputs_spec s
  obtain ⟨⟨_, htime⟩, -, -⟩ := s.commitStages_timing
  refine ⟨?_, ?_, ?_⟩
  · have hproposal := (tickHanded_proposal pulled s).trans h
    unfold tickCounted
    generalize tickHanded pulled s = w at hproposal ⊢
    obtain ⟨_, _, _, _, _, _, ht⟩ := w.countTest_frame
    have hcount : w.countTest.st.proposal = .committing owner confirmer items := by rw [ht, hproposal]
    unfold Work.countWindows
    rw [hcount]
    exact hcount
  · rw [hc, hd, tickJudged, Work.map_st, State.judgeChannels_generation, hi]
    exact s.commitStages_generation
  · rw [hc, hd, tickJudged, Work.map_st, State.judgeChannels_timebase, hi, htime]

/-- Settles O22: the items are in force from the first stage on, and the tick ends with the close of the commit. -/
theorem commitCloses : Obligations.CommitCloses := by
  intro s pulled owner confirmer items hp
  obtain ⟨hproposal, hgeneration, htime⟩ := tickCounted_of_committing pulled hp
  have hexec := (State.commit_leaves pulled hp (State.like_refl _)).1
  have hset : (secondTick pulled s).settings = s.settings.applyAll items := by
    obtain ⟨_, _, _, _, _, _, _, _, _, _, _, _, _, he, -⟩ := s.applyItems_frame items
    rw [(secondTick_spec pulled s).2.2.1, State.commitStages_of_committing hp, he]
  obtain ⟨hclosed, hempty, hports, hstore⟩ :=
    State.closeCommit_of_committing ((Work.join_proposal _).trans hproposal)
  refine ⟨_, hexec, rfl, hset, fun hn => ⟨fun i hi => ?_, fun kind index hk => ?_⟩, ?_,
    secondTick_proposal pulled (.inr ⟨_, _, _, hp⟩), fun p => ?_, ?_⟩
  · have hholds := Settings.applyAll_holds hn s.settings hi
    rw [← hset] at hholds
    cases i with
    | levels c v =>
      refine Eq.trans hholds ?_
      simp only [LevelsItem.clamped, min_eq_cut]
    | timebase d => exact Eq.trans hholds (min_eq_cut d 3072)
    | _ => exact hholds
  · rw [hset]
    exact Settings.item_applyAll_of_notMem _ hk
  · rw [secondTick, State.endSecond_generation, hclosed, Work.join_generation, hgeneration]
  · have hport : (secondTick pulled s).port p = ((tickCounted pulled s).join.notifyAll (·.addSettings 3)).port p := by
      rw [State.port, secondTick, State.endSecond_ports, hports]
      rfl
    rw [hport, State.port_notifyAll]
    exact ⟨getLsbD_or_right rfl, getLsbD_or_right rfl⟩
  · rw [secondTick, State.endSecond_store, hstore, State.followingRecord, Work.join_generation, hgeneration,
      Work.join_timebase, htime]
    exact Store.join_event_last _ _

end Sys2Proof.Machine
end

section
/-! ## The field bytes of an item (R20, R31, R37, R51, R67, R80, R87, R106, R111, R118, R128, R156, R182, R195) -/

namespace Sys2Proof.Machine

/-! ### What one field's bytes carry -/

theorem flagByte_eq (b : Bool) : flagByte b = [if b then 1 else 0] := by cases b <;> rfl

theorem yesNo_iff {x : Byte} {b : Bool} : yesNo x = some b ↔ x = if b then 1 else 0 := by
  unfold yesNo
  constructor
  · split
    · rintro ⟨⟩
      assumption
    · split
      · rintro ⟨⟩
        assumption
      · nofun
  · rintro rfl
    cases b <;> rfl

theorem nameOf_iff {n : Nat} (hn : n ≤ 256) {x : Byte} {i : Fin n} :
    nameOf n x = some i ↔ x = BitVec.ofNat 8 i.val := by
  constructor
  · unfold nameOf
    split
    · rintro ⟨⟩
      simp
    · nofun
  · rintro rfl
    exact nameOf_nameByte hn i

theorem ranged_iff {lo hi v n : Nat} : ranged lo hi v = some n ↔ v = n ∧ lo ≤ n ∧ n ≤ hi := by
  unfold ranged
  split <;> simp <;> omega

/-- The numbers of `w` bits that a bit vector carries. -/
theorem toNat_eq_iff {w : Nat} {x : BitVec w} {n : Nat} : x.toNat = n ↔ n < 2 ^ w ∧ x = BitVec.ofNat w n := by
  constructor
  · rintro rfl
    exact ⟨x.isLt, by simp⟩
  · rintro ⟨hn, rfl⟩
    rw [BitVec.toNat_ofNat, Nat.mod_eq_of_lt hn]

theorem toNat_append_byte {v : Nat} (x : BitVec v) (y : Byte) : (x ++ y).toNat = x.toNat * 256 + y.toNat := by
  rw [BitVec.toNat_append, ← Nat.shiftLeft_add_eq_or_of_lt y.isLt, Nat.shiftLeft_eq]

theorem toNat_byteAt {v : Nat} (x : BitVec v) (k : Nat) : (x.extractLsb' k 8).toNat = x.toNat / 2 ^ k % 256 := by
  rw [BitVec.extractLsb'_toNat, Nat.shiftRight_eq_div_pow]

/-- Two bytes make up a number exactly when they are its bytes (R193). -/
theorem word2_iff {a b : Byte} {w : BitVec 16} : word2 a b = w ↔ [a, b] = bytes2 w := by
  have := a.isLt
  have := b.isLt
  have := w.isLt
  simp only [word2, bytes2, List.cons.injEq, and_true, ← BitVec.toNat_inj, toNat_append_byte, toNat_byteAt]
  omega

/-- Four bytes make up a number exactly when they are its bytes (R193). -/
theorem word4_iff {a b c d : Byte} {w : BitVec 32} : word4 a b c d = w ↔ [a, b, c, d] = bytes4 w := by
  have := a.isLt
  have := b.isLt
  have := c.isLt
  have := d.isLt
  have := w.isLt
  simp only [word4, bytes4, List.cons.injEq, and_true, ← BitVec.toNat_inj, toNat_append_byte, toNat_byteAt]
  omega

theorem num2_iff {a b : Byte} {n : Nat} : num2 a b = n ↔ n < 65536 ∧ [a, b] = b2 n := by
  rw [num2, toNat_eq_iff, word2_iff]
  rfl

theorem num4_iff {a b c d : Byte} {n : Nat} : num4 a b c d = n ↔ n < 4294967296 ∧ [a, b, c, d] = b4 n := by
  rw [num4, toNat_eq_iff, word4_iff]
  rfl

theorem rangedByte_iff {lo hi : Nat} (h : hi < 256) {x : Byte} {n : Nat} :
    ranged lo hi x.toNat = some n ↔ (lo ≤ n ∧ n ≤ hi) ∧ x = BitVec.ofNat 8 n := by
  rw [ranged_iff, toNat_eq_iff]
  exact ⟨fun ⟨⟨_, hx⟩, hn⟩ => ⟨hn, hx⟩, fun ⟨hn, hx⟩ => ⟨⟨by omega, hx⟩, hn⟩⟩

theorem rangedNum2_iff {lo hi : Nat} (h : hi < 65536) {a b : Byte} {n : Nat} :
    ranged lo hi (num2 a b) = some n ↔ (lo ≤ n ∧ n ≤ hi) ∧ [a, b] = b2 n := by
  rw [ranged_iff, num2_iff]
  exact ⟨fun ⟨⟨_, hx⟩, hn⟩ => ⟨hn, hx⟩, fun ⟨hn, hx⟩ => ⟨⟨by omega, hx⟩, hn⟩⟩

theorem rangedNum4_iff {lo hi : Nat} (h : hi < 4294967296) {a b c d : Byte} {n : Nat} :
    ranged lo hi (num4 a b c d) = some n ↔ (lo ≤ n ∧ n ≤ hi) ∧ [a, b, c, d] = b4 n := by
  rw [ranged_iff, num4_iff]
  exact ⟨fun ⟨⟨_, hx⟩, hn⟩ => ⟨hn, hx⟩, fun ⟨hn, hx⟩ => ⟨⟨by omega, hx⟩, hn⟩⟩

theorem current_iff {a b c d : Byte} {v : Int} :
    current (word4 a b c d) = some v ↔ (-131071 ≤ v ∧ v ≤ 131071) ∧ [a, b, c, d] = s4 v := by
  rw [s4, ← word4_iff]
  generalize word4 a b c d = w
  unfold current
  constructor
  · split
    · rintro ⟨⟩
      exact ⟨‹_›, by simp⟩
    · nofun
  · rintro ⟨hv, rfl⟩
    have hw : (BitVec.ofInt 32 v).toInt = v := by
      rw [BitVec.toInt_ofInt, Int.bmod_eq_of_le] <;> omega
    rw [hw, if_pos hv]

theorem yesNo_flag (b : Bool) : yesNo (if b then 1 else 0) = some b := yesNo_iff.mpr rfl

theorem rangedByte {lo hi n : Nat} (hn : lo ≤ n ∧ n ≤ hi) (h : hi < 256) :
    ranged lo hi (BitVec.ofNat 8 n).toNat = some n := (rangedByte_iff h).mpr ⟨hn, rfl⟩

/-- Numbers one after another, four bytes each. -/
theorem numbers4_iff {fs : List Byte} {ns : List Nat} :
    numbers4 fs = some ns ↔ (∀ n ∈ ns, n < 4294967296) ∧ fs = ns.flatMap b4 := by
  constructor
  · intro h
    fun_induction numbers4 fs generalizing ns with
    | case1 =>
      cases h
      simp
    | case2 a b c d rest ih =>
      obtain ⟨ms, hms, rfl⟩ := Option.map_eq_some_iff.mp h
      obtain ⟨hall, rfl⟩ := ih hms
      obtain ⟨hn, hfs⟩ := num4_iff.mp (Eq.refl (num4 a b c d))
      refine ⟨List.forall_mem_cons.mpr ⟨hn, hall⟩, ?_⟩
      rw [List.flatMap_cons, ← hfs]
      rfl
    | case3 => cases h
  · rintro ⟨hall, rfl⟩
    induction ns with
    | nil => rfl
    | cons n ns ih =>
      obtain ⟨hn, hns⟩ := List.forall_mem_cons.mp hall
      have hfirst : ∀ rest, numbers4 (b4 n ++ rest) = (numbers4 rest).map (n :: ·) := fun rest => by
        obtain ⟨a, b, c, d, hb⟩ : ∃ a b c d, b4 n = [a, b, c, d] := ⟨_, _, _, _, rfl⟩
        rw [hb, ← num4_iff.mpr ⟨hn, hb.symm⟩]
        rfl
      rw [List.flatMap_cons, hfirst, ih hns]
      rfl

theorem numbers2_iff {fs : List Byte} {ns : List Nat} :
    numbers2 fs = some ns ↔ (∀ n ∈ ns, n < 65536) ∧ fs = ns.flatMap b2 := by
  constructor
  · intro h
    fun_induction numbers2 fs generalizing ns with
    | case1 =>
      cases h
      simp
    | case2 a b rest ih =>
      obtain ⟨ms, hms, rfl⟩ := Option.map_eq_some_iff.mp h
      obtain ⟨hall, rfl⟩ := ih hms
      obtain ⟨hn, hfs⟩ := num2_iff.mp (Eq.refl (num2 a b))
      refine ⟨List.forall_mem_cons.mpr ⟨hn, hall⟩, ?_⟩
      rw [List.flatMap_cons, ← hfs]
      rfl
    | case3 => cases h
  · rintro ⟨hall, rfl⟩
    induction ns with
    | nil => rfl
    | cons n ns ih =>
      obtain ⟨hn, hns⟩ := List.forall_mem_cons.mp hall
      have hfirst : ∀ rest, numbers2 (b2 n ++ rest) = (numbers2 rest).map (n :: ·) := fun rest => by
        obtain ⟨a, b, hb⟩ : ∃ a b, b2 n = [a, b] := ⟨_, _, rfl⟩
        rw [hb, ← num2_iff.mpr ⟨hn, hb.symm⟩]
        rfl
      rw [List.flatMap_cons, hfirst, ih hns]
      rfl

/-! ### What the fields of a kind carry -/

theorem readSecondary_iff {x y z : Byte} {m : Option (Fin 8 × Bool)} :
    readSecondary x y z = some m ↔
      (m = none ∧ x = 0) ∨ ∃ (n : Fin 8) (plus : Bool), m = some (n, plus) ∧ x = 1 ∧ nameOf 8 y = some n ∧
        yesNo z = some (!plus) := by
  unfold readSecondary
  constructor
  · split
    · rintro ⟨⟩
      exact .inl ⟨rfl, ‹_›⟩
    · split
      · split
        · next n minus hn hminus =>
          rintro ⟨⟩
          exact .inr ⟨n, !minus, rfl, ‹_›, hn, by rw [Bool.not_not, hminus]⟩
        · nofun
      · nofun
  · rintro (⟨rfl, rfl⟩ | ⟨n, plus, rfl, rfl, hn, hplus⟩)
    · rfl
    · rw [hn, hplus]
      simp

/-- The three bytes of a secondary input that is in range beside a primary one (R31, log 15). -/
def secondaryBytes (primary : Fin 8) (secondary : Option (Fin 8 × Bool)) (bytes : List Byte) : Prop :=
  (secondary = none ∧ ∃ y z, bytes = [0, y, z]) ∨
    ∃ (n : Fin 8) (plus : Bool), n ≠ primary ∧ secondary = some (n, plus) ∧ bytes = b1 1 ++ b1 n.val ++ flagByte (!plus)

theorem secondaryBytes_iff {p : Fin 8} {m : Option (Fin 8 × Bool)} {x y z : Byte} :
    secondaryBytes p m [x, y, z] ↔ readSecondary x y z = some m ∧ (m.any fun s => s.1 = p) = false := by
  rw [readSecondary_iff, secondaryBytes]
  constructor
  · rintro (⟨rfl, _, _, h⟩ | ⟨n, plus, hne, rfl, h⟩)
    · cases h
      exact ⟨.inl ⟨rfl, rfl⟩, rfl⟩
    · rw [flagByte_eq] at h
      cases h
      exact ⟨.inr ⟨n, plus, rfl, rfl, nameOf_nameByte (by decide) n, yesNo_flag _⟩, by simpa using hne⟩
  · rintro ⟨⟨rfl, rfl⟩ | ⟨n, plus, rfl, rfl, hn, hplus⟩, hne⟩
    · exact .inl ⟨rfl, y, z, rfl⟩
    · rw [nameOf_iff (by decide)] at hn
      rw [yesNo_iff] at hplus
      exact .inr ⟨n, plus, by simpa using hne, rfl, by rw [flagByte_eq, hn, hplus]; rfl⟩

theorem readMap_iff {fs : List Byte} {v : MapItem} :
    readMap fs = some v ↔ ∃ rest, fs = flagByte v.enabled ++ b1 v.primary.val ++ rest ∧
      secondaryBytes v.primary v.secondary rest := by
  constructor
  · intro h
    unfold readMap at h
    split at h
    · next e p x y z =>
      split at h
      · next enabled primary secondary he hp hs =>
        split at h
        · cases h
        · next hne =>
          cases h
          rw [yesNo_iff] at he
          rw [nameOf_iff (by decide)] at hp
          exact ⟨[x, y, z], by rw [flagByte_eq, he, hp]; rfl, secondaryBytes_iff.mpr ⟨hs, by simpa using hne⟩⟩
      · cases h
    · cases h
  · rintro ⟨rest, rfl, hrest⟩
    obtain ⟨x, y, z, rfl⟩ : ∃ x y z, rest = [x, y, z] := by
      rcases hrest with ⟨-, y, z, h⟩ | ⟨n, plus, -, -, h⟩
      · exact ⟨_, y, z, h⟩
      · exact ⟨_, _, _, h⟩
    obtain ⟨hs, hne⟩ := secondaryBytes_iff.mp hrest
    rw [flagByte_eq]
    simp only [readMap, b1, List.cons_append, List.nil_append, yesNo_flag,
      nameOf_nameByte (show 8 ≤ 256 by decide), hs, hne]
    rfl

theorem readAnalysis_iff {fs : List Byte} {v : AnalysisItem} :
    readAnalysis fs = some v ↔
      (8 ≤ v.baselineShift ∧ v.baselineShift ≤ 14) ∧ (2 ≤ v.decayShift ∧ v.decayShift ≤ 8) ∧
        (2 ≤ v.staleLimit ∧ v.staleLimit ≤ 60) ∧
        fs = b1 v.baselineShift ++ flagByte (v.startMode == .learn) ++ b1 v.decayShift ++ b1 v.staleLimit := by
  constructor
  · intro h
    unfold readAnalysis at h
    split at h
    · split at h
      · next k learn j limit hk hlearn hj hlimit =>
        cases h
        rw [rangedByte_iff (by decide)] at hk hj hlimit
        rw [yesNo_iff] at hlearn
        refine ⟨hk.1, hj.1, hlimit.1, ?_⟩
        rw [hk.2, hj.2, hlimit.2, hlearn]
        cases learn <;> rfl
      · cases h
    · cases h
  · rintro ⟨hk, hj, hlimit, rfl⟩
    rw [flagByte_eq]
    simp only [readAnalysis, b1, List.cons_append, List.nil_append, yesNo_flag, rangedByte hk (by decide),
      rangedByte hj (by decide), rangedByte hlimit (by decide)]
    cases v with
    | mk k mode j limit => cases mode <;> rfl

theorem readLevels_iff {fs : List Byte} {v : LevelsItem} :
    readLevels fs = some v ↔
      (v.excT ≤ 131071 ∧ v.excH ≤ 131071 ∧ v.warnT ≤ 131071 ∧ v.warnH ≤ 131071 ∧ v.alarmT ≤ 131071 ∧
        v.alarmH ≤ 131071) ∧
        fs = b4 v.excT ++ b4 v.excH ++ b4 v.warnT ++ b4 v.warnH ++ b4 v.alarmT ++ b4 v.alarmH := by
  constructor
  · intro h
    unfold readLevels at h
    split at h
    · next hfs =>
      split at h
      · next hall =>
        cases h
        rw [numbers4_iff] at hfs
        exact ⟨by simpa using hall, by simpa using hfs.2⟩
      · cases h
    · cases h
  · rintro ⟨hv, rfl⟩
    have hfs : numbers4 (b4 v.excT ++ b4 v.excH ++ b4 v.warnT ++ b4 v.warnH ++ b4 v.alarmT ++ b4 v.alarmH) =
        some [v.excT, v.excH, v.warnT, v.warnH, v.alarmT, v.alarmH] :=
      numbers4_iff.mpr ⟨by
        simp only [List.forall_mem_cons, List.not_mem_nil, false_implies, implies_true, and_true]
        omega, by simp⟩
    rw [readLevels, hfs]
    simp [hv]

theorem readExposure_iff {fs : List Byte} {v : ExposureItem} :
    readExposure fs = some v ↔
      (v.knee ≤ 131071 ∧ v.cooling ≤ 131071 ∧ 1 ≤ v.limit ∧ v.limit ≤ 1000000000) ∧
        fs = b4 v.knee ++ b4 v.cooling ++ b4 v.limit := by
  constructor
  · intro h
    unfold readExposure at h
    split at h
    · next hfs =>
      split at h
      · next hall =>
        cases h
        rw [numbers4_iff] at hfs
        exact ⟨hall, by simpa using hfs.2⟩
      · cases h
    · cases h
  · rintro ⟨hv, rfl⟩
    have hfs : numbers4 (b4 v.knee ++ b4 v.cooling ++ b4 v.limit) = some [v.knee, v.cooling, v.limit] :=
      numbers4_iff.mpr ⟨by
        simp only [List.forall_mem_cons, List.not_mem_nil, false_implies, implies_true, and_true]
        omega, by simp⟩
    rw [readExposure, hfs]
    simp [hv]

theorem readLink_iff {fs : List Byte} {v : LinkItem} :
    readLink fs = some v ↔ fs = flagByte v.enabled ++ b1 v.address.toNat := by
  constructor
  · intro h
    unfold readLink at h
    split at h
    · split at h
      · next enabled address he ha =>
        cases h
        rw [yesNo_iff] at he
        rw [nameOf_iff (by decide)] at ha
        rw [flagByte_eq, he, ha]
        rfl
      · cases h
    · cases h
  · rintro rfl
    rw [flagByte_eq]
    have haddress : nameOf 8 (BitVec.ofNat 8 v.address.toNat) = some v.address.toFin :=
      nameOf_nameByte (by decide) v.address.toFin
    simp only [readLink, b1, List.cons_append, List.nil_append, yesNo_flag]
    rw [haddress]

theorem readPolicy_iff {fs : List Byte} {v : PolicyItem} :
    readPolicy fs = some v ↔ fs = flagByte v.warn ++ flagByte v.alarm ++ flagByte v.exposure ++ flagByte v.data := by
  simp only [flagByte_eq]
  constructor
  · intro h
    unfold readPolicy at h
    split at h
    · split at h
      · next hw ha he hd =>
        cases h
        rw [yesNo_iff] at hw ha he hd
        rw [hw, ha, he, hd]
        rfl
      · cases h
    · cases h
  · rintro rfl
    simp only [readPolicy, List.cons_append, List.nil_append, yesNo_flag]

theorem LineMode.getD_byte (m : Fin 3) : ([LineMode.active, .unack, .any].getD m .active).byte = m.val := by
  revert m
  decide

theorem LineMode.nameOf_byte (v : LineMode) :
    ∃ m, nameOf 3 (BitVec.ofNat 8 v.byte) = some m ∧ [LineMode.active, .unack, .any].getD m .active = v := by
  cases v
  · exact ⟨0, rfl, rfl⟩
  · exact ⟨1, rfl, rfl⟩
  · exact ⟨2, rfl, rfl⟩

theorem readOutput_iff {fs : List Byte} {v : OutputItem} :
    readOutput fs = some v ↔
      fs = [v.channels] ++ b1 v.kinds.toNat ++ b1 v.mode.byte ++ flagByte v.includeTest ++ flagByte v.failsafe := by
  simp only [flagByte_eq]
  constructor
  · intro h
    unfold readOutput at h
    split at h
    · split at h
      · next k m test polarity hk hm ht hp =>
        cases h
        rw [rangedByte_iff (by decide)] at hk
        rw [nameOf_iff (by decide)] at hm
        rw [yesNo_iff] at ht hp
        dsimp only
        rw [LineMode.getD_byte, BitVec.toNat_ofNat, Nat.mod_eq_of_lt (Nat.lt_succ_of_le hk.1.2), hk.2, hm, ht, hp]
        rfl
      · cases h
    · cases h
  · rintro rfl
    have hk : 0 ≤ v.kinds.toNat ∧ v.kinds.toNat ≤ 15 := ⟨Nat.zero_le _, Nat.le_of_lt_succ v.kinds.isLt⟩
    obtain ⟨m, hm, hmode⟩ := v.mode.nameOf_byte
    simp only [readOutput, b1, List.cons_append, List.nil_append, yesNo_flag, rangedByte hk (by decide), hm, hmode]
    rw [BitVec.ofNat_toNat, BitVec.setWidth_eq]

theorem readStation_iff {fs : List Byte} {v : StationItem} :
    readStation fs = some v ↔
      (1 ≤ v.stormCount ∧ v.stormCount ≤ 8) ∧ v.stormHold ≤ 3600 ∧
        fs = b1 v.stormCount ++ b2 v.stormHold ++ flagByte v.joinExternal ++ flagByte v.drivePin := by
  simp only [flagByte_eq]
  constructor
  · intro h
    unfold readStation at h
    split at h
    · split at h
      · next hc hh hj hd =>
        cases h
        rw [rangedByte_iff (by decide)] at hc
        rw [rangedNum2_iff (by decide)] at hh
        rw [yesNo_iff] at hj hd
        refine ⟨hc.1, hh.1.2, ?_⟩
        dsimp only
        rw [← hh.2, hc.2, hj, hd]
        rfl
      · cases h
    · cases h
  · rintro ⟨hc, hh, rfl⟩
    obtain ⟨a, b, hb⟩ : ∃ a b, b2 v.stormHold = [a, b] := ⟨_, _, rfl⟩
    have hhold := (rangedNum2_iff (lo := 0) (hi := 3600) (by decide)).mpr ⟨⟨Nat.zero_le _, hh⟩, hb.symm⟩
    rw [hb]
    simp only [readStation, b1, List.cons_append, List.nil_append, yesNo_flag, rangedByte hc (by decide), hhold]

theorem readRecording_iff {fs : List Byte} {v : RecordingItem} :
    readRecording fs = some v ↔
      (10 ≤ v.normal ∧ v.normal ≤ 3600 ∧ 1 ≤ v.storm ∧ v.storm ≤ 600) ∧ fs = b2 v.normal ++ b2 v.storm := by
  constructor
  · intro h
    unfold readRecording at h
    split at h
    · next hfs =>
      split at h
      · next hall =>
        cases h
        rw [numbers2_iff] at hfs
        exact ⟨hall, by simpa using hfs.2⟩
      · cases h
    · cases h
  · rintro ⟨hv, rfl⟩
    have hfs : numbers2 (b2 v.normal ++ b2 v.storm) = some [v.normal, v.storm] :=
      numbers2_iff.mpr ⟨by
        simp only [List.forall_mem_cons, List.not_mem_nil, false_implies, implies_true, and_true]
        omega, by simp⟩
    rw [readRecording, hfs]
    simp [hv]

theorem readPartition_iff {fs : List Byte} {sizes : Tab 8 Nat} :
    readPartition fs = some sizes ↔
      (∀ c, nth sizes c = 0 ∨ 16 ≤ nth sizes c ∧ nth sizes c ≤ 3840) ∧
        fs = (List.finRange 8).flatMap fun c => b2 (nth sizes c) := by
  constructor
  · intro h
    unfold readPartition at h
    split at h
    · next l hl =>
      split at h
      · next hall =>
        cases h
        obtain ⟨hlen, hsizes⟩ := hall
        have hplaces : l = (List.finRange 8).map fun c => l.getD c.val 0 :=
          List.ext_getElem (by simp [hlen]) fun i hi _ => by simp [List.getElem?_eq_getElem hi]
        refine ⟨fun c => ?_, ?_⟩
        · rw [nth_tab]
          have hmem : l.getD c.val 0 ∈ l := by
            rw [List.getD_eq_getElem _ _ (by omega)]
            exact List.getElem_mem _
          simpa using List.all_eq_true.mp hsizes _ hmem
        · rw [(numbers2_iff.mp hl).2]
          conv_lhs => rw [hplaces, List.flatMap_map]
          simp only [nth_tab]
      · cases h
    · cases h
  · rintro ⟨hv, rfl⟩
    have hfs : numbers2 ((List.finRange 8).flatMap fun c => b2 (nth sizes c)) =
        some ((List.finRange 8).map fun c => nth sizes c) :=
      numbers2_iff.mpr ⟨fun n hn => by
        obtain ⟨c, -, rfl⟩ := List.mem_map.mp hn
        have := hv c
        omega, by rw [List.flatMap_map]⟩
    have hall : (((List.finRange 8).map fun c => nth sizes c).all fun z => z = 0 ∨ 16 ≤ z ∧ z ≤ 3840) = true := by
      simpa using hv
    rw [readPartition, hfs]
    dsimp only
    rw [if_pos ⟨by simp, hall⟩]
    refine congrArg some (tab_ext fun c => ?_)
    simp

theorem readTimebase_iff {fs : List Byte} {d : Nat} : readTimebase fs = some d ↔ d ≤ 4095 ∧ fs = b2 d := by
  constructor
  · intro h
    unfold readTimebase at h
    split at h
    · rw [rangedNum2_iff (by decide)] at h
      exact ⟨h.1.2, h.2⟩
    · cases h
  · rintro ⟨hd, rfl⟩
    exact (rangedNum2_iff (by decide)).mpr ⟨⟨Nat.zero_le d, hd⟩, rfl⟩

theorem readSource_iff {x : Byte} {v : PwmSource} : readSource x = some v ↔ x = BitVec.ofNat 8 v.byte := by
  constructor
  · unfold readSource
    split
    · rintro ⟨⟩
      assumption
    · intro h
      obtain ⟨c, hc, rfl⟩ := Option.map_eq_some_iff.mp h
      exact (nameOf_iff (by decide)).mp hc
  · rintro rfl
    cases v with
    | stationPeak => rfl
    | channel c =>
      have hc : BitVec.ofNat 8 c.val ≠ 8#8 := fun e => by
        have := congrArg BitVec.toNat e
        rw [toNat_nameByte (by decide)] at this
        exact absurd this (Nat.ne_of_lt c.isLt)
      rw [readSource, PwmSource.byte, if_neg hc, nameOf_nameByte (by decide)]
      rfl

theorem PwmMode.getD_byte (m : Fin 3) : ([PwmMode.off, .offset, .split].getD m .off).byte = m.val := by
  revert m
  decide

theorem PwmMode.nameOf_byte (v : PwmMode) :
    ∃ m, nameOf 3 (BitVec.ofNat 8 v.byte) = some m ∧ [PwmMode.off, .offset, .split].getD m .off = v := by
  cases v
  · exact ⟨0, rfl, rfl⟩
  · exact ⟨1, rfl, rfl⟩
  · exact ⟨2, rfl, rfl⟩

theorem readRetransmit_iff {fs : List Byte} {v : RetransmitItem} :
    readRetransmit fs = some v ↔
      (1 ≤ v.fullScale ∧ v.fullScale ≤ 131071) ∧ v.prescale ∈ [1, 2, 4, 8, 16] ∧
        fs = b1 v.mode.byte ++ b1 v.source.byte ++ b4 v.fullScale ++ b1 v.prescale ++ flagByte v.signal := by
  simp only [flagByte_eq]
  constructor
  · intro h
    unfold readRetransmit at h
    split at h
    · split at h
      · next hm hs hf hy =>
        split at h
        · next hp =>
          cases h
          rw [nameOf_iff (by decide)] at hm
          rw [readSource_iff] at hs
          rw [rangedNum4_iff (by decide)] at hf
          rw [yesNo_iff] at hy
          refine ⟨hf.1, by simpa using hp, ?_⟩
          dsimp only
          rw [PwmMode.getD_byte, ← hf.2, hm, hs, hy]
          simp [b1]
        · cases h
      · cases h
    · cases h
  · rintro ⟨hf, hp, rfl⟩
    obtain ⟨a, b, c, d, hb⟩ : ∃ a b c d, b4 v.fullScale = [a, b, c, d] := ⟨_, _, _, _, rfl⟩
    have hscale := (rangedNum4_iff (lo := 1) (hi := 131071) (by decide)).mpr ⟨hf, hb.symm⟩
    obtain ⟨m, hm, hmode⟩ := v.mode.nameOf_byte
    have hprescale : (BitVec.ofNat 8 v.prescale).toNat = v.prescale := by
      rw [BitVec.toNat_ofNat, Nat.mod_eq_of_lt]
      simp only [List.mem_cons, List.not_mem_nil, or_false] at hp
      omega
    rw [hb]
    simp only [readRetransmit, b1, List.cons_append, List.nil_append, yesNo_flag, hscale, readSource_iff.mpr rfl, hm,
      hmode, hprescale, List.contains_iff_mem.mpr hp, if_true]

theorem TestForm.getD_byte (m : Fin 4) : ([TestForm.level, .ramp, .square, .prbs].getD m .level).byte = m.val := by
  revert m
  decide

theorem TestForm.nameOf_byte (v : TestForm) :
    ∃ m, nameOf 4 (BitVec.ofNat 8 v.byte) = some m ∧ [TestForm.level, .ramp, .square, .prbs].getD m .level = v := by
  cases v
  · exact ⟨0, rfl, rfl⟩
  · exact ⟨1, rfl, rfl⟩
  · exact ⟨2, rfl, rfl⟩
  · exact ⟨3, rfl, rfl⟩

/-- The seed bytes of a TEST item give the seed, and 0 gives 1 (R37, log 34). -/
theorem readTest_iff {fs : List Byte} {v : TestItem} :
    readTest fs = some v ↔
      v.inputs ≠ 0 ∧ (-131071 ≤ v.amplitude ∧ v.amplitude ≤ 131071) ∧ (-131071 ≤ v.slope ∧ v.slope ≤ 131071) ∧
        (1 ≤ v.halfPeriod ∧ v.halfPeriod ≤ 4095) ∧ (1 ≤ v.duration ∧ v.duration ≤ 3600) ∧
        ∃ seed ≤ 32767, v.seed = BitVec.ofNat 15 (if seed = 0 then 1 else seed) ∧
          fs = [v.inputs] ++ b1 v.form.byte ++ s4 v.amplitude ++ s4 v.slope ++ b2 v.halfPeriod ++ b2 seed ++
            b2 v.duration := by
  constructor
  · intro h
    unfold readTest at h
    split at h
    · split at h
      · next hm ha hs hp he hd =>
        split at h
        · cases h
        · next hi =>
          cases h
          rw [nameOf_iff (by decide)] at hm
          rw [current_iff] at ha hs
          rw [rangedNum2_iff (by decide)] at hp he hd
          refine ⟨hi, ha.1, hs.1, hp.1, hd.1, _, he.1.2, rfl, ?_⟩
          dsimp only
          rw [TestForm.getD_byte, ← ha.2, ← hs.2, ← hp.2, ← he.2, ← hd.2, hm]
          rfl
      · cases h
    · cases h
  · rintro ⟨hi, ha, hs, hp, hd, seed, he, hseed, rfl⟩
    obtain ⟨m, hm, hform⟩ := v.form.nameOf_byte
    obtain ⟨a3, a2, a1, a0, hab⟩ : ∃ a b c d, s4 v.amplitude = [a, b, c, d] := ⟨_, _, _, _, rfl⟩
    obtain ⟨s3, s2, s1, s0, hsb⟩ : ∃ a b c d, s4 v.slope = [a, b, c, d] := ⟨_, _, _, _, rfl⟩
    obtain ⟨p1, p0, hpb⟩ : ∃ a b, b2 v.halfPeriod = [a, b] := ⟨_, _, rfl⟩
    obtain ⟨e1, e0, heb⟩ : ∃ a b, b2 seed = [a, b] := ⟨_, _, rfl⟩
    obtain ⟨d1, d0, hdb⟩ : ∃ a b, b2 v.duration = [a, b] := ⟨_, _, rfl⟩
    have hamplitude := current_iff.mpr ⟨ha, hab.symm⟩
    have hslope := current_iff.mpr ⟨hs, hsb.symm⟩
    have hhalf := (rangedNum2_iff (lo := 1) (hi := 4095) (by decide)).mpr ⟨hp, hpb.symm⟩
    have hseeds := (rangedNum2_iff (lo := 0) (hi := 32767) (by decide)).mpr ⟨⟨Nat.zero_le seed, he⟩, heb.symm⟩
    have hduration := (rangedNum2_iff (lo := 1) (hi := 3600) (by decide)).mpr ⟨hd, hdb.symm⟩
    rw [hab, hsb, hpb, heb, hdb]
    simp only [readTest, b1, List.cons_append, List.nil_append, hm, hform, hamplitude, hslope, hhalf, hseeds, hduration]
    rw [← hseed]
    exact if_neg hi

/-! ### The kinds together -/

theorem indexed_iff {n : Nat} (hn : n ≤ 256) {α : Type} {index : Byte} {x : Option α} {f : Fin n → α → Item}
    {i : Item} : indexed n index x f = some i ↔ ∃ c v, index = BitVec.ofNat 8 c.val ∧ x = some v ∧ i = f c v := by
  unfold indexed
  constructor
  · split
    · next c v hc =>
      rintro ⟨⟩
      exact ⟨c, v, (nameOf_iff hn).mp hc, rfl, rfl⟩
    · nofun
  · rintro ⟨c, v, rfl, rfl, rfl⟩
    rw [nameOf_nameByte hn]

theorem onlyZero_map_iff {α : Type} {index : Byte} {x : Option α} {f : α → Item} {i : Item} :
    onlyZero index (x.map f) = some i ↔ ∃ v, index = 0 ∧ x = some v ∧ i = f v := by
  unfold onlyZero
  split
  · simp [*, eq_comm]
  · simp [*]

/-- The MAP items that a DRAFT ITEM can carry (R31). -/
theorem drafted_map {index : Byte} {fs : List Byte} {i : Item} :
    indexed 8 index (readMap fs) .map = some i ↔
      ∃ (c p : Fin 8) (enabled : Bool) (rest : List Byte) (secondary : Option (Fin 8 × Bool)),
        index = BitVec.ofNat 8 c.val ∧ fs = flagByte enabled ++ b1 p.val ++ rest ∧ secondaryBytes p secondary rest ∧
          i = .map c { enabled, primary := p, secondary } := by
  simp only [indexed_iff (show 8 ≤ 256 by decide), readMap_iff]
  constructor
  · rintro ⟨c, v, hindex, ⟨rest, hfs, hrest⟩, hi⟩
    exact ⟨c, v.primary, v.enabled, rest, v.secondary, hindex, hfs, hrest, hi⟩
  · rintro ⟨c, p, enabled, rest, secondary, hindex, hfs, hrest, hi⟩
    exact ⟨c, _, hindex, ⟨rest, hfs, hrest⟩, hi⟩

/-- The ANALYSIS items that a DRAFT ITEM can carry (R51). -/
theorem drafted_analysis {index : Byte} {fs : List Byte} {i : Item} :
    indexed 8 index (readAnalysis fs) .analysis = some i ↔
      ∃ (c : Fin 8) (k j limit : Nat) (learn : Bool), index = BitVec.ofNat 8 c.val ∧ 8 ≤ k ∧ k ≤ 14 ∧ 2 ≤ j ∧ j ≤ 8 ∧
        2 ≤ limit ∧ limit ≤ 60 ∧ fs = b1 k ++ flagByte learn ++ b1 j ++ b1 limit ∧
        i = .analysis c
          { baselineShift := k, startMode := if learn then .learn else .zero, decayShift := j
            staleLimit := limit } := by
  simp only [indexed_iff (show 8 ≤ 256 by decide), readAnalysis_iff]
  constructor
  · rintro ⟨c, ⟨k, mode, j, limit⟩, hindex, ⟨⟨hk, hk'⟩, ⟨hj, hj'⟩, ⟨hl, hl'⟩, hfs⟩, hi⟩
    refine ⟨c, k, j, limit, mode == .learn, hindex, hk, hk', hj, hj', hl, hl', hfs, hi.trans ?_⟩
    cases mode <;> rfl
  · rintro ⟨c, k, j, limit, learn, hindex, hk, hk', hj, hj', hl, hl', hfs, hi⟩
    refine ⟨c, _, hindex, ⟨⟨hk, hk'⟩, ⟨hj, hj'⟩, ⟨hl, hl'⟩, hfs.trans ?_⟩, hi⟩
    cases learn <;> rfl

/-- The LINK items that a DRAFT ITEM can carry (R182). -/
theorem drafted_link {index : Byte} {fs : List Byte} {i : Item} :
    indexed 8 index (readLink fs) .link = some i ↔
      ∃ (n address : Fin 8) (enabled : Bool), index = BitVec.ofNat 8 n.val ∧
        fs = flagByte enabled ++ b1 address.val ∧ i = .link n { enabled, address := BitVec.ofFin address } := by
  simp only [indexed_iff (show 8 ≤ 256 by decide), readLink_iff]
  constructor
  · rintro ⟨n, v, hindex, hfs, hi⟩
    exact ⟨n, v.address.toFin, v.enabled, hindex, hfs, hi⟩
  · rintro ⟨n, address, enabled, hindex, hfs, hi⟩
    exact ⟨n, _, hindex, hfs, hi⟩

/-- The TEST items that a DRAFT ITEM can carry (R37). -/
theorem drafted_test {index : Byte} {fs : List Byte} {i : Item} :
    onlyZero index ((readTest fs).map .test) = some i ↔
      ∃ (v : TestItem) (seed : Nat), index = 0 ∧ v.inputs ≠ 0 ∧ -131071 ≤ v.amplitude ∧ v.amplitude ≤ 131071 ∧
        -131071 ≤ v.slope ∧ v.slope ≤ 131071 ∧ 1 ≤ v.halfPeriod ∧ v.halfPeriod ≤ 4095 ∧ seed ≤ 32767 ∧
        v.seed = BitVec.ofNat 15 (if seed = 0 then 1 else seed) ∧ 1 ≤ v.duration ∧ v.duration ≤ 3600 ∧
        fs = [v.inputs] ++ b1 v.form.byte ++ s4 v.amplitude ++ s4 v.slope ++ b2 v.halfPeriod ++ b2 seed ++
          b2 v.duration ∧
        i = .test v := by
  simp only [onlyZero_map_iff, readTest_iff]
  constructor
  · rintro ⟨v, hindex, ⟨hinputs, ⟨ha, ha'⟩, ⟨hs, hs'⟩, ⟨hp, hp'⟩, ⟨hd, hd'⟩, seed, hseed, hv, hfs⟩, hi⟩
    exact ⟨v, seed, hindex, hinputs, ha, ha', hs, hs', hp, hp', hseed, hv, hd, hd', hfs, hi⟩
  · rintro ⟨v, seed, hindex, hinputs, ha, ha', hs, hs', hp, hp', hseed, hv, hd, hd', hfs, hi⟩
    exact ⟨v, hindex, ⟨hinputs, ⟨ha, ha'⟩, ⟨hs, hs'⟩, ⟨hp, hp'⟩, ⟨hd, hd'⟩, seed, hseed, hv, hfs⟩, hi⟩

theorem drafted_clear {index : Byte} {fs : List Byte} {i : Item} :
    onlyZero index (if fs = [] then some .clear else none) = some i ↔ index = 0 ∧ fs = [] ∧ i = .clear := by
  unfold onlyZero
  split
  · split <;> simp [*, eq_comm]
  · simp [*]

/-- Settles O50: of the fourteen kinds only the one that the code names has a say, and its field bytes are those that
carry values within its ranges. -/
theorem itemRanges : Obligations.ItemRanges := by
  intro kind index fields i
  unfold readItem
  dsimp only
  split
  · next h =>
    obtain rfl : kind = 0#8 := BitVec.eq_of_toNat_eq h
    simp only [BitVec.reduceEq, false_and, or_false, true_and]
    simp only [drafted_map, secondaryBytes, flagByte_eq]
    exact Iff.rfl
  · next h =>
    obtain rfl : kind = 1#8 := BitVec.eq_of_toNat_eq h
    simp only [BitVec.reduceEq, false_and, or_false, false_or, true_and]
    simp only [drafted_analysis, flagByte_eq]
    exact Iff.rfl
  · next h =>
    obtain rfl : kind = 2#8 := BitVec.eq_of_toNat_eq h
    simp only [BitVec.reduceEq, false_and, or_false, false_or, true_and]
    simp only [indexed_iff (show 8 ≤ 256 by decide), readLevels_iff, and_assoc]
    exact Iff.rfl
  · next h =>
    obtain rfl : kind = 3#8 := BitVec.eq_of_toNat_eq h
    simp only [BitVec.reduceEq, false_and, or_false, false_or, true_and]
    simp only [indexed_iff (show 8 ≤ 256 by decide), readExposure_iff, and_assoc]
    exact Iff.rfl
  · next h =>
    obtain rfl : kind = 4#8 := BitVec.eq_of_toNat_eq h
    simp only [BitVec.reduceEq, false_and, or_false, false_or, true_and]
    simp only [drafted_link, flagByte_eq]
    exact Iff.rfl
  · next h =>
    obtain rfl : kind = 5#8 := BitVec.eq_of_toNat_eq h
    simp only [BitVec.reduceEq, false_and, or_false, false_or, true_and]
    simp only [onlyZero_map_iff, readPolicy_iff, flagByte_eq]
    exact Iff.rfl
  · next h =>
    obtain rfl : kind = 6#8 := BitVec.eq_of_toNat_eq h
    simp only [BitVec.reduceEq, false_and, or_false, false_or, true_and]
    simp only [indexed_iff (show 4 ≤ 256 by decide), readOutput_iff, flagByte_eq]
    refine exists_congr fun l => exists_congr fun ⟨channels, kinds, mode, includeTest, failsafe⟩ => ?_
    cases mode <;> exact Iff.rfl
  · next h =>
    obtain rfl : kind = 7#8 := BitVec.eq_of_toNat_eq h
    simp only [BitVec.reduceEq, false_and, or_false, false_or, true_and]
    simp only [onlyZero_map_iff, readStation_iff, flagByte_eq, and_assoc]
    exact Iff.rfl
  · next h =>
    obtain rfl : kind = 8#8 := BitVec.eq_of_toNat_eq h
    simp only [BitVec.reduceEq, false_and, or_false, false_or, true_and]
    simp only [onlyZero_map_iff, readRecording_iff, and_assoc]
    exact Iff.rfl
  · next h =>
    obtain rfl : kind = 9#8 := BitVec.eq_of_toNat_eq h
    simp only [BitVec.reduceEq, false_and, or_false, false_or, true_and]
    simp only [onlyZero_map_iff, readPartition_iff, and_assoc]
    exact Iff.rfl
  · next h =>
    obtain rfl : kind = 10#8 := BitVec.eq_of_toNat_eq h
    simp only [BitVec.reduceEq, false_and, or_false, false_or, true_and]
    simp only [onlyZero_map_iff, readTimebase_iff, and_assoc]
    exact Iff.rfl
  · next h =>
    obtain rfl : kind = 11#8 := BitVec.eq_of_toNat_eq h
    simp only [BitVec.reduceEq, false_and, or_false, false_or, true_and]
    simp only [indexed_iff (show 2 ≤ 256 by decide), readRetransmit_iff, flagByte_eq, and_assoc]
    refine exists_congr fun o => exists_congr fun ⟨mode, source, fullScale, prescale, signal⟩ => ?_
    cases mode <;> cases source <;> exact Iff.rfl
  · next h =>
    obtain rfl : kind = 12#8 := BitVec.eq_of_toNat_eq h
    simp only [BitVec.reduceEq, false_and, or_false, false_or, true_and]
    rw [drafted_test]
    refine exists_congr fun ⟨inputs, form, amplitude, slope, halfPeriod, seed, duration⟩ => ?_
    cases form <;> exact Iff.rfl
  · next h =>
    obtain rfl : kind = 13#8 := BitVec.eq_of_toNat_eq h
    simp only [BitVec.reduceEq, false_and, false_or, true_and]
    exact drafted_clear
  · next h0 h1 h2 h3 h4 h5 h6 h7 h8 h9 h10 h11 h12 h13 =>
    refine ⟨nofun, ?_⟩
    rintro (⟨rfl, -⟩ | ⟨rfl, -⟩ | ⟨rfl, -⟩ | ⟨rfl, -⟩ | ⟨rfl, -⟩ | ⟨rfl, -⟩ | ⟨rfl, -⟩ | ⟨rfl, -⟩ | ⟨rfl, -⟩ |
      ⟨rfl, -⟩ | ⟨rfl, -⟩ | ⟨rfl, -⟩ | ⟨rfl, -⟩ | ⟨rfl, -⟩)
    exacts [(h0 rfl).elim, (h1 rfl).elim, (h2 rfl).elim, (h3 rfl).elim, (h4 rfl).elim, (h5 rfl).elim, (h6 rfl).elim,
      (h7 rfl).elim, (h8 rfl).elim, (h9 rfl).elim, (h10 rfl).elim, (h11 rfl).elim, (h12 rfl).elim, (h13 rfl).elim]

end Sys2Proof.Machine
end

section
/-! ## What the start and the end of a test make of each channel (R39, R45, R46) -/

namespace Sys2Proof.Machine

open Work (Hands)

/-! ### Turns of the channels -/

/-- Every entry number is that of a channel and a kind (R98). -/
theorem exists_entryOf (i : Fin 32) : ∃ c k, entryOf c k = i := by
  have h : ∀ i : Fin 32, ∃ k ∈ alarmKinds, entryOf (channelOf i) k = i := by decide
  obtain ⟨k, -, hk⟩ := h i
  exact ⟨_, k, hk⟩

/-- A channel's record, its snapshot and its open interval. -/
def State.parts (s : State) (c : Fin 8) : Channel × Option Snapshot × Option Interval :=
  (nth s.channels c, nth s.test.snapshots c, nth s.intervals c)

/-- The state with these three of one channel replaced, and with other entries and ports. -/
def State.withParts (s : State) (c : Fin 8) (r : Channel × Option Snapshot × Option Interval) (a : Tab 32 AlarmEntry)
    (p : Ports) : State :=
  { s with channels := put s.channels c r.1, test := { s.test with snapshots := put s.test.snapshots c r.2.1 }
           intervals := put s.intervals c r.2.2, alarms := a, ports := p }

/-- The same for every channel. -/
def State.withAllParts (s : State) (r : Fin 8 → Channel × Option Snapshot × Option Interval) (a : Tab 32 AlarmEntry)
    (p : Ports) : State :=
  { s with channels := tab fun c => (r c).1, test := { s.test with snapshots := tab fun c => (r c).2.1 }
           intervals := tab fun c => (r c).2.2, alarms := a, ports := p }

theorem State.withParts_parts (s : State) (c : Fin 8) : s.withParts c (s.parts c) s.alarms s.ports = s := by
  unfold State.withParts State.parts
  rw [put_nth, put_nth, put_nth]

theorem State.parts_withParts_self (s : State) (c : Fin 8) (r : Channel × Option Snapshot × Option Interval)
    (a : Tab 32 AlarmEntry) (p : Ports) : (s.withParts c r a p).parts c = r := by
  simp only [State.parts, State.withParts, nth_put_self]

theorem State.parts_withParts_ne (s : State) {c d : Fin 8} (h : d ≠ c) (r : Channel × Option Snapshot × Option Interval)
    (a : Tab 32 AlarmEntry) (p : Ports) : (s.withParts c r a p).parts d = s.parts d := by
  simp only [State.parts, State.withParts, nth_put_ne _ _ (Ne.symm h)]

section Turns

variable {k : Nat} {f : Fin 8 → Work → Work} {w : Work}
  {turn : Fin 8 → Channel × Option Snapshot × Option Interval → Channel × Option Snapshot × Option Interval}

/-- Turns each of which replaces the parts of its own channel: after all of them, those of every channel are replaced. -/
theorem Work.forEach_parts
    (hst : ∀ c x, x.st.settings = w.st.settings → ∃ a p, (f c x).st = x.st.withParts c (turn c (x.st.parts c)) a p) :
    ∃ a p, (w.forEach f).st = w.st.withAllParts (fun c => turn c (w.st.parts c)) a p := by
  obtain ⟨⟨ch, sn, iv, a, p, hx⟩, hread⟩ := Work.forEach_local
    (fun x => ∃ ch sn iv a p, x.st = { w.st with
      channels := ch, test := { w.st.test with snapshots := sn }, intervals := iv, alarms := a, ports := p })
    (fun x c => x.st.parts c) turn f w ⟨_, _, _, _, _, rfl⟩ (fun c x ⟨_, _, _, _, _, hx⟩ => by
      obtain ⟨a, p, h⟩ := hst c x (by rw [hx])
      refine ⟨⟨_, _, _, a, p, by rw [h, hx]; rfl⟩, ?_, fun d hd => ?_⟩
      · rw [h, State.parts_withParts_self]
      · rw [h, State.parts_withParts_ne _ hd])
  have hch : ch = tab fun c => (turn c (w.st.parts c)).1 := tab_ext fun c => by
    rw [nth_tab, ← hread, hx]
    rfl
  have hsn : sn = tab fun c => (turn c (w.st.parts c)).2.1 := tab_ext fun c => by
    rw [nth_tab, ← hread, hx]
    rfl
  have hiv : iv = tab fun c => (turn c (w.st.parts c)).2.2 := tab_ext fun c => by
    rw [nth_tab, ← hread, hx]
    rfl
  exact ⟨a, p, by rw [hx, hch, hsn, hiv]; rfl⟩

/-- Where the entries follow each turn, they follow them all. -/
theorem Work.forEach_turned (hands : ∀ c x, Hands k x (f c x))
    (hst : ∀ c x, x.st.settings = w.st.settings → ∃ a p, (f c x).st = x.st.withParts c (turn c (x.st.parts c)) a p)
    (hself : ∀ c x, x.st.settings = w.st.settings →
      Turned c (turn c (x.st.parts c)).1 (turn c (x.st.parts c)).2.1 x (f c x))
    (hother : ∀ c d m x, d ≠ c → nth (f c x).st.alarms (entryOf d m) = nth x.st.alarms (entryOf d m)) (c : Fin 8) :
    Turned c (turn c (w.st.parts c)).1 (turn c (w.st.parts c)).2.1 w (w.forEach f) := by
  obtain ⟨_, x, ⟨hset, htime⟩, hread, hafter, hhands⟩ := Work.foldl_turn (k := k) (f := fun x c => f c x)
    (fun x => x.st.settings = w.st.settings ∧ x.st.timebase = w.st.timebase)
    (fun x c => (x.st.parts c, fun m => nth x.st.alarms (entryOf c m))) (fun x c => hands c x)
    (fun x c ⟨hs, ht⟩ => by
      obtain ⟨_, _, h⟩ := hst c x hs
      exact ⟨by rw [h]; exact hs, (hands c x).timebase.trans ht⟩)
    (fun x c d ⟨hs, _⟩ hd => by
      obtain ⟨_, _, h⟩ := hst c x hs
      refine Prod.ext ?_ (funext fun m => hother c d m x hd)
      rw [h]
      exact State.parts_withParts_ne _ hd ..)
    (List.nodup_finRange 8) (List.mem_finRange c) (w := w) ⟨rfl, rfl⟩
  have hparts : ∀ {y z : Work}, (y.st.parts c, fun m => nth y.st.alarms (entryOf c m)) =
      (z.st.parts c, fun m => nth z.st.alarms (entryOf c m)) → y.channelParts c = z.channelParts c :=
    fun h => congrArg (fun r => (r.1.1, r.1.2.1, r.2)) h
  have hturn := hself c x hset
  rw [(Prod.mk.inj hread).1] at hturn
  exact hturn.among (hparts hread) hset htime (hparts hafter) hhands

end Turns

/-- A turn that begins once the record, the entries, the settings and the time still stand as they did. -/
theorem Work.Turned.of_begun {c : Fin 8} {new : Channel} {saved : Option Snapshot} {v w x : Work}
    (h : Work.Turned c new saved w x) (hc : nth w.st.channels c = nth v.st.channels c) (ha : w.st.alarms = v.st.alarms)
    (hset : w.st.settings = v.st.settings) (htime : w.st.timebase = v.st.timebase) : Work.Turned c new saved v x :=
  ⟨h.channel, h.snapshot, by simpa only [hc, ha, hset, htime] using h.entry, by simpa only [ha] using h.announced⟩

/-- A turn stands when the channel's snapshot is written after it and the channel's interval closed. -/
theorem Work.Turned.then_closed {c : Fin 8} {new : Channel} {saved : Option Snapshot} {w x : Work}
    (h : Work.Turned c new saved w x) (o : Option Snapshot) :
    Work.Turned c new o w ((x.map fun s =>
      { s with test := { s.test with snapshots := put s.test.snapshots c o } }).closeInterval c false) := by
  have hands := (Hands.map x (f := fun s =>
    { s with test := { s.test with snapshots := put s.test.snapshots c o } }) rfl rfl rfl).trans
      (Work.hands_closeInterval _ c false)
  have hst := Work.closeInterval_st (x.map fun s =>
    { s with test := { s.test with snapshots := put s.test.snapshots c o } }) c false
  generalize (x.map fun s =>
    { s with test := { s.test with snapshots := put s.test.snapshots c o } }).closeInterval c false = y at hands hst ⊢
  have halarms : y.st.alarms = x.st.alarms := by rw [hst]; rfl
  refine ⟨by rw [hst]; exact h.channel, by rw [hst]; exact nth_put_self .., fun k => ?_, fun k hne => ?_⟩
  · rw [halarms]
    exact h.entry k
  · rw [halarms] at hne ⊢
    exact (h.announced k hne).later hands

/-- An event that a step hands over joins the queue, with no loss counted and room for all that the step hands over. -/
theorem Work.Hands.joins {k : Nat} {s : State} {x : Work} (h : Hands k (Work.start s) x) {y : Sender}
    {source : EventSource} {body : EventBody} (hmem : (⟨y, s.followingRecord source body⟩ : Handed) ∈ x.out)
    (hloss : s.store.loss = 0) (hroom : s.store.queue.length + k ≤ 64) :
    s.eventRecord source body ∈ x.join.store.queue := by
  have hlength := h.length_le
  have hstore : x.st.store = s.store := h.store
  have hq := Work.mem_join hmem (by rw [hstore, hloss]) (by rw [hstore]; omega)
  rwa [State.followingRecord_carrying, ← hloss] at hq

/-! ### The end of a test (R46) -/

/-- A channel at the end of a test: put back from its snapshot, if it has one. -/
def Channel.putBack (ch : Channel) (saved : Option Snapshot) : Channel :=
  match saved with
  | none => ch
  | some n => ch.restore n

theorem Work.endTestOn_of_none {w : Work} {c : Fin 8} (h : nth w.st.test.snapshots c = none) : w.endTestOn c = w := by
  rw [Work.endTestOn, h]

theorem Work.endTestOn_of_some {w : Work} {c : Fin 8} {n : Snapshot} (h : nth w.st.test.snapshots c = some n) :
    w.endTestOn c = ((w.setChannel c ((nth w.st.channels c).restore n)).map fun s =>
      { s with test := { s.test with snapshots := put s.test.snapshots c none } }).closeInterval c false := by
  rw [Work.endTestOn, h]

/-- What the end of a test makes of a channel: put back, its snapshot discarded, its interval closed (R46, R126). -/
def endedParts (r : Channel × Option Snapshot × Option Interval) : Channel × Option Snapshot × Option Interval :=
  (r.1.putBack r.2.1, none, if r.2.1.isSome then r.2.2.map fun _ => .opened else r.2.2)

theorem Work.endTestOn_parts (c : Fin 8) (w : Work) :
    ∃ a p, (w.endTestOn c).st = w.st.withParts c (endedParts (w.st.parts c)) a p := by
  cases h : nth w.st.test.snapshots c with
  | none =>
    have hsame : endedParts (w.st.parts c) = w.st.parts c := by
      unfold endedParts State.parts
      rw [h]
      rfl
    exact ⟨_, _, by rw [Work.endTestOn_of_none h, hsame, State.withParts_parts]⟩
  | some n =>
    obtain ⟨a, p, hf⟩ := w.setChannel_frame c ((nth w.st.channels c).restore n)
    refine ⟨a, p, ?_⟩
    rw [Work.endTestOn_of_some h, Work.closeInterval_st, Work.map_st, hf]
    unfold endedParts State.parts
    rw [h]
    rfl

theorem Work.endTestOn_turned (c : Fin 8) (w : Work) :
    Work.Turned c (endedParts (w.st.parts c)).1 none w (w.endTestOn c) := by
  unfold endedParts State.parts
  cases h : nth w.st.test.snapshots c with
  | none =>
    rw [Work.endTestOn_of_none h]
    exact Work.turned_of_conditions rfl h rfl fun _ => rfl
  | some n =>
    rw [Work.endTestOn_of_some h]
    exact (w.setChannel_turned c ((nth w.st.channels c).restore n)).then_closed none

/-- A change of a channel's record reaches the entries of no other channel. -/
theorem Work.setChannel_entry_ne (w : Work) {c d : Fin 8} (k : AlarmKind) (new : Channel) (h : d ≠ c) :
    nth (w.setChannel c new).st.alarms (entryOf d k) = nth w.st.alarms (entryOf d k) :=
  (w.map fun s => { s with channels := put s.channels c new }).handChanges_other k (nth w.st.channels c) new h

theorem Work.endTestOn_entry_ne (w : Work) {c d : Fin 8} (k : AlarmKind) (h : d ≠ c) :
    nth (w.endTestOn c).st.alarms (entryOf d k) = nth w.st.alarms (entryOf d k) := by
  cases hs : nth w.st.test.snapshots c with
  | none => rw [Work.endTestOn_of_none hs]
  | some n =>
    rw [Work.endTestOn_of_some hs, Work.closeInterval_st]
    exact w.setChannel_entry_ne k _ h

/-- Every port has been told of a start (place 0) or an end (place 1) of a test (R175). -/
def State.toldTest (s : State) (i : Nat) : Prop :=
  ∀ p, (s.port p).notices.flags.getLsbD 5 = true ∧ (s.port p).notices.test.getLsbD i = true

theorem State.toldTest_addTest {s t : State} {ended : Bool} (h : t.ports = (s.notifyAll (·.addTest ended)).ports) :
    t.toldTest (if ended then 1 else 0) := fun p => by
  have hport : t.port p = { s.port p with notices := (s.port p).notices.addTest ended } :=
    (congrArg (fun ps : Ports => ps.get p) h).trans (s.port_notifyAll (·.addTest ended) p)
  rw [hport]
  refine ⟨getLsbD_or_right rfl, getLsbD_or_right ?_⟩
  cases ended <;> rfl

/-- The end of the running test (R46): every channel by its turn, the TEST event behind their records, and the lines
behind the entries. -/
theorem Work.endTest_spec {w : Work} {plan : TestItem} (h : w.st.test.plan = some plan) (cause : TestCause)
    (source : EventSource) :
    (∃ a p, (w.endTest cause source).st = { w.st.withAllParts (fun c => endedParts (w.st.parts c)) a p with
        test := .reset, lines := tab fun l => refreshLine (nth w.st.settings.output l) a (nth w.st.lines l) }) ∧
      (∀ c, Work.Turned c (endedParts (w.st.parts c)).1 none w (w.endTest cause source)) ∧
      ⟨.test, w.st.followingRecord source (.test true plan.inputs plan.form cause)⟩ ∈ (w.endTest cause source).out ∧
      (w.endTest cause source).st.toldTest 1 := by
  obtain ⟨a, p, hst⟩ := Work.forEach_parts (w := w) (turn := fun _ => endedParts) fun c x _ => x.endTestOn_parts c
  have hturned := Work.forEach_turned (w := w) (turn := fun _ => endedParts) Work.hands_endTestOn
    (fun c x _ => x.endTestOn_parts c) (fun c x _ => x.endTestOn_turned c) (fun c d k x hd => x.endTestOn_entry_ne k hd)
  have hhands := Hands.forEach Work.hands_endTestOn w
  unfold Work.endTest
  rw [h]
  dsimp only
  generalize w.forEach Work.endTestOn = x at hturned hhands hst ⊢
  have hlast : Hands 1 x ((x.event .test source (.test true plan.inputs plan.form cause)).map fun s =>
      { s.notifyAll (·.addTest true) with test := .reset }.refreshLines) :=
    (Hands.event x ..).trans (Hands.tell _ (g := (·.addTest true)) (fun a => a.within_addTest true) rfl rfl rfl)
  refine ⟨⟨a, (x.st.notifyAll (·.addTest true)).ports, ?_⟩, fun c => ?_, ?_, State.toldTest_addTest (s := x.st) rfl⟩
  · rw [Work.map_st, Work.event_st, hst]
    rfl
  · refine (hturned c).among rfl rfl rfl ?_ hlast
    have hsaved := (hturned c).snapshot
    unfold Work.channelParts
    rw [hsaved]
    exact congrArg (fun o => (_, o, _)) (nth_tab ..)
  · rw [Work.map_out, Work.event_out, State.followingRecord, hhands.timebase]
    exact List.mem_append_right _ (List.mem_singleton_self _)

/-! ### STOP TEST (R45) -/

/-- Settles O43: the test ends by its channels' turns, and what they hand over is all that the request hands over. -/
theorem testStopped : Obligations.TestStopped := by
  intro s p hp
  have hexec : exec (.stopTest p) s = .next (s.endTransfer p fun s => s.takeStopTest p) := rfl
  rw [State.endTransfer_of_plain hp, State.takeStopTest] at hexec
  refine ⟨fun hplan => ?_, fun v hplan => ?_⟩
  · rw [hplan] at hexec
    exact hexec
  · rw [hplan] at hexec
    refine ⟨_, hexec, ?_⟩
    obtain ⟨⟨a, q, hst⟩, hturned, hevent, hnotices⟩ :=
      Work.endTest_spec (w := Work.start s) hplan .stopped (.port p)
    have hhands := Work.hands_endTest (Work.start s) .stopped (.port p)
    dsimp only
    generalize (Work.start s).endTest .stopped (.port p) = x at hst hturned hevent hnotices hhands ⊢
    have hport : ∀ q, ((x.join.updPort p fun q => { q with transfer := .idle, due := bare .done 10 }).port q).notices =
        (x.st.port q).notices := fun q => by
      by_cases hq : p = q
      · subst hq
        rw [State.port_updPort_self]
        rfl
      · rw [State.port_updPort_ne _ _ hq]
        rfl
    simp only [hport, State.port_updPort_self, State.updPort_test, State.updPort_channels, State.updPort_intervals,
      State.updPort_alarms, State.updPort_lines, State.updPort_store, State.updPort_settings, State.updPort_timebase,
      State.updPort_links, State.updPort_averagers, State.updPort_storm, State.updPort_outputs, State.updPort_proposal,
      Work.join_test, Work.join_channels, Work.join_intervals, Work.join_alarms, Work.join_lines, Work.join_settings,
      Work.join_timebase, Work.join_links, Work.join_averagers, Work.join_storm, Work.join_outputs, Work.join_proposal,
      true_and]
    have hchannel : ∀ c, nth x.st.channels c = (nth s.channels c).putBack (nth s.test.snapshots c) :=
      fun c => (hturned c).channel
    have hentry : ∀ c k, nth x.st.alarms (entryOf c k) = (nth s.alarms (entryOf c k)).moved k (nth s.channels c)
        (nth x.st.channels c) s.settings.policy s.timebase.time := fun c k => by
      rw [hchannel]
      exact (hturned c).entry k
    refine ⟨by rw [hst]; rfl, by rw [hst]; rfl, by rw [hst]; rfl, fun c => (hturned c).snapshot, fun c => ?_, fun c => ?_,
      hentry, fun l => ?_, fun c k hne => ?_, hnotices,
      fun hloss hroom => hhands.joins hevent hloss (by omega), ?_⟩
    · rw [hchannel]
      cases nth s.test.snapshots c <;> rfl
    · rw [hst]
      exact nth_tab ..
    · rw [hst, nth_tab, refreshLine]
      simp only [Option.isNone_iff_eq_none, Work.start_st, State.withAllParts]
    · obtain ⟨htold, hmem⟩ := (hturned c).announced k hne
      refine ⟨htold, fun hloss hroom => hhands.joins (y := .alarm c) ?_ hloss (by omega)⟩
      rw [AlarmKind.handed_eq, hchannel]
      rwa [State.followingRecord, hhands.timebase] at hmem
    · rw [hst]
      exact ⟨rfl, rfl, rfl, rfl, rfl, rfl, rfl⟩

end Sys2Proof.Machine
end

section
/-! ## The start of a test (R39, R40, R190) -/

namespace Sys2Proof.Machine

open Work (Hands)

/-! ### The turn of one channel -/

theorem Work.handCondition_of_same (w : Work) (c : Fin 8) (k : AlarmKind) (b : Bool) (v : Nat) (t : Bool) :
    w.handCondition c k b b v t = w := if_pos rfl

/-- A change that leaves the level and exposure conditions is handed to the DATA entry alone. -/
theorem Work.handChanges_of_conds (w : Work) (c : Fin 8) {old new : Channel} (h : new.conds = old.conds) :
    w.handChanges c old new =
      w.handCondition c .data (old.condition .data) (new.condition .data) (new.value .data) (new.state == .test) := by
  simp only [Work.handChanges, alarmKinds, List.foldl_cons, List.foldl_nil, Channel.condition, h,
    Work.handCondition_of_same]

/-- What the start of a test makes of a channel, targeted or not: saved, in TEST, its interval closed (R39, R126). -/
def begunParts (targeted : Bool) (r : Channel × Option Snapshot × Option Interval) :
    Channel × Option Snapshot × Option Interval :=
  if targeted then (r.1.enterTest, some r.1.snapshot, r.2.2.map fun _ => .opened) else r

/-- A targeted channel up to its entry into TEST: its interval closed and its snapshot saved. -/
def Work.saveChannel (w : Work) (c : Fin 8) : Work :=
  (w.closeInterval c false).map fun s =>
    { s with test := { s.test with snapshots := put s.test.snapshots c (some (nth w.st.channels c).snapshot) } }

theorem Work.startTestOn_eq (inputs : BitVec 8) (c : Fin 8) (w : Work) :
    w.startTestOn inputs c =
      if (nth w.st.settings.map c).targeted inputs then (w.saveChannel c).setChannel c (nth w.st.channels c).enterTest
      else w := rfl

theorem Work.saveChannel_st (w : Work) (c : Fin 8) :
    (w.saveChannel c).st = { w.st with
      intervals := put w.st.intervals c ((nth w.st.intervals c).map fun _ => .opened)
      test := { w.st.test with snapshots := put w.st.test.snapshots c (some (nth w.st.channels c).snapshot) } } := by
  rw [Work.saveChannel, Work.map_st, Work.closeInterval_st]

theorem Work.startTestOn_parts (inputs : BitVec 8) (c : Fin 8) (w : Work) :
    ∃ a p, (w.startTestOn inputs c).st =
      w.st.withParts c (begunParts ((nth w.st.settings.map c).targeted inputs) (w.st.parts c)) a p := by
  rw [Work.startTestOn_eq, begunParts]
  split
  · obtain ⟨a, p, h⟩ := (w.saveChannel c).setChannel_frame c (nth w.st.channels c).enterTest
    exact ⟨a, p, by rw [h, Work.saveChannel_st]; rfl⟩
  · exact ⟨_, _, (w.st.withParts_parts c).symm⟩

theorem Work.startTestOn_turned (inputs : BitVec 8) (c : Fin 8) (w : Work) :
    Work.Turned c (begunParts ((nth w.st.settings.map c).targeted inputs) (w.st.parts c)).1
      (begunParts ((nth w.st.settings.map c).targeted inputs) (w.st.parts c)).2.1 w (w.startTestOn inputs c) := by
  rw [Work.startTestOn_eq, begunParts]
  split
  · have h := (w.saveChannel c).setChannel_turned c (nth w.st.channels c).enterTest
    generalize (w.saveChannel c).setChannel c _ = x at h ⊢
    have hst := w.saveChannel_st c
    generalize w.saveChannel c = u at h hst
    rw [show nth u.st.test.snapshots c = some (nth w.st.channels c).snapshot by rw [hst]; exact nth_put_self ..] at h
    exact h.of_begun (by rw [hst]) (by rw [hst]) (by rw [hst]) (by rw [hst])
  · exact Work.turned_of_conditions rfl rfl rfl fun _ => rfl

theorem Work.startTestOn_entry_ne (inputs : BitVec 8) (w : Work) {c d : Fin 8} (k : AlarmKind) (h : d ≠ c) :
    nth (w.startTestOn inputs c).st.alarms (entryOf d k) = nth w.st.alarms (entryOf d k) := by
  rw [Work.startTestOn_eq]
  split
  · rw [Work.setChannel_entry_ne _ k _ h, Work.saveChannel_st]
  · rfl

/-- A channel at the start of a test hands over at most its interval and the fall of its DATA entry. -/
theorem Work.hands_startTestOn (inputs : BitVec 8) (c : Fin 8) (w : Work) : Hands 2 w (w.startTestOn inputs c) := by
  rw [Work.startTestOn_eq]
  refine .ite ?_ (.refl 2 w)
  have hsave : Hands 1 w (w.saveChannel c) := (w.hands_closeInterval c false).trans (Hands.map _ rfl rfl rfl)
  have hchannel : nth (w.saveChannel c).st.channels c = nth w.st.channels c := by rw [Work.saveChannel_st]
  generalize w.saveChannel c = u at hsave hchannel ⊢
  have henter : Hands 1 u (u.setChannel c (nth w.st.channels c).enterTest) := by
    rw [Work.setChannel, hchannel, Work.handChanges_of_conds _ c (old := nth w.st.channels c)
      (new := (nth w.st.channels c).enterTest) rfl]
    exact (Hands.map u rfl rfl rfl).trans (Work.hands_handCondition ..)
  exact hsave.trans henter

/-! ### Every channel -/

/-- The Test Generator as a test starts, but for the snapshots (R39, R40). -/
def TestItem.begin (v : TestItem) (snapshots : Tab 8 (Option Snapshot)) : TestGen where
  plan := some v
  remaining := v.duration
  ramp := v.amplitude
  squareCount := v.halfPeriod
  squarePlus := true
  prbs := v.seed
  supplied := none
  snapshots := snapshots

/-- The parts of a channel as a test of this plan starts. -/
def State.begun (s : State) (v : TestItem) (c : Fin 8) : Channel × Option Snapshot × Option Interval :=
  begunParts ((nth s.settings.map c).targeted v.inputs) (s.parts c)

/-- The counters set for the first test second. -/
def Work.beginTest (w : Work) (v : TestItem) : Work := w.map fun s => { s with test := v.begin s.test.snapshots }

theorem Work.startTest_eq {w : Work} (h : w.st.test.plan = none) (v : TestItem) :
    w.startTest v = (((w.beginTest v).forEach (Work.startTestOn v.inputs)).event .test .station
      (.test false v.inputs v.form .commit)).map fun s => (s.notifyAll (·.addTest false)).refreshLines := by
  rw [Work.startTest, if_neg (by rw [h]; decide)]
  rfl

/-- The start of a test (R39): the counters set, every channel by its turn, the TEST event behind their records, and the
lines behind the entries. -/
theorem Work.startTest_spec {w : Work} (h : w.st.test.plan = none) (v : TestItem) :
    (∃ a p, (w.startTest v).st = { w.st.withAllParts (w.st.begun v) a p with
        test := v.begin (tab fun c => (w.st.begun v c).2.1)
        lines := tab fun l => refreshLine (nth w.st.settings.output l) a (nth w.st.lines l) }) ∧
      (∀ c, Work.Turned c (w.st.begun v c).1 (w.st.begun v c).2.1 w (w.startTest v)) ∧ Hands 17 w (w.startTest v) ∧
      ⟨.test, w.st.followingRecord .station (.test false v.inputs v.form .commit)⟩ ∈ (w.startTest v).out ∧
      (w.startTest v).st.toldTest 0 := by
  have hturn : ∀ c (x : Work), x.st.settings = (w.beginTest v).st.settings → ∃ a p, (x.startTestOn v.inputs c).st =
      x.st.withParts c (begunParts ((nth w.st.settings.map c).targeted v.inputs) (x.st.parts c)) a p :=
    fun c x hx => by
      have hp := x.startTestOn_parts v.inputs c
      rwa [hx] at hp
  obtain ⟨a, p, hst⟩ := Work.forEach_parts
    (turn := fun c => begunParts ((nth w.st.settings.map c).targeted v.inputs)) hturn
  have hturned := Work.forEach_turned (turn := fun c => begunParts ((nth w.st.settings.map c).targeted v.inputs))
    (Work.hands_startTestOn v.inputs) hturn
    (fun c x hx => by
      have ht := x.startTestOn_turned v.inputs c
      rwa [hx] at ht)
    (fun c d k x hd => x.startTestOn_entry_ne v.inputs k hd)
  have hhands := Hands.forEach (Work.hands_startTestOn v.inputs) (w.beginTest v)
  have hset : Hands 0 w (w.beginTest v) := .map w rfl rfl rfl
  rw [Work.startTest_eq h]
  generalize (w.beginTest v).forEach (Work.startTestOn v.inputs) = x at hturned hhands hst ⊢
  have hlast : Hands 1 x ((x.event .test .station (.test false v.inputs v.form .commit)).map fun s =>
      (s.notifyAll (·.addTest false)).refreshLines) :=
    (Hands.event x ..).trans (Hands.tell _ (g := (·.addTest false)) (fun a => a.within_addTest false) rfl rfl rfl)
  refine ⟨⟨a, (x.st.notifyAll (·.addTest false)).ports, ?_⟩, fun c => ?_, (hset.trans hhands).trans hlast, ?_,
    State.toldTest_addTest (s := x.st) (ended := false) rfl⟩
  · rw [Work.map_st, Work.event_st, hst]
    rfl
  · exact ((hturned c).of_begun rfl rfl rfl rfl).among rfl rfl rfl rfl hlast
  · rw [Work.map_out, Work.event_out, State.followingRecord, hhands.timebase]
    exact List.mem_append_right _ (List.mem_singleton_self _)

/-! ### What is told of a test stands -/

theorem State.toldTest.of_ports {s t : State} {i : Nat} (h : s.toldTest i) (hp : t.ports = s.ports) : t.toldTest i :=
  fun p => by
    rw [State.port, hp]
    exact h p

/-- All ports told of something else still know of the test. -/
theorem State.toldTest.of_all {s t : State} {i : Nat} {f : Notices → Notices} (h : s.toldTest i)
    (ht : t.ports = (s.notifyAll f).ports) (hf : ∀ a : Notices, a.within (f a))
    (htest : ∀ a : Notices, a.test.getLsbD i = true → (f a).test.getLsbD i = true) : t.toldTest i := fun p => by
  have hport : t.port p = { s.port p with notices := f (s.port p).notices } :=
    (congrArg (fun ps : Ports => ps.get p) ht).trans (s.port_notifyAll f p)
  rw [hport]
  exact ⟨(hf _).1 _ (h p).1, htest _ (h p).2⟩

section Kept

variable {w : Work} {i : Nat} (h : w.st.toldTest i)
include h

theorem Work.retryLink_toldTest (n : Fin 8) : (w.retryLink n).st.toldTest i := by
  unfold Work.retryLink
  split
  · intro p
    rw [Work.transition_port]
    exact ⟨((w.st.port p).notices.within_addLink n).1 _ (h p).1, (h p).2⟩
  · exact h

theorem Work.decideStorm_toldTest (pulled : Bool) : (w.decideStorm pulled).st.toldTest i := by
  unfold Work.decideStorm
  dsimp only
  split
  · exact h
  · exact h.of_all (f := Notices.addStorm) rfl Notices.within_addStorm fun _ => id

theorem Work.handCondition_toldTest (c : Fin 8) (k : AlarmKind) (was now : Bool) (v : Nat) (t : Bool) :
    (w.handCondition c k was now v t).st.toldTest i := by
  have hmove : ∀ e cause, (w.moveEntry (.alarm c) (entryOf c k) e v cause).st.toldTest i := fun e cause =>
    h.of_all (f := (·.addAlarm (bitOf 8 (channelOf (entryOf c k))))) rfl (fun a => a.within_addAlarm _) fun _ => id
  rcases w.handCondition_cases c k was now v t with hw | ⟨_, _, _, hw⟩ | ⟨_, _, _, hw⟩ <;> rw [hw]
  · exact h
  · exact hmove _ _
  · exact hmove _ _

theorem Work.handChanges_toldTest (c : Fin 8) (old new : Channel) : (w.handChanges c old new).st.toldTest i :=
  foldl_kinds (fun x : Work => x.st.toldTest i) _ w h fun _ _ hx => Work.handCondition_toldTest hx _ _ _ _ _ _

theorem Work.handResults_toldTest (before : Tab 8 Channel) (c : Fin 8) : (w.handResults before c).st.toldTest i := by
  unfold Work.handResults
  dsimp only
  split
  · exact h
  · have hc := Work.handChanges_toldTest h c (nth before c) (nth w.st.channels c)
    generalize w.handChanges c (nth before c) (nth w.st.channels c) = u at hc ⊢
    obtain ⟨_, hpeaks⟩ := u.st.raisePeaks_frame c (nth before c) (nth w.st.channels c)
    obtain ⟨_, hsecond⟩ := Work.addSecond_frame (u.map fun s => s.raisePeaks c (nth before c) (nth w.st.channels c)) c
      ((nth w.st.channels c).latest.bind (·.value) |>.map (·.d))
    exact hc.of_ports (by rw [hsecond, Work.map_st, hpeaks])

theorem Work.endTestOn_toldTest (c : Fin 8) : (w.endTestOn c).st.toldTest i := by
  cases hs : nth w.st.test.snapshots c with
  | none =>
    rw [Work.endTestOn_of_none hs]
    exact h
  | some n =>
    rw [Work.endTestOn_of_some hs, Work.closeInterval_st]
    exact Work.handChanges_toldTest
      (w := w.map fun s => { s with channels := put s.channels c ((nth w.st.channels c).restore n) }) h c _ _

theorem Work.endTest_toldTest (cause : TestCause) (source : EventSource) : (w.endTest cause source).st.toldTest i := by
  unfold Work.endTest
  split
  · exact h
  · have hall := Work.forEach_induct (fun x => x.st.toldTest i) Work.endTestOn w h fun c _ hx =>
      Work.endTestOn_toldTest hx c
    dsimp only
    generalize w.forEach Work.endTestOn = u at hall ⊢
    have hadd : ∀ a : Notices, a.test.getLsbD i = true → (a.addTest true).test.getLsbD i = true :=
      fun a => getLsbD_or_left
    exact hall.of_all (f := (·.addTest true)) rfl (fun a => a.within_addTest true) hadd

theorem Work.countTest_toldTest : w.countTest.st.toldTest i := by
  unfold Work.countTest
  dsimp only
  split
  · exact h
  · split
    · exact Work.endTest_toldTest
        (w := w.map fun s => { s with test := { s.test with remaining := w.st.test.remaining - 1 } }) h _ _
    · exact h

theorem Work.countWindows_toldTest : w.countWindows.st.toldTest i := by
  have hexpire : ∀ cause, ((w.endProposal cause .station).map fun s => s.notifyAll (·.addSettings 2)).st.toldTest i :=
    fun _ => h.of_all (f := (·.addSettings 2)) rfl (fun a => a.within_addSettings 2) fun _ => id
  unfold Work.countWindows
  split
  · split
    · exact hexpire _
    · exact h
  · split
    · exact hexpire _
    · exact h
  · exact h
  · exact h

end Kept

/-- What every port knows of a test once the records of a second are handed over, it knows after the tick. -/
theorem secondTick_toldTest_of_counted {pulled : Bool} {s : State} {i : Nat} (h : (tickCounted pulled s).st.toldTest i) :
    (secondTick pulled s).toldTest i := by
  have hclose : ∀ j : State, j.toldTest i → j.closeCommit.toldTest i := fun j hj => by
    unfold State.closeCommit
    split
    · exact hj.of_all (f := (·.addSettings 3)) rfl (fun a => a.within_addSettings 3) fun _ => id
    all_goals exact hj
  unfold secondTick
  exact (hclose _ (h.of_ports (Work.join_ports _))).of_ports (State.endSecond_ports _)

/-- What every port knows of a test once a commit's items are carried out, it knows after the tick. -/
theorem secondTick_toldTest {pulled : Bool} {s : State} {i : Nat} (h : s.commitStages.toldTest i) :
    (secondTick pulled s).toldTest i := by
  have hretry := Work.forEach_induct (fun x => x.st.toldTest i) Work.retryLink (Work.start s.commitStages) h
    fun n _ hx => Work.retryLink_toldTest hx n
  have hjudged : (tickJudged s).st.toldTest i := by
    unfold tickJudged tickInputs
    generalize (Work.start s.commitStages).forEach Work.retryLink = x at hretry ⊢
    rw [Work.map_st, Work.map_st, State.supplyTest_eq]
    exact hretry
  have hmoved : (tickMoved pulled s).st.toldTest i := by
    have hdecided : (tickDecided pulled s).st.toldTest i := Work.decideStorm_toldTest hjudged pulled
    unfold tickMoved
    generalize tickDecided pulled s = x at hdecided ⊢
    exact hdecided
  have hhanded : (tickHanded pulled s).st.toldTest i := by
    have hall := Work.forEach_induct (fun x => x.st.toldTest i) (Work.handResults (tickInputs s).st.channels) _ hmoved
      fun c _ hx => Work.handResults_toldTest hx _ c
    unfold tickHanded
    generalize (tickMoved pulled s).forEach (Work.handResults (tickInputs s).st.channels) = x at hall ⊢
    exact hall
  exact secondTick_toldTest_of_counted (Work.countWindows_toldTest (Work.countTest_toldTest hhanded))

/-! ### The commit of a TEST item (R190, stage 5) -/

theorem State.applyItems_test (s : State) (v : TestItem) : s.applyItems [.test v] = ((Work.start s).startTest v).join := by
  have hchannels : s.commitChannels [.test v] = s := State.commitChannels_of_quiet rfl (fun _ => rfl) rfl
  unfold State.applyItems
  rw [hchannels, State.commitBlocks_of_noLink _ _ (fun _ => rfl), State.commitDivider_of_same rfl,
    State.commitStation_of_other _ (by simp), State.commitLines_of_other _ (by simp),
    State.commitOutputs_of_other _ (by simp)]
  rfl

/-- A channel uses at least one input of a test's mask, written out from R31 and R39. -/
theorem MapItem.targeted_eq (m : MapItem) (inputs : BitVec 8) :
    m.targeted inputs = (m.enabled && (List.finRange 8).any fun n =>
      inputs.getLsbD n.val && (m.primary == n || m.secondary.any fun s => s.1 == n)) := by
  unfold MapItem.targeted MapItem.uses
  cases m.enabled
  · simp
  · simp only [Bool.true_and, Bool.and_comm]

/-- Of a channel that enters TEST, the DATA entry falls where it was STALE (R57, R101). -/
theorem AlarmEntry.moved_enterTest (e : AlarmEntry) (k : AlarmKind) (ch : Channel) (policy : PolicyItem) (now : Time) :
    e.moved k ch ch.enterTest policy now =
      if k = .data ∧ ch.state = .stale ∧ e.state.active = true then e.fall now policy.data else e := by
  by_cases hk : k = .data
  · subst hk
    by_cases hs : ch.state = .stale
    · rw [AlarmEntry.moved_of_fall e policy now (by simp [Channel.condition, Channel.data, hs]) rfl]
      simp only [hs, true_and]
      rfl
    · rw [AlarmEntry.moved_of_same e policy now (by simp [Channel.condition, Channel.data, hs, Channel.enterTest])]
      simp [hs]
  · rw [AlarmEntry.moved_of_same e policy now (by cases k <;> first | rfl | exact absurd rfl hk)]
    simp [hk]

theorem entryOf_mod (c : Fin 8) (k : AlarmKind) : (entryOf c k).val % 4 = 3 ↔ k = .data := by
  cases k <;> simp [entryOf, AlarmKind.number]

/-- The entries as a test of this plan starts: the DATA entries of targeted STALE channels fall (R57, R101). -/
def State.begunEntries (s : State) (v : TestItem) : Tab 32 AlarmEntry :=
  tab fun i =>
    if (nth s.settings.map (channelOf i)).targeted v.inputs && (i.val % 4 == 3) &&
        ((nth s.channels (channelOf i)).state == .stale) && (nth s.alarms i).state.active then
      (nth s.alarms i).fall s.timebase.time s.settings.policy.data
    else nth s.alarms i

/-- The entries that have followed each channel into its test are these. -/
theorem State.begunEntries_of_turned {s : State} {v : TestItem} {x : Work}
    (h : ∀ c, Work.Turned c (s.begun v c).1 (s.begun v c).2.1 (Work.start s) x) : x.st.alarms = s.begunEntries v :=
  tab_ext fun i => by
    obtain ⟨c, k, rfl⟩ := exists_entryOf i
    refine ((h c).entry k).trans ?_
    rw [State.begunEntries, nth_tab, channelOf_entryOf, State.begun, begunParts]
    cases (nth s.settings.map c).targeted v.inputs
    · exact AlarmEntry.moved_of_same _ _ _ rfl
    · refine (AlarmEntry.moved_enterTest ..).trans ?_
      simp only [Bool.true_and, Bool.and_eq_true, beq_iff_eq, entryOf_mod, and_assoc]
      rfl

/-- A table of one part of every channel as a test of this plan starts. -/
theorem State.tab_begun {α : Type} (s : State) (v : TestItem) (f : Channel × Option Snapshot × Option Interval → α) :
    (tab fun c => f (s.begun v c)) =
      tab fun c => if (nth s.settings.map c).targeted v.inputs then
        f ((nth s.channels c).enterTest, some (nth s.channels c).snapshot, (nth s.intervals c).map fun _ => .opened)
      else f (s.parts c) :=
  congrArg tab (funext fun c => by rw [State.begun, begunParts, apply_ite f]; rfl)

/-- Settles O25: the commit of the item is the start of its test alone, and the tick goes on from there. -/
theorem testStarted : Obligations.TestStarted := by
  intro s u pulled owner confirmer v hp hplan hu
  obtain ⟨⟨a, q, hst⟩, hturned, hhands, hevent, htold⟩ := Work.startTest_spec (w := Work.start s) hplan v
  have happly := s.applyItems_test v
  generalize (Work.start s).startTest v = x at hst hturned hhands hevent htold happly
  have hstages : s.commitStages = x.join := by rw [State.commitStages_of_committing hp, happly]
  have hlike : (s.applyItems [.test v]).like u := by
    have hentries : a = s.begunEntries v := by
      have halarms := State.begunEntries_of_turned (s := s) hturned
      rwa [hst] at halarms
    rw [happly]
    refine State.like_trans (State.like_symm (Work.like_join x)) ?_
    simp only [← MapItem.targeted_eq] at hu
    rw [hst, hu, hentries]
    simp only [Work.start_st, State.withAllParts, s.tab_begun v (·.1), s.tab_begun v (·.2.1), s.tab_begun v (·.2.2),
      refreshLine, Option.isNone_iff_eq_none]
    exact ⟨_, _, _, _, _, rfl⟩
  obtain ⟨hexec, w, hw, hagrees⟩ := State.commit_leaves pulled hp hlike
  have hgrows := secondTick_grows pulled s
  rw [hstages] at hgrows
  exact ⟨_, w, hexec, hw, hagrees, secondTick_toldTest (by rw [hstages]; exact htold),
    fun hloss hroom => hgrows.queue.subset (hhands.joins hevent hloss (by omega))⟩

end Sys2Proof.Machine
end

section
/-! ## The results of a second, entry by entry and interval by interval (R74, R99 to R102, R122 to R126) -/

namespace Sys2Proof.Machine

open Work (Hands)

/-! ### Entries -/

/-- The peak of an active entry follows a value that is handed for it (R102). -/
def AlarmEntry.peaked (e : AlarmEntry) (due : Bool) (value : Nat) : AlarmEntry :=
  if due && e.state.active then { e with peak := max e.peak value } else e

/-- What the results of a second make of an entry: it follows its condition, and its peak the value of one that stays true
(R74, R100 to R102). -/
def AlarmEntry.evaluated (e : AlarmEntry) (k : AlarmKind) (old new : Channel) (policy : PolicyItem) (now : Time) :
    AlarmEntry :=
  if new.state = .disabled then e
  else
    (e.moved k old new policy now).peaked
      (old.condition k && new.condition k && ((new.latest.bind (·.value)).isSome || k == .data)) (new.value k)

theorem State.raisePeakIf_entry (s : State) (due : Bool) (c d : Fin 8) (m k : AlarmKind) (v : Nat) :
    nth (if due then s.raisePeak c m v else s).alarms (entryOf d k) =
      if c = d ∧ m = k then (nth s.alarms (entryOf d k)).peaked due v else nth s.alarms (entryOf d k) := by
  by_cases h : c = d ∧ m = k
  · obtain ⟨rfl, rfl⟩ := h
    cases due <;> simp [State.raisePeak, AlarmEntry.peaked]
  · rw [if_neg h]
    cases due
    · rfl
    · exact nth_upd_ne _ _ fun e => h (entryOf_inj e)

theorem State.raisePeaks_entry (s : State) (c : Fin 8) (old new : Channel) (k : AlarmKind) :
    nth (s.raisePeaks c old new).alarms (entryOf c k) = (nth s.alarms (entryOf c k)).peaked
      (old.condition k && new.condition k && ((new.latest.bind (·.value)).isSome || k == .data)) (new.value k) := by
  simp only [State.raisePeaks, alarmKinds, List.foldl_cons, List.foldl_nil, State.raisePeakIf_entry, true_and]
  cases k <;> simp only [reduceCtorEq, if_true, if_false]

theorem State.raisePeaks_entry_ne (s : State) {c d : Fin 8} (h : d ≠ c) (old new : Channel) (k : AlarmKind) :
    nth (s.raisePeaks c old new).alarms (entryOf d k) = nth s.alarms (entryOf d k) := by
  simp only [State.raisePeaks, alarmKinds, List.foldl_cons, List.foldl_nil, State.raisePeakIf_entry, Ne.symm h, false_and,
    if_false]

/-! ### Intervals -/

/-- A second taken by the Record Writer leaves an open interval open, and those of other channels as they are. -/
theorem Work.addSecond_interval (w : Work) (c : Fin 8) (d : Option Int) :
    ∃ x, (w.addSecond c d).st = { w.st with intervals := put w.st.intervals c x } ∧
      x.isSome = (nth w.st.intervals c).isSome := by
  cases h : nth w.st.intervals c with
  | none =>
    have hsame : put w.st.intervals c none = w.st.intervals := by rw [← h, put_nth]
    exact ⟨none, by rw [Work.addSecond, h, hsame], rfl⟩
  | some v =>
    have hclose : ∀ (u : Work), (∃ x, u.st = { w.st with intervals := put w.st.intervals c x } ∧ x.isSome = true) →
        ∃ x, (u.closeInterval c false).st = { w.st with intervals := put w.st.intervals c x } ∧ x.isSome = true :=
      fun u ⟨x, hu, hx⟩ => ⟨x.map fun _ => .opened, by rw [u.closeInterval_st, hu, nth_put_self, put_put], by simpa⟩
    unfold Work.addSecond
    rw [h]
    dsimp only
    have hclass : ∃ x, (if v.first.any (fun f => f.1 ≠ w.st.storm.state.class) then w.closeInterval c false else w).st =
        { w.st with intervals := put w.st.intervals c x } ∧ x.isSome = true := by
      have hw : ∃ x, w.st = { w.st with intervals := put w.st.intervals c x } ∧ x.isSome = true :=
        ⟨some v, by rw [← h, put_nth], rfl⟩
      split
      · exact hclose w hw
      · exact hw
    generalize (if v.first.any (fun f => f.1 ≠ w.st.storm.state.class) then w.closeInterval c false else w) = u
      at hclass ⊢
    have hadd : ∀ y : Interval, ∃ x, (u.map fun s => { s with intervals := put s.intervals c (some y) }).st =
        { w.st with intervals := put w.st.intervals c x } ∧ x.isSome = true := fun y => by
      obtain ⟨x, hu, -⟩ := hclass
      exact ⟨some y, by rw [Work.map_st, hu, put_put], rfl⟩
    split
    · exact hclose _ (hadd _)
    · exact hadd _

/-! ### The results of one channel -/

/-- What the results of a channel's second make of the state: its own entries are evaluated, its open interval stays
open, and nothing of another channel moves. -/
theorem Work.handResults_local (before : Tab 8 Channel) (c : Fin 8) (w : Work) :
    ∃ a p x, (w.handResults before c).st = { w.st with alarms := a, ports := p, intervals := put w.st.intervals c x } ∧
      x.isSome = (nth w.st.intervals c).isSome ∧
      (∀ k, nth a (entryOf c k) = (nth w.st.alarms (entryOf c k)).evaluated k (nth before c) (nth w.st.channels c)
        w.st.settings.policy w.st.timebase.time) ∧
      ∀ d k, d ≠ c → nth a (entryOf d k) = nth w.st.alarms (entryOf d k) := by
  unfold Work.handResults
  dsimp only
  split
  · next hd =>
    refine ⟨w.st.alarms, w.st.ports, nth w.st.intervals c, by rw [put_nth], rfl, fun k => ?_, fun _ _ _ => rfl⟩
    rw [AlarmEntry.evaluated, if_pos hd]
  · next hd =>
    obtain ⟨a, p, hst⟩ := w.handChanges_frame c (nth before c) (nth w.st.channels c)
    have hself : ∀ k, nth a (entryOf c k) = (nth w.st.alarms (entryOf c k)).moved k (nth before c)
        (nth w.st.channels c) w.st.settings.policy w.st.timebase.time := fun k => by
      have h := (w.handChanges_moved c k (nth before c) (nth w.st.channels c) rfl).1
      rwa [hst] at h
    have hother : ∀ d k, d ≠ c → nth a (entryOf d k) = nth w.st.alarms (entryOf d k) := fun d k h => by
      have h := w.handChanges_other k (nth before c) (nth w.st.channels c) h
      rwa [hst] at h
    generalize w.handChanges c (nth before c) (nth w.st.channels c) = u at hst
    obtain ⟨a', hpeaks⟩ := u.st.raisePeaks_frame c (nth before c) (nth w.st.channels c)
    have hp := u.st.raisePeaks_entry c (nth before c) (nth w.st.channels c)
    have hpo := fun {d} (h : d ≠ c) => u.st.raisePeaks_entry_ne h (nth before c) (nth w.st.channels c)
    obtain ⟨x, hx, hopen⟩ := Work.addSecond_interval (u.map fun s => s.raisePeaks c (nth before c) (nth w.st.channels c)) c
      ((nth w.st.channels c).latest.bind (·.value) |>.map (·.d))
    rw [hpeaks, hst] at hp hpo
    rw [Work.map_st, hpeaks, hst] at hx hopen
    refine ⟨a', p, x, hx, hopen, fun k => ?_, fun d k h => (hpo h k).trans (hother d k h)⟩
    rw [AlarmEntry.evaluated, if_neg hd, ← hself]
    exact hp k

end Sys2Proof.Machine
end

section
/-! ## The test at a second tick (R40 to R44, R46) -/

namespace Sys2Proof.Machine

open Work (Hands)

/-! ### The results of every channel -/

theorem Work.handResults_of_disabled {w : Work} {c : Fin 8} (h : (nth w.st.channels c).state = .disabled)
    (before : Tab 8 Channel) : w.handResults before c = w := if_pos h

/-- What the results of every channel's second make of the entries and of the open intervals. -/
theorem Work.handAll_local (before : Tab 8 Channel) (w : Work) :
    (∀ c k, nth (w.forEach (Work.handResults before)).st.alarms (entryOf c k) =
        (nth w.st.alarms (entryOf c k)).evaluated k (nth before c) (nth w.st.channels c) w.st.settings.policy
          w.st.timebase.time) ∧
      ∀ c, (nth (w.forEach (Work.handResults before)).st.intervals c).isSome = (nth w.st.intervals c).isSome ∧
        ((nth w.st.channels c).state = .disabled →
          nth (w.forEach (Work.handResults before)).st.intervals c = nth w.st.intervals c) := by
  have hframe : ∀ (x : Work) c, ∃ a p v, (x.handResults before c).st =
      { x.st with alarms := a, ports := p, intervals := v } := fun x c => x.handResults_frame before c
  refine ⟨fun c k => ?_, fun c => ?_⟩
  · obtain ⟨-, hread⟩ := Work.forEach_local
      (fun x => x.st.channels = w.st.channels ∧ x.st.settings = w.st.settings ∧ x.st.timebase = w.st.timebase)
      (fun x c k => nth x.st.alarms (entryOf c k))
      (fun c e k => (e k).evaluated k (nth before c) (nth w.st.channels c) w.st.settings.policy w.st.timebase.time)
      (Work.handResults before) w ⟨rfl, rfl, rfl⟩ (fun c x ⟨hc, hs, ht⟩ => by
        obtain ⟨a, p, v, hst, -, hself, hother⟩ := x.handResults_local before c
        rw [hst]
        rw [hc, hs, ht] at hself
        exact ⟨⟨hc, hs, ht⟩, funext hself, fun d hd => funext fun k => hother d k hd⟩)
    exact congrFun (hread c) k
  · refine (Work.forEach_induct (fun x => x.st.channels = w.st.channels ∧
      (nth x.st.intervals c).isSome = (nth w.st.intervals c).isSome ∧
        ((nth w.st.channels c).state = .disabled → nth x.st.intervals c = nth w.st.intervals c))
      (Work.handResults before) w ⟨rfl, rfl, fun _ => rfl⟩ fun d x ⟨hc, hopen, hidle⟩ => ?_).2
    obtain ⟨a, p, v, hst, hv, -, -⟩ := x.handResults_local before d
    by_cases hd : d = c
    · subst hd
      refine ⟨by rw [hst]; exact hc, ?_, fun h => ?_⟩
      · rw [hst, nth_put_self, hv]
        exact hopen
      · rw [Work.handResults_of_disabled (by rw [hc]; exact h)]
        exact hidle h
    · rw [hst]
      exact ⟨hc, by rw [nth_put_ne _ _ hd]; exact hopen, fun h => by rw [nth_put_ne _ _ hd]; exact hidle h⟩

/-! ### The tick up to the count of the test -/

theorem tickMoved_frame (pulled : Bool) {s : State} (hu : s.uncommitted) :
    ∃ li p av m, (tickMoved pulled s).st = { s with
      links := li, ports := p, averagers := av, storm := m, test := s.test.afterSupply
      channels := (tickMoved pulled s).st.channels } := by
  obtain ⟨li, p, hi, -⟩ := tickInputs_spec s
  rw [State.commitStages_of_uncommitted hu] at hi
  obtain ⟨m, p', hd⟩ := tickDecided_frame pulled s
  rw [tickJudged, Work.map_st, hi] at hd
  rw [tickMoved, Work.map_st, hd]
  exact ⟨_, _, _, _, rfl⟩

/-- What a second at which nothing commits makes of the state, up to the count of a running test. -/
theorem tickHanded_spec (pulled : Bool) {s : State} (hu : s.uncommitted) :
    ∃ li p av m a v l o, (tickHanded pulled s).st = { s with
        links := li, ports := p, averagers := av, storm := m, test := s.test.afterSupply
        channels := (tickMoved pulled s).st.channels, alarms := a, intervals := v, lines := l, outputs := o } ∧
      (∀ c k, nth a (entryOf c k) = (nth s.alarms (entryOf c k)).evaluated k (nth s.channels c)
        (nth (tickMoved pulled s).st.channels c) s.settings.policy s.timebase.time) ∧
      ∀ c, (nth v c).isSome = (nth s.intervals c).isSome ∧
        ((nth (tickMoved pulled s).st.channels c).state = .disabled → nth v c = nth s.intervals c) := by
  obtain ⟨hentry, hopen⟩ := Work.handAll_local s.channels (tickMoved pulled s)
  obtain ⟨a, p, v, hst⟩ := (tickMoved pulled s).handAll_frame s.channels
  obtain ⟨li, _, av, m, hm⟩ := tickMoved_frame pulled hu
  have hh : (tickHanded pulled s).st =
      ((tickMoved pulled s).forEach (Work.handResults s.channels)).st.evaluateLines.judgeOutputs := by
    rw [tickHanded, tickInputs_channels hu]
    rfl
  rw [hst] at hentry hopen hh
  generalize tickMoved pulled s = w at hentry hopen hh hm ⊢
  rw [hm] at hentry hopen hh
  exact ⟨li, p, av, m, a, v, _, _, hh, hentry, hopen⟩

/-- After a tick at which nothing commits, a channel as its stages 1 to 5, 7 and 8 have made it (R61). -/
theorem tickMoved_channel (pulled : Bool) {s : State} (hu : s.uncommitted) (c : Fin 8) :
    nth (tickMoved pulled s).st.channels c =
      (nth (tickJudged s).st.channels c).move (nth s.settings.analysis c).baselineShift
        (tickDecided pulled s).st.storm.state := by
  obtain ⟨_, _, hi, -⟩ := tickInputs_spec s
  obtain ⟨_, _, hd⟩ := tickDecided_frame pulled s
  have hset : (tickDecided pulled s).st.settings = s.settings := by
    rw [hd, tickJudged, Work.map_st, State.judgeChannels_settings, hi, State.commitStages_of_uncommitted hu]
  rw [tickMoved, Work.map_st, State.moveChannels, nth_tab, hset, tickDecided_channels]

/-! ### The count of the test -/

/-- The state with another remaining duration. -/
def State.withRemaining (s : State) (r : Nat) : State := { s with test := { s.test with remaining := r } }

/-- Everything the count of a test can do (R44). -/
theorem Work.countTest_cases (w : Work) :
    (w.st.test.plan = none ∧ w.countTest = w) ∨
      (w.st.test.plan.isSome = true ∧ 2 ≤ w.st.test.remaining ∧
        w.countTest = w.map (·.withRemaining (w.st.test.remaining - 1))) ∨
      (w.st.test.plan.isSome = true ∧ w.st.test.remaining ≤ 1 ∧
        w.countTest = (w.map (·.withRemaining 0)).endTest .expired .station) := by
  cases h : w.st.test.plan with
  | none => exact .inl ⟨rfl, by rw [Work.countTest, h]; rfl⟩
  | some v =>
    have hrun : ¬ w.st.test.plan.isNone = true := by simp [h]
    refine .inr ?_
    rw [Work.countTest, if_neg hrun]
    by_cases hr : 2 ≤ w.st.test.remaining
    · exact .inl ⟨rfl, hr, if_neg (by omega)⟩
    · have hzero : w.st.test.remaining - 1 = 0 := by omega
      refine .inr ⟨rfl, by omega, ?_⟩
      dsimp only
      rw [hzero, if_pos rfl]
      rfl

/-- What follows the count of a test in a tick. -/
theorem secondTick_of_counted (pulled : Bool) (s : State) :
    ∃ st p pr g fr tb, secondTick pulled s = { (tickHanded pulled s).countTest.st with
      store := st, ports := p, proposal := pr, generation := g, free := fr, timebase := tb } := by
  unfold secondTick tickCounted
  generalize (tickHanded pulled s).countTest = w
  obtain ⟨pr, p, hw⟩ := w.countWindows_frame
  obtain ⟨g, pr', p', st, fr, hc⟩ := w.countWindows.join.closeCommit_frame
  refine ⟨st, p', pr', g, fr, w.countWindows.join.closeCommit.endSecond.timebase, ?_⟩
  rw [State.endSecond, hc, Work.join, hw]

end Sys2Proof.Machine
end

section
/-! ## The value a test supplies, and its expiry (R40 to R44, R46) -/

namespace Sys2Proof.Machine

open Work (Hands)

/-! ### The form's counters -/

theorem TestGen.supply_snapshots (t : TestGen) (p : TestItem) : (t.supply p).snapshots = t.snapshots := by
  unfold TestGen.supply
  cases p.form <;> dsimp only
  split <;> rfl

theorem TestGen.afterSupply_snapshots (t : TestGen) : t.afterSupply.snapshots = t.snapshots := by
  unfold TestGen.afterSupply
  split
  · exact t.supply_snapshots _
  · rfl

/-- The register's other bits move up by one (R43). -/
theorem stepPrbs_shifted (r : BitVec 15) (k : Fin 14) : (stepPrbs r).getLsbD (k.val + 1) = r.getLsbD k.val := by
  have hk := k.isLt
  unfold stepPrbs
  cases r.getLsbD 14 != r.getLsbD 13
  · simp
    omega
  · simp
    omega

theorem TestGen.supply_ramp (t : TestGen) {p : TestItem} (h : p.form = .ramp) :
    (t.supply p).ramp = clampCurrent (t.ramp + p.slope) := by
  unfold TestGen.supply
  rw [h]

theorem TestGen.supply_square (t : TestGen) {p : TestItem} (h : p.form = .square) :
    (t.supply p).squareCount = (if t.squareCount ≤ 1 then p.halfPeriod else t.squareCount - 1) ∧
      (t.supply p).squarePlus = (if t.squareCount ≤ 1 then !t.squarePlus else t.squarePlus) := by
  unfold TestGen.supply
  rw [h]
  dsimp only
  split <;> exact ⟨rfl, rfl⟩

theorem TestGen.supply_prbs (t : TestGen) {p : TestItem} (h : p.form = .prbs) :
    (t.supply p).prbs = stepPrbs t.prbs := by
  unfold TestGen.supply
  rw [h]

/-- A test second that is not the last leaves the test as the supply has made it, but for the count (R40, R44). -/
theorem secondTick_test_of_goesOn (pulled : Bool) {s : State} (hu : s.uncommitted) {v : TestItem}
    (hplan : s.test.plan = some v) (hr : 2 ≤ s.test.remaining) :
    (secondTick pulled s).test = { s.test.supply v with remaining := s.test.remaining - 1 } := by
  obtain ⟨hplan', hrem⟩ := s.test.afterSupply_frame
  have hsupply : s.test.afterSupply = s.test.supply v := by rw [TestGen.afterSupply, hplan]
  have htest : (tickHanded pulled s).st.test = s.test.afterSupply := by
    obtain ⟨_, _, _, _, _, _, _, _, h, -⟩ := tickHanded_spec pulled hu
    rw [h]
  obtain ⟨_, _, _, _, _, _, hst⟩ := secondTick_of_counted pulled s
  rw [hst]
  rcases (tickHanded pulled s).countTest_cases with ⟨hnone, -⟩ | ⟨-, -, h⟩ | ⟨-, hlast, -⟩
  · rw [htest, hplan', hplan] at hnone
    cases hnone
  · rw [h, Work.map_st, State.withRemaining, htest, hrem, hsupply]
  · rw [htest, hrem] at hlast
    omega

/-! ### Records that join a queue which they do not fill -/

theorem Store.foldl_join_prefix (l : List QueuedRecord) (st : Store) : st.queue <+: (l.foldl Store.join st).queue :=
  Store.foldl_join (fun x => st.queue <+: x.queue) (fun x q hx => hx.trans (x.join_prefix q)) l st (List.prefix_refl _)

/-- With no loss counted, records that leave the queue with room have all joined it. -/
theorem Store.foldl_join_of_unfilled (l : List QueuedRecord) {st : Store} (hl : st.loss = 0)
    (h : (l.foldl Store.join st).queue.length < 64) :
    (l.foldl Store.join st).queue = st.queue ++ l.map (·.carrying 0) := by
  induction l generalizing st with
  | nil => simp
  | cons q l ih =>
    have hroom : st.queue.length < 64 := (Store.foldl_join_prefix (q :: l) st).length_le.trans_lt h
    rw [List.foldl_cons, Store.join_room hroom hl] at h ⊢
    rw [ih rfl h]
    simp

theorem Work.mem_join_of_unfilled {w : Work} {x : Sender} {q : QueuedRecord} (hq : ⟨x, q⟩ ∈ w.out)
    (hl : w.st.store.loss = 0) (h : w.join.store.queue.length < 64) : q.carrying 0 ∈ w.join.store.queue := by
  obtain ⟨l, hperm, hjoin⟩ := w.join_store
  rw [hjoin] at h ⊢
  rw [Store.foldl_join_of_unfilled l hl h]
  exact List.mem_append_right _ (List.mem_map.mpr ⟨q, hperm.mem_iff.mpr (List.mem_map.mpr ⟨_, hq, rfl⟩), rfl⟩)

/-! ### The last test second -/

/-- The remaining duration reaches nothing of a tick before the count. -/
theorem tickMoved_channels_withRemaining (pulled : Bool) {s : State} (hu : s.uncommitted) (r : Nat) :
    (tickMoved pulled (s.withRemaining r)).st.channels = (tickMoved pulled s).st.channels := by
  have hjudged : (tickJudged (s.withRemaining r)).st.channels = (tickJudged s).st.channels :=
    tab_ext fun c => (tickJudged_channel (s := s.withRemaining r) hu c).trans (tickJudged_channel hu c).symm
  have hkeeps : ∀ {x : State}, x.uncommitted → (tickJudged x).st.settings = x.settings ∧
      (tickJudged x).st.timebase = x.timebase := fun {x} hx => by
    obtain ⟨_, _, hi, -⟩ := tickInputs_spec x
    rw [tickJudged, Work.map_st, State.judgeChannels_settings, State.judgeChannels_timebase, hi,
      State.commitStages_of_uncommitted hx]
    exact ⟨rfl, rfl⟩
  have hstorm : (tickDecided pulled (s.withRemaining r)).st.storm = (tickDecided pulled s).st.storm := by
    rw [tickDecided_storm, tickDecided_storm, hjudged, (hkeeps (x := s.withRemaining r) hu).1, (hkeeps hu).1,
      (hkeeps (x := s.withRemaining r) hu).2, (hkeeps hu).2, State.commitStages_of_uncommitted hu,
      State.commitStages_of_uncommitted (s := s.withRemaining r) hu]
    rfl
  refine tab_ext fun c => ?_
  rw [tickMoved_channel pulled (s := s.withRemaining r) hu, tickMoved_channel pulled hu, hjudged, hstorm]
  rfl

/-- The baseline of a channel in TEST stands (R72). -/
theorem tickMoved_baseline_of_test (pulled : Bool) {s : State} (hu : s.uncommitted) {c : Fin 8}
    (h : (nth s.channels c).state = .test) :
    (nth (tickMoved pulled s).st.channels c).bAcc = (nth s.channels c).bAcc := by
  have hd : (nth s.channels c).state ≠ .disabled := by rw [h]; decide
  rw [tickMoved_channel pulled hu]
  cases hg : s.secondValue c with
  | none =>
    rw [tickJudged_of_absent hu hd hg, Channel.move_of_absent (Channel.absent_latest ..), Channel.absent_eq hd]
  | some g =>
    have hresumed : (nth s.channels c).resumed = .test := by
      unfold Channel.resumed
      rw [h]
      rfl
    rw [tickJudged_of_present hu hd hg, Channel.present_of_measuring (.inr hresumed),
      Channel.move_of_measuring (.inr hresumed) ⟨_, rfl, rfl⟩]
    simp [hresumed]

section Expiry

variable (pulled : Bool) {s : State} (hu : s.uncommitted) {v : TestItem} (hplan : s.test.plan = some v)
  (hr : s.test.remaining ≤ 1)
include hu hplan hr

theorem expiresTest_of_last : expiresTest s = true := by
  obtain ⟨_, _, hi, -⟩ := tickInputs_spec s
  obtain ⟨hplan', hrem⟩ := s.test.afterSupply_frame
  unfold expiresTest
  rw [hi, State.commitStages_of_uncommitted hu]
  dsimp only
  rw [hplan', hrem, hplan]
  simpa using hr

/-- The count of the last second is the end of the test, made of what the second's results have left (R44). -/
theorem tickHanded_expires :
    ∃ w : Work, (tickHanded pulled s).countTest = w.endTest .expired .station ∧ w.st.test.plan = some v ∧
      w.st.settings = s.settings ∧ w.st.timebase = s.timebase ∧ w.st.channels = (tickMoved pulled s).st.channels ∧
      w.st.test.snapshots = s.test.snapshots ∧
      (∀ c k, nth w.st.alarms (entryOf c k) = (nth s.alarms (entryOf c k)).evaluated k (nth s.channels c)
        (nth (tickMoved pulled s).st.channels c) s.settings.policy s.timebase.time) ∧
      ∀ c, (nth w.st.intervals c).isSome = (nth s.intervals c).isSome := by
  obtain ⟨_, _, _, _, a, i, _, _, hh, hentry, hopen⟩ := tickHanded_spec pulled hu
  obtain ⟨hplan', hrem⟩ := s.test.afterSupply_frame
  have hsaved := s.test.afterSupply_snapshots
  rw [hplan] at hplan'
  generalize s.test.afterSupply = t at hh hplan' hrem hsaved
  generalize (tickMoved pulled s).st.channels = ch at hh hentry ⊢
  generalize tickHanded pulled s = w at hh ⊢
  have hend : w.countTest = (w.map (·.withRemaining 0)).endTest .expired .station := by
    rcases w.countTest_cases with ⟨hnone, -⟩ | ⟨-, hgoes, -⟩ | ⟨-, -, h⟩
    · rw [hh, hplan'] at hnone
      cases hnone
    · rw [hh, hrem] at hgoes
      omega
    · exact h
  refine ⟨_, hend, ?_⟩
  rw [Work.map_st, hh]
  exact ⟨hplan', rfl, rfl, rfl, hsaved, hentry, fun c => (hopen c).1⟩

/-- What the tick that ends a test leaves of the test, the channels, the entries and the intervals (R44, R46). -/
theorem secondTick_of_last :
    (secondTick pulled s).test = .reset ∧
      (∀ c, nth (secondTick pulled s).channels c =
        (nth (tickMoved pulled s).st.channels c).putBack (nth s.test.snapshots c)) ∧
      (∀ c k, nth (secondTick pulled s).alarms (entryOf c k) =
        ((nth s.alarms (entryOf c k)).evaluated k (nth s.channels c) (nth (tickMoved pulled s).st.channels c)
          s.settings.policy s.timebase.time).moved k (nth (tickMoved pulled s).st.channels c)
            (nth (secondTick pulled s).channels c) s.settings.policy s.timebase.time) ∧
      ∀ c, (nth s.test.snapshots c).isSome →
        nth (secondTick pulled s).intervals c = (nth s.intervals c).map fun _ => .opened := by
  obtain ⟨w, hend, hsome, hset, htime, hchannels, hsaved, hentry, hopen⟩ := tickHanded_expires pulled hu hplan hr
  obtain ⟨⟨a, p, hst⟩, hturned, -, -⟩ := Work.endTest_spec hsome .expired .station
  obtain ⟨_, _, _, _, _, _, hsecond⟩ := secondTick_of_counted pulled s
  rw [hend] at hsecond
  generalize w.endTest .expired .station = x at hst hturned hsecond
  generalize secondTick pulled s = t at hsecond ⊢
  have htest : t.test = x.st.test := by rw [hsecond]
  have hch : t.channels = x.st.channels := by rw [hsecond]
  have hal : t.alarms = x.st.alarms := by rw [hsecond]
  have hiv : t.intervals = x.st.intervals := by rw [hsecond]
  refine ⟨by rw [htest, hst], fun c => ?_, fun c k => ?_, fun c hc => ?_⟩
  · rw [hch, (hturned c).channel, endedParts, State.parts, hchannels, hsaved]
  · rw [hch, hal, (hturned c).entry, ← (hturned c).channel, hchannels, hset, htime, hentry]
  · have hclosed : nth x.st.intervals c = (nth w.st.intervals c).map fun _ => .opened := by
      rw [hst]
      refine (nth_tab _ c).trans ?_
      dsimp only [endedParts, State.parts]
      rw [hsaved, if_pos hc]
    have ho := hopen c
    rw [hiv, hclosed]
    revert ho
    cases nth w.st.intervals c <;> cases nth s.intervals c <;> simp

/-- What the tick that ends a test tells the ports, and the event that it hands over (R44, R46). -/
theorem secondTick_told_of_last :
    (secondTick pulled s).toldTest 1 ∧
      (s.store.loss = 0 → (secondTick pulled s).store.queue.length < 64 →
        s.eventRecord .station (.test true v.inputs v.form .expired) ∈ (secondTick pulled s).store.queue) := by
  obtain ⟨w, hend, hsome, -, htime, -⟩ := tickHanded_expires pulled hu hplan hr
  obtain ⟨-, -, hevent, htold⟩ := Work.endTest_spec hsome .expired .station
  rw [← hend] at hevent htold
  refine ⟨secondTick_toldTest_of_counted (Work.countWindows_toldTest htold), fun hloss hroom => ?_⟩
  have hgrows := tickCounted_grows pulled s
  have hstore := (hands_tickCounted pulled s).store
  rw [State.commitStages_of_uncommitted hu] at hstore
  have hmem : _ ∈ (tickCounted pulled s).out := (Work.hands_countWindows _).mem hevent
  have hjoin := Work.mem_join_of_unfilled hmem ((congrArg Store.loss hstore).trans hloss)
    (hgrows.queue.length_le.trans_lt hroom)
  rw [State.followingRecord_carrying, htime] at hjoin
  refine hgrows.queue.subset ?_
  rw [State.eventRecord, hloss]
  exact hjoin

end Expiry

/-- What a tick that ends no test leaves of the channels and the entries. -/
theorem secondTick_entries_of_goesOn (pulled : Bool) {s : State} (hu : s.uncommitted) (ht : s.testGoesOn) (c : Fin 8)
    (k : AlarmKind) :
    nth (secondTick pulled s).alarms (entryOf c k) = (nth s.alarms (entryOf c k)).evaluated k (nth s.channels c)
      (nth (tickMoved pulled s).st.channels c) s.settings.policy s.timebase.time := by
  obtain ⟨_, _, _, _, _, _, _, _, hh, hentry, -⟩ := tickHanded_spec pulled hu
  obtain ⟨_, _, _, _, _, _, hsecond⟩ := secondTick_of_counted pulled s
  have hgoes := tickHanded_testGoesOn pulled hu ht
  generalize tickHanded pulled s = w at hh hsecond hgoes
  have hcount : w.countTest.st.alarms = w.st.alarms := by
    rcases w.countTest_cases with ⟨-, h⟩ | ⟨-, -, h⟩ | ⟨hrun, hlast, -⟩
    · rw [h]
    · rw [h]
      rfl
    · rcases hgoes with hnone | hgoes
      · rw [hnone] at hrun
        cases hrun
      · omega
  rw [hsecond]
  dsimp only
  rw [hcount, hh]
  exact hentry c k

/-- Settles O20: a test second moves the form's counters, and the last one is followed by the end of the test. -/
theorem testSupplies : Obligations.TestSupplies := by
  refine ⟨fun s pulled v hu hplan hr => ?_, fun s pulled v hu hplan hr => ?_⟩
  · have htest := secondTick_test_of_goesOn pulled hu hplan hr
    refine ⟨_, rfl, ?_⟩
    rw [htest]
    refine ⟨(s.test.supply_plan v).trans hplan, rfl, s.test.supply_snapshots v, fun hf => ?_, fun hf => ?_, fun hf => ?_,
      fun hf => ?_⟩
    · exact (s.test.supply_supplied v).trans (by rw [hf])
    · exact ⟨(s.test.supply_supplied v).trans (by rw [hf]), s.test.supply_ramp hf⟩
    · exact ⟨(s.test.supply_supplied v).trans (by rw [hf]), s.test.supply_square hf⟩
    · dsimp only
      rw [s.test.supply_prbs hf, stepPrbs_newBit]
      exact ⟨rfl, stepPrbs_shifted _, (s.test.supply_supplied v).trans (by rw [hf])⟩
  · obtain ⟨htest, hchannel, hentry, hinterval⟩ := secondTick_of_last pulled hu hplan hr
    obtain ⟨htold, hevent⟩ := secondTick_told_of_last pulled hu hplan hr
    refine ⟨secondTick pulled s, ?_, rfl, by rw [htest]; rfl, by rw [htest]; rfl, by rw [htest]; rfl,
      fun c => by rw [htest]; exact nth_tab .., fun c n hn => ?_, ⟨_, rfl, fun c k => ?_⟩, hinterval, htold, hevent⟩
    · change Host.Outcome.next (if expiresTest s = true then secondTick pulled s else s) = _
      rw [if_pos (expiresTest_of_last hu hplan hr)]
    · rw [hchannel, hn]
      refine ⟨rfl, rfl, rfl, rfl, fun hl => ?_, rfl, fun h => tickMoved_baseline_of_test pulled hu h⟩
      simp only [Channel.putBack, Channel.restore, if_pos hl]
    · have hgoes : (s.withRemaining 2).testGoesOn := .inr (Nat.le_refl 2)
      rw [hentry]
      change _ = (nth (secondTick pulled (s.withRemaining 2)).alarms _).moved k
        (nth (secondTick pulled (s.withRemaining 2)).channels c) _ _ _
      rw [secondTick_entries_of_goesOn pulled (s := s.withRemaining 2) hu hgoes,
        secondTick_channels pulled (s := s.withRemaining 2) hu hgoes, tickMoved_channels_withRemaining pulled hu]
      rfl

end Sys2Proof.Machine
end

section
/-! ## The commit of a MAP item that changes a source record (R47, R53, R54, R77, R79, R84, R103, R104, R122, R126) -/

namespace Sys2Proof.Machine

open Work (Hands)

/-! ### The entries of the channel (R103) -/

/-- The entries once those of a channel have been reset. -/
def State.resetAlarms (s : State) (c : Fin 8) : Tab 32 AlarmEntry :=
  tab fun i => if channelOf i = c then (nth s.alarms i).byReset s.timebase.time else nth s.alarms i

/-- Every port has been told of a change of an entry of a channel (R175). -/
def State.toldAlarm (s : State) (c : Fin 8) : Prop :=
  ∀ p, (s.port p).notices.flags.getLsbD 0 = true ∧ (s.port p).notices.alarm.getLsbD c.val = true

theorem State.toldAlarm.later {s t : State} {c : Fin 8} (h : s.toldAlarm c) (ht : s.told t) : t.toldAlarm c := fun p => by
  obtain ⟨hflags, halarm, -⟩ := ht p
  exact ⟨hflags _ (h p).1, halarm _ (h p).2⟩

theorem Work.moveEntry_toldAlarm (w : Work) (c : Fin 8) (k : AlarmKind) (e : AlarmEntry) (v : Nat) (cause : AlarmCause) :
    (w.moveEntry (.alarm c) (entryOf c k) e v cause).st.toldAlarm c := fun p => by
  have hport : (w.moveEntry (.alarm c) (entryOf c k) e v cause).st.port p =
      { w.st.port p with notices := (w.st.port p).notices.addAlarm (bitOf 8 (channelOf (entryOf c k))) } :=
    w.st.port_notifyAll (·.addAlarm (bitOf 8 (channelOf (entryOf c k)))) p
  rw [hport, channelOf_entryOf]
  exact (w.st.port p).notices.addAlarm_bits c

/-- One entry's turn in a reset of its channel: it goes to NORMAL, the ports are told, and its event is handed over; the
turns that follow keep all that. -/
theorem Work.resetEntries_turn (w : Work) (c : Fin 8) (k : AlarmKind) :
    nth (w.resetEntries c).st.alarms (entryOf c k) = (nth w.st.alarms (entryOf c k)).byReset w.st.timebase.time ∧
      (w.resetEntries c).st.toldAlarm c ∧
      ⟨.alarm c, w.st.followingRecord (.channel c) (.alarm (entryOf c k) (nth w.st.alarms (entryOf c k)).state .normal
        (nth w.st.alarms (entryOf c k)).peak .reset)⟩ ∈ (w.resetEntries c).out := by
  obtain ⟨_, x, htime, hread, hafter, hhands⟩ := Work.foldl_turn (β := AlarmEntry)
    (f := fun w k => w.moveEntry (.alarm c) (entryOf c k)
      ((nth w.st.alarms (entryOf c k)).byReset w.st.timebase.time) (nth w.st.alarms (entryOf c k)).peak .reset)
    (fun x => x.st.timebase = w.st.timebase) (fun x m => nth x.st.alarms (entryOf c m))
    (fun x m => x.hands_moveEntry ..) (fun x m hx => hx)
    (fun x m d _ hd => nth_put_ne _ _ fun h => hd (entryOf_inj h).2.symm) (by decide) (AlarmKind.mem_alarmKinds k)
    (w := w) rfl
  change nth (w.resetEntries c).st.alarms (entryOf c k) = _ at hafter
  change Hands _ _ (w.resetEntries c) at hhands
  rw [← hread, ← htime]
  refine ⟨hafter.trans (nth_put_self ..), State.toldAlarm.later (x.moveEntry_toldAlarm c k _ _ _) hhands.told, hhands.mem ?_⟩
  rw [Work.moveEntry_out, channelOf_entryOf, State.followingRecord, ← htime]
  exact List.mem_append_right _ (List.mem_singleton_self _)

theorem Work.resetEntries_entry_ne (w : Work) {c d : Fin 8} (k : AlarmKind) (h : d ≠ c) :
    nth (w.resetEntries c).st.alarms (entryOf d k) = nth w.st.alarms (entryOf d k) :=
  foldl_kinds (fun x : Work => nth x.st.alarms (entryOf d k) = nth w.st.alarms (entryOf d k)) _ w rfl fun _ _ hx =>
    (nth_put_ne _ _ fun e => h (entryOf_inj e).1.symm).trans hx

theorem Work.resetEntries_st (w : Work) (c : Fin 8) :
    ∃ p, (w.resetEntries c).st = { w.st with alarms := w.st.resetAlarms c, ports := p } := by
  obtain ⟨a, p, hst⟩ := w.resetEntries_frame c
  have ha : a = w.st.resetAlarms c := tab_ext fun i => by
    obtain ⟨d, k, rfl⟩ := exists_entryOf i
    rw [State.resetAlarms, nth_tab, channelOf_entryOf]
    split
    · next h =>
      subst h
      have hself := (w.resetEntries_turn d k).1
      rwa [hst] at hself
    · next h =>
      have hother := w.resetEntries_entry_ne k h
      rwa [hst] at hother
  exact ⟨p, by rw [hst, ha]⟩

theorem Work.hands_resetEntries (w : Work) (c : Fin 8) : Hands 4 w (w.resetEntries c) :=
  Hands.foldl (fun w _ => w.hands_moveEntry ..) alarmKinds w

/-! ### The channel and its snapshot -/

/-- What a changed source record leaves of the channel and its snapshot, written out from R47, R53, R54 and R77. -/
theorem remapped_eq (ch : Channel) (enabled targeted : Bool) (m : StartMode) (ht : targeted = true → enabled = true) :
    remapped ch enabled (ch.state == .test) targeted m =
      ({ state :=
          if enabled = false then .disabled else if targeted then .test else if m == .learn then .learning else .armed
         left :=
          if enabled = false ∨ ch.state = .test then ch.left else if m == .learn then .learning else .armed
         bAcc := 0, eAcc := 0, x := 0
         conds := { excursion := false, warn := false, alarm := false, exposure := false }
         absence := 0, learned := 0
         latest := if enabled then ch.latest else none },
       if targeted then
        some
          { eAcc := 0, x := 0, conds := { excursion := false, warn := false, alarm := false, exposure := false }
            learning := m == .learn, learned := 0 }
       else none) := by
  unfold remapped
  cases enabled with
  | false =>
    cases targeted
    · rfl
    · cases ht rfl
  | true =>
    by_cases hs : ch.state = .test
    · rw [hs]
      cases targeted <;> cases m <;> rfl
    · have hb : (ch.state == .test) = false := by simpa using hs
      have hleft : ¬ (true = false ∨ ch.state = .test) := by simpa using hs
      rw [hb, if_neg hleft]
      cases targeted <;> cases m <;> rfl

/-- A fresh record holds no exposure, and no more does its snapshot. -/
theorem remapped_exposure (ch : Channel) {enabled targeted : Bool} (m : StartMode)
    (ht : targeted = true → enabled = true) :
    (remapped ch enabled (ch.state == .test) targeted m).1.x = 0 ∧
      ∀ n, (remapped ch enabled (ch.state == .test) targeted m).2 = some n → n.x = 0 := by
  rw [remapped_eq ch enabled targeted m ht]
  refine ⟨rfl, fun n hn => ?_⟩
  cases targeted
  · cases hn
  · cases hn
    rfl

/-- A clamp reaches no exposure of 0 (R79, R84). -/
theorem State.clampExposure_of_zero {s : State} {c : Fin 8} (hx : (nth s.channels c).x = 0)
    (hn : ∀ n, nth s.test.snapshots c = some n → n.x = 0) : s.clampExposure c = s := by
  have hch : ∀ top, { nth s.channels c with x := min (nth s.channels c).x top } = nth s.channels c := fun top => by
    rw [hx, Nat.zero_min, ← hx]
  have hsn : ∀ top, (nth s.test.snapshots c).map (fun n => { n with x := min n.x top }) = nth s.test.snapshots c :=
    fun top => by
      cases h : nth s.test.snapshots c with
      | none => rfl
      | some n => rw [Option.map_some, hn n h, Nat.zero_min, ← hn n h]
  unfold State.clampExposure upd
  simp only [hch, hsn, put_nth]

/-! ### The reset (R77, R79) -/

/-- The channel and the snapshot that a commit leaves which puts these settings in force (R77). -/
def State.remappedRecord (s : State) (new : Settings) (c : Fin 8) : Channel × Option Snapshot :=
  remapped (nth s.channels c) (nth new.map c).enabled ((nth s.channels c).state == .test)
    (s.test.plan.any fun p => (nth new.map c).targeted p.inputs) (nth new.analysis c).startMode

/-- The state with new settings in force and the channel reset whose source record they change. -/
def State.mapReset (s : State) (new : Settings) (c : Fin 8) : State :=
  { s with
    settings := new
    channels := put s.channels c (s.remappedRecord new c).1
    test := { s.test with snapshots := put s.test.snapshots c (s.remappedRecord new c).2 }
    alarms := s.resetAlarms c
    lines := tab fun l => refreshLine (nth new.output l) (s.resetAlarms c) (nth s.lines l)
    intervals := put s.intervals c (if (nth new.map c).enabled then some .opened else none) }

/-- Only an enabled channel uses an input of a test. -/
theorem MapItem.enabled_of_targeted {m : MapItem} {plan : Option TestItem}
    (h : (plan.any fun p => m.targeted p.inputs) = true) : m.enabled = true := by
  obtain ⟨p, -, hp⟩ := Option.any_eq_true _ _ |>.mp h
  rw [MapItem.targeted_eq, Bool.and_eq_true] at hp
  exact hp.1

theorem remappedInterval_closed (enabled : Bool) (v : Option Interval) :
    remappedInterval enabled (v.map fun _ => .opened) = if enabled then some .opened else none := by
  cases enabled <;> cases v <;> rfl

/-- The reset of a channel, its interval closed before it. -/
theorem Work.remap_closed_st (s : State) (new : Settings) (c : Fin 8) :
    ∃ p, (((Work.start { s with settings := new }).closeInterval c false).remap c).st =
      { s.mapReset new c with ports := p } := by
  have hclose := (Work.start { s with settings := new }).closeInterval_st c false
  generalize (Work.start { s with settings := new }).closeInterval c false = w at hclose ⊢
  obtain ⟨p, hst⟩ := w.resetEntries_st c
  have halarms : w.st.resetAlarms c = s.resetAlarms c := by
    rw [hclose]
    rfl
  rw [halarms] at hst
  refine ⟨p, ?_⟩
  unfold Work.remap
  dsimp only
  rw [Work.map_st, hst, hclose]
  unfold State.mapReset State.remappedRecord
  simp only [State.refreshLines, Work.start_st, nth_put_self, put_put, remappedInterval_closed]

theorem Work.hands_remap (w : Work) (c : Fin 8) : Hands 4 w (w.remap c) := by
  have h := w.hands_resetEntries c
  unfold Work.remap
  dsimp only
  generalize w.resetEntries c = u at h ⊢
  exact h.trans (Hands.map u rfl rfl rfl)

/-- A reset tells every port, and hands over one event for each of the channel's entries. -/
theorem Work.remap_told (w : Work) (c : Fin 8) :
    (w.remap c).st.toldAlarm c ∧
      ∀ k, ⟨.alarm c, w.st.followingRecord (.channel c) (.alarm (entryOf c k) (nth w.st.alarms (entryOf c k)).state .normal
        (nth w.st.alarms (entryOf c k)).peak .reset)⟩ ∈ (w.remap c).out := by
  have h := w.resetEntries_turn c
  unfold Work.remap
  dsimp only
  generalize w.resetEntries c = u at h ⊢
  exact ⟨(h .warn).2.1, fun k => (h k).2.2⟩

/-- Stage 2 for a channel whose source record a commit changes. -/
theorem Work.commitChannel_of_changed {old : Settings} {items : List Item} {c : Fin 8} {w : Work}
    (h : nth old.map c ≠ nth w.st.settings.map c) :
    w.commitChannel old items c =
      if (nth w.st.settings.exposure c).limit < (nth old.exposure c).limit then
        ((w.closeInterval c false).remap c).map fun s => s.clampExposure c
      else (w.closeInterval c false).remap c := by
  unfold Work.commitChannel
  simp only [ne_eq, h, not_false_eq_true, true_or, if_true]

/-! ### The start of a test behind it (R190, stage 5) -/

/-- The start of the test of a TEST item, if there is one. -/
def State.startIf (s : State) (test : Option TestItem) : State :=
  match test with
  | some x => ((Work.start s).startTest x).join
  | none => s

theorem Work.like_startTestOn {w x : Work} (h : w.like x) (inputs : BitVec 8) (c : Fin 8) :
    (w.startTestOn inputs c).like (x.startTestOn inputs c) := by
  have hs : x.st.settings = w.st.settings := by
    obtain ⟨_, _, _, _, _, e⟩ := h
    rw [e]
  have hc : x.st.channels = w.st.channels := by
    obtain ⟨_, _, _, _, _, e⟩ := h
    rw [e]
  rw [Work.startTestOn_eq, Work.startTestOn_eq, hs, hc]
  split
  · refine Work.like_setChannel ?_ c _
    unfold Work.saveChannel
    rw [hc]
    exact Work.like_map (Work.like_closeInterval h ..) fun _ _ ⟨_, _, _, _, _, e⟩ => by
      subst e
      exact ⟨_, _, _, _, _, rfl⟩
  · exact h

theorem Work.like_startTest {w x : Work} (h : w.like x) (v : TestItem) : (w.startTest v).like (x.startTest v) := by
  have ht : x.st.test = w.st.test := by
    obtain ⟨_, _, _, _, _, e⟩ := h
    rw [e]
  cases hp : w.st.test.plan with
  | some p =>
    rw [Work.startTest, Work.startTest, if_pos (by rw [hp]; rfl), if_pos (by rw [ht, hp]; rfl)]
    exact h
  | none =>
    have hbegin : (w.beginTest v).like (x.beginTest v) := Work.like_map h fun _ _ ⟨_, _, _, _, _, e⟩ => by
      subst e
      exact ⟨_, _, _, _, _, rfl⟩
    have hall := Work.like_forEach hbegin (f := Work.startTestOn v.inputs) (g := Work.startTestOn v.inputs)
      fun c _ _ hx => Work.like_startTestOn hx v.inputs c
    rw [Work.startTest_eq hp, Work.startTest_eq (by rw [ht, hp])]
    generalize (w.beginTest v).forEach (Work.startTestOn v.inputs) = a at hall ⊢
    generalize (x.beginTest v).forEach (Work.startTestOn v.inputs) = b at hall ⊢
    obtain ⟨st, _, g, fr, pr, e⟩ := State.like_notifyAll hall (·.addTest false) (·.addTest false)
    change (a.st.notifyAll (·.addTest false)).refreshLines.like (b.st.notifyAll (·.addTest false)).refreshLines
    rw [e]
    exact ⟨_, _, _, _, _, rfl⟩

theorem State.startIf_like {s t : State} (h : s.like t) (test : Option TestItem) :
    (s.startIf test).like (t.startIf test) := by
  cases test with
  | none => exact h
  | some x => exact Work.join_like (Work.like_startTest (w := .start s) (x := .start t) h x)

theorem Work.hands_startTest (w : Work) (v : TestItem) : Hands 17 w (w.startTest v) := by
  cases hp : w.st.test.plan with
  | some p =>
    rw [Work.startTest, if_pos (by rw [hp]; rfl)]
    exact .refl 17 w
  | none => exact (Work.startTest_spec hp v).2.2.1

theorem State.startIf_grows (s : State) (test : Option TestItem) : s.Grows (s.startIf test) := by
  cases test with
  | none => exact ⟨State.told_of_ports rfl, List.prefix_refl _⟩
  | some x =>
    have h := (Work.start s).hands_startTest x
    refine State.Grows.trans ⟨h.told, ?_⟩ (Work.join_grows _)
    rw [h.store]
    exact List.prefix_refl _

/-! ### The items of one channel (R190) -/

section ChannelItems

variable {c : Fin 8} {v : MapItem} {analysis : Option AnalysisItem} {levels : Option LevelsItem}
  {exposure : Option ExposureItem} {test : Option TestItem} {items : List Item}

theorem any_ofChannel (h : ∀ i ∈ items, ofChannel c v analysis levels exposure test i) {q : Item → Bool}
    (hm : q (.map c v) = false) (ha : ∀ x, q (.analysis c x) = false) (hl : ∀ x, q (.levels c x) = false)
    (he : ∀ x, q (.exposure c x) = false) (ht : ∀ x, q (.test x) = false) : items.any q = false := by
  rw [List.any_eq_false]
  intro i hi
  rw [Bool.not_eq_true]
  obtain rfl | ⟨x, -, rfl⟩ | ⟨x, -, rfl⟩ | ⟨x, -, rfl⟩ | ⟨x, -, rfl⟩ := h i hi
  exacts [hm, ha x, hl x, he x, ht x]

theorem linkItem_ofChannel (h : ∀ i ∈ items, ofChannel c v analysis levels exposure test i) (n : Fin 8) :
    linkItem items n = none := by
  unfold linkItem
  rw [List.findSome?_eq_none_iff]
  intro i hi
  obtain rfl | ⟨x, -, rfl⟩ | ⟨x, -, rfl⟩ | ⟨x, -, rfl⟩ | ⟨x, -, rfl⟩ := h i hi <;> rfl

/-- They reach no other block, and not the store. -/
theorem State.commitBlocks_ofChannel (h : ∀ i ∈ items, ofChannel c v analysis levels exposure test i) {s : State}
    {old : Settings} (hd : old.divider = s.settings.divider) : (s.commitBlocks old items).commitStore items = s := by
  rw [State.commitBlocks_of_noLink _ _ (linkItem_ofChannel h), State.commitDivider_of_same hd]
  unfold State.commitStore State.commitOutputs State.commitLines State.commitStation
  simp [any_ofChannel h]

variable (hi : ∀ i, i ∈ items ↔ ofChannel c v analysis levels exposure test i)
include hi

/-- The settings of every other channel stand, and its interval is closed by none of the items. -/
theorem applyAll_ofChannel_other (s : Settings) {d : Fin 8} (hd : d ≠ c) :
    nth (s.applyAll items).map d = nth s.map d ∧ nth (s.applyAll items).exposure d = nth s.exposure d ∧
      items.any (Item.closes d) = false := by
  rw [Settings.applyAll_eq s hi]
  have hne : ∀ {α : Type} (t : Tab 8 α) (x : α), nth (put t c x) d = nth t d := fun t x => nth_put_ne t x (Ne.symm hd)
  exact ⟨hne .., hne .., any_ofChannel (fun i h => (hi i).mp h) rfl (fun _ => by simp [Item.closes, Ne.symm hd])
    (fun _ => by simp [Item.closes, Ne.symm hd]) (fun _ => by simp [Item.closes, Ne.symm hd]) fun _ => rfl⟩

theorem applyAll_ofChannel_map (s : Settings) : nth (s.applyAll items).map c = v := by
  rw [Settings.applyAll_eq s hi]
  exact nth_put_self ..

/-- Stage 2 is the reset of the channel alone: the exposure clamp of the same commit finds nothing to clamp (R79). -/
theorem State.commitChannels_ofChannel {s : State} (hv : nth s.settings.map c ≠ v) :
    s.commitChannels items =
      (((Work.start { s with settings := s.settings.applyAll items }).closeInterval c false).remap c).join := by
  have hmap := applyAll_ofChannel_map hi s.settings
  have hother := fun {d} (hd : d ≠ c) => applyAll_ofChannel_other hi s.settings hd
  unfold State.commitChannels
  generalize s.settings.applyAll items = new at hmap hother ⊢
  have hself : (Work.start { s with settings := new }).commitChannel s.settings items c =
      ((Work.start { s with settings := new }).closeInterval c false).remap c := by
    obtain ⟨p, hst⟩ := Work.remap_closed_st s new c
    have hchanged : nth s.settings.map c ≠ nth new.map c := by rwa [hmap]
    rw [Work.commitChannel_of_changed hchanged]
    generalize ((Work.start { s with settings := new }).closeInterval c false).remap c = w at hst ⊢
    obtain ⟨hx, hn⟩ := remapped_exposure (nth s.channels c) (nth new.analysis c).startMode
      (MapItem.enabled_of_targeted (m := nth new.map c) (plan := s.test.plan))
    have hclamp : w.st.clampExposure c = w.st := by
      refine State.clampExposure_of_zero ?_ ?_
      · rw [hst]
        exact (congrArg Channel.x (nth_put_self ..)).trans hx
      · rw [hst]
        exact fun n h => hn n ((nth_put_self ..).symm.trans h)
    split
    · rw [Work.map, hclamp]
    · rfl
  have hall := Work.forEach_only (fun w => w.st.settings = new) (Work.commitChannel s.settings items) c
    (Work.start { s with settings := new }) rfl
    (by
      obtain ⟨_, _, _, _, _, _, hf⟩ := (Work.start { s with settings := new }).commitChannel_frame s.settings items c
      rw [hf]
      rfl)
    (fun d w hd hw => by
      obtain ⟨hm, he, hc⟩ := hother hd
      refine Work.commitChannel_of_quiet (by rw [hw, hm]) hc ?_
      rw [hw, he]
      exact Nat.lt_irrefl _)
  rw [hall, hself]

/-- The commit of the items is the reset, and behind it the start of a test. -/
theorem State.applyItems_ofChannel {s : State} (hv : nth s.settings.map c ≠ v) :
    s.applyItems items =
      (((Work.start { s with settings := s.settings.applyAll items }).closeInterval c false).remap c).join.startIf
        test := by
  have hdivider : s.settings.divider =
      (((Work.start { s with settings := s.settings.applyAll items }).closeInterval c false).remap c).join.settings.divider := by
    obtain ⟨p, hst⟩ := Work.remap_closed_st s (s.settings.applyAll items) c
    rw [Work.join_settings, hst, Settings.applyAll_eq s.settings hi]
    rfl
  unfold State.applyItems
  rw [State.commitChannels_ofChannel hi hv, State.commitBlocks_ofChannel (fun i h => (hi i).mp h) hdivider,
    State.commitTest, testItem_eq hi]
  rfl

theorem State.applyItems_ofChannel_like {s : State} (hv : nth s.settings.map c ≠ v) :
    (s.applyItems items).like ((s.mapReset (s.settings.applyAll items) c).startIf test) := by
  obtain ⟨p, hst⟩ := Work.remap_closed_st s (s.settings.applyAll items) c
  rw [State.applyItems_ofChannel hi hv]
  refine State.startIf_like (State.like_trans (State.like_symm (Work.like_join _)) ?_) test
  rw [hst]
  exact ⟨_, _, _, _, _, rfl⟩

/-- What the reset tells and hands over stands after the tick, where the queue has room for its five records. -/
theorem State.mapCommit_records {s : State} {pulled : Bool} {owner : PortId} {confirmer : Option PortId}
    (hp : s.proposal = .committing owner confirmer items) (hv : nth s.settings.map c ≠ v) :
    (secondTick pulled s).toldAlarm c ∧
      (s.store.loss = 0 → s.store.queue.length ≤ 59 →
        (∀ k, s.eventRecord (.channel c) (.alarm (entryOf c k) (nth s.alarms (entryOf c k)).state .normal
          (nth s.alarms (entryOf c k)).peak .reset) ∈ (secondTick pulled s).store.queue) ∧
        ∀ i, nth s.intervals c = some i → i.length ≠ 0 → s.settings.ringSize c.castSucc ≠ 0 →
          ({ ring := c.castSucc, record := .interval (i.record c false) } : QueuedRecord) ∈
            (secondTick pulled s).store.queue) := by
  have hgrows := secondTick_grows pulled s
  rw [State.commitStages_of_committing hp, State.applyItems_ofChannel hi hv] at hgrows
  replace hgrows := (State.startIf_grows _ test).trans hgrows
  have hring : (s.settings.applyAll items).ringSize c.castSucc = s.settings.ringSize c.castSucc := by
    rw [Settings.applyAll_eq s.settings hi]
    rfl
  generalize s.settings.applyAll items = new at hgrows hring
  have hclose := Work.hands_closeInterval (Work.start { s with settings := new }) c false
  have hst := Work.closeInterval_st (Work.start { s with settings := new }) c false
  have hinterval := fun i (hv : nth s.intervals c = some i) (hl : i.length ≠ 0)
    (hr : s.settings.ringSize c.castSucc ≠ 0) => Work.closeInterval_out (w := Work.start { s with settings := new }) false
      hv hl (by rw [← hring] at hr; exact hr)
  generalize (Work.start { s with settings := new }).closeInterval c false = w at hgrows hclose hst hinterval
  have hremap := w.hands_remap c
  obtain ⟨htold, hentries⟩ := w.remap_told c
  rw [hst] at hentries
  generalize w.remap c = x at hgrows hremap htold hentries
  have hhands : Hands 5 (Work.start { s with settings := new }) x := hclose.trans hremap
  refine ⟨State.toldAlarm.later (s := x.join) htold hgrows.told, fun hloss hroom => ⟨fun k => ?_, fun i hv hl hr => ?_⟩⟩
  · exact hgrows.queue.subset (hhands.joins (hentries k) hloss (Nat.add_le_add_right hroom 5))
  · have hmem : ⟨.interval c, { ring := c.castSucc, record := .interval (i.toRecord c false) }⟩ ∈ x.out :=
      hremap.mem (by rw [hinterval i hv hl hr]; exact List.mem_append_right _ (List.mem_singleton_self _))
    have hlength := hhands.length_le
    have hstore : x.st.store = s.store := hhands.store
    rw [Interval.record_eq]
    exact hgrows.queue.subset (Work.mem_join hmem (by rw [hstore, hloss]) (by rw [hstore]; omega))

end ChannelItems

/-! ### A DISABLED channel at a second tick (R53) -/

/-- A channel that is DISABLED and holds nothing is left so by a tick at which nothing commits. -/
theorem secondTick_of_disabled (pulled : Bool) {s : State} (hu : s.uncommitted) {c : Fin 8}
    (hd : (nth s.channels c).state = .disabled) (hl : (nth s.channels c).latest = none)
    (hn : nth s.test.snapshots c = none) :
    nth (secondTick pulled s).channels c = nth s.channels c ∧
      (∀ k, nth (secondTick pulled s).alarms (entryOf c k) = nth s.alarms (entryOf c k)) ∧
      nth (secondTick pulled s).intervals c = nth s.intervals c ∧
      nth (secondTick pulled s).test.snapshots c = none := by
  have hmoved : nth (tickMoved pulled s).st.channels c = nth s.channels c := by
    rw [tickMoved_channel pulled hu, tickJudged_channel hu, if_pos hd, Channel.move_of_absent (by rw [hl]; rfl)]
  obtain ⟨_, _, _, _, a, i, _, _, hh, hentry, hopen⟩ := tickHanded_spec pulled hu
  obtain ⟨_, _, _, _, _, _, hsecond⟩ := secondTick_of_counted pulled s
  have hi := (hopen c).2 (by rw [hmoved]; exact hd)
  have ha : ∀ k, nth a (entryOf c k) = nth s.alarms (entryOf c k) := fun k => by
    rw [hentry, AlarmEntry.evaluated, hmoved, if_pos hd]
  have hsaved : nth s.test.afterSupply.snapshots c = none := by rw [TestGen.afterSupply_snapshots, hn]
  generalize (tickMoved pulled s).st.channels = ch at hh hmoved
  generalize s.test.afterSupply = t at hh hsaved
  generalize tickHanded pulled s = w at hh hsecond
  have hparts : w.st.parts c = (nth s.channels c, none, nth s.intervals c) := by
    rw [hh, State.parts, hmoved, hsaved, hi]
  have hentries : ∀ k, nth w.st.alarms (entryOf c k) = nth s.alarms (entryOf c k) := by
    rw [hh]
    exact ha
  have hcount : w.countTest.st.parts c = w.st.parts c ∧
      ∀ k, nth w.countTest.st.alarms (entryOf c k) = nth w.st.alarms (entryOf c k) := by
    rcases w.countTest_cases with ⟨-, h⟩ | ⟨-, -, h⟩ | ⟨hrun, -, h⟩
    · rw [h]
      exact ⟨rfl, fun _ => rfl⟩
    · rw [h]
      exact ⟨rfl, fun _ => rfl⟩
    · obtain ⟨v, hv⟩ := Option.isSome_iff_exists.mp hrun
      obtain ⟨⟨_, _, hst⟩, hturned, -, -⟩ := Work.endTest_spec (w := w.map (·.withRemaining 0)) hv .expired .station
      rw [h]
      generalize (w.map (·.withRemaining 0)).endTest .expired .station = y at hst hturned ⊢
      have hended : endedParts ((w.map (·.withRemaining 0)).st.parts c) = w.st.parts c :=
        (congrArg endedParts hparts).trans hparts.symm
      have hrecord : nth y.st.channels c = nth w.st.channels c :=
        (hturned c).channel.trans (congrArg (·.1) hended)
      refine ⟨Prod.ext hrecord (Prod.ext ((hturned c).snapshot.trans (congrArg (·.2.1) hparts).symm) ?_), fun k => ?_⟩
      · rw [hst]
        exact (nth_tab _ c).trans (congrArg (·.2.2) hended)
      · rw [(hturned c).entry k, ← (hturned c).channel, hrecord]
        exact AlarmEntry.moved_of_same _ _ _ rfl
  obtain ⟨hp, he⟩ := hcount
  rw [hparts] at hp
  rw [hsecond]
  exact ⟨congrArg (·.1) hp, fun k => (he k).trans (hentries k), congrArg (·.2.2) hp, congrArg (·.2.1) hp⟩

/-! ### The obligation -/

/-- Whether an enabled channel uses an input of the running test, written out from R31 and R39. -/
theorem MapItem.targeted_any (m : MapItem) (plan : Option TestItem) :
    (plan.any fun p => m.targeted p.inputs) = (m.enabled && plan.any fun p => (List.finRange 8).any fun n =>
      p.inputs.getLsbD n.val && (m.primary == n || m.secondary.any fun s => s.1 == n)) := by
  cases plan with
  | none => simp
  | some p => simp only [Option.any_some, MapItem.targeted_eq]

/-- Settles O23: the commit is the reset of its channel and the start of a test behind it, and so is the commit of the
TEST item from the state so reset. -/
theorem mapCommit : Obligations.MapCommit := by
  refine ⟨fun s u pulled owner confirmer items c v analysis levels exposure test hp hv hi hu => ?_,
    fun s pulled owner confirmer c v hp he hv => ?_⟩
  · obtain ⟨htold, hrecords⟩ := State.mapCommit_records (pulled := pulled) hi hp hv
    obtain ⟨hexec, -⟩ := State.commit_leaves pulled hp (State.like_refl _)
    have hset : u.settings = s.settings.applyAll items := by
      rw [hu, Settings.applyAll_eq s.settings hi]
      cases levels with
      | none => rfl
      | some x => simp only [Settings.onChannel, Option.map_some, Option.getD_some, LevelsItem.clamped, min_eq_cut]
    have hmap : nth u.settings.map c = v := by rw [hset, applyAll_ofChannel_map hi]
    have hanalysis : nth u.settings.analysis c = analysis.getD (nth s.settings.analysis c) := by
      rw [hset, Settings.applyAll_eq s.settings hi]
      exact nth_put_self ..
    have hreset : (s.mapReset u.settings c).like u := by
      unfold State.mapReset State.remappedRecord
      rw [hmap, hanalysis, remapped_eq _ _ _ _ (MapItem.enabled_of_targeted (m := v)), MapItem.targeted_any]
      simp only [refreshLine, Option.isNone_iff_eq_none]
      rw [hu]
      exact ⟨_, _, _, _, _, rfl⟩
    have hproposal : u.commitStages = u.startIf test ∧
        (u.proposal = .empty ∨ ∃ owner confirmer items, u.proposal = .committing owner confirmer items) := by
      cases test with
      | none =>
        have hempty : u.proposal = .empty := by rw [hu]
        refine ⟨State.commitStages_of_uncommitted ?_, .inl hempty⟩
        rw [State.uncommitted, commits, hempty]
      | some x =>
        have hcommitting : u.proposal = .committing owner confirmer [.test x] := by rw [hu]
        refine ⟨?_, .inr ⟨_, _, _, hcommitting⟩⟩
        rw [State.commitStages_of_committing hcommitting, State.applyItems_test]
        rfl
    have hlike : s.commitStages.like u.commitStages := by
      rw [State.commitStages_of_committing hp, hproposal.1]
      refine State.like_trans (State.applyItems_ofChannel_like hi hv) ?_
      rw [← hset]
      exact State.startIf_like hreset test
    exact ⟨_, _, hexec, rfl, State.agrees_of_like (secondTick_like pulled hlike)
      ((secondTick_proposal pulled (.inr ⟨_, _, _, hp⟩)).trans (secondTick_proposal pulled hproposal.2).symm),
      htold, hrecords⟩
  · have hi : ∀ i, i ∈ [Item.map c v] ↔ ofChannel c v none none none none i := fun i => by simp [ofChannel]
    have hmap := applyAll_ofChannel_map hi s.settings
    have hlike := State.applyItems_ofChannel_like hi hv
    generalize s.settings.applyAll [.map c v] = new at hmap hlike
    obtain ⟨hexec, w, hw, hagrees⟩ := State.commit_leaves pulled hp hlike
    obtain rfl : secondTick pulled (s.mapReset new c).emptied = w := Host.Outcome.next.inj hw
    have hrecord : s.remappedRecord new c =
        ({ state := .disabled, left := (nth s.channels c).left, bAcc := 0, eAcc := 0,
           conds := { excursion := false, warn := false, alarm := false, exposure := false }, x := 0, absence := 0,
           learned := 0, latest := none }, none) := by
      rw [State.remappedRecord, hmap, he]
      rfl
    have hchannel : nth (s.mapReset new c).emptied.channels c = (s.remappedRecord new c).1 := nth_put_self ..
    have hsaved : nth (s.mapReset new c).emptied.test.snapshots c = (s.remappedRecord new c).2 := nth_put_self ..
    rw [hrecord] at hchannel hsaved
    obtain ⟨hc, ha, hiv, hn⟩ := secondTick_of_disabled pulled (s := (s.mapReset new c).emptied) rfl
      (by rw [hchannel]) (by rw [hchannel]) hsaved
    have hset := (secondTick_spec pulled (s.mapReset new c).emptied).2.2.1
    obtain ⟨htold, -⟩ := State.mapCommit_records (pulled := pulled) hi hp hv
    generalize secondTick pulled (s.mapReset new c).emptied = w at hagrees hc ha hiv hn hset
    generalize secondTick pulled s = t at hexec hagrees htold
    have hfields : t.settings = w.settings ∧ t.channels = w.channels ∧ t.alarms = w.alarms ∧
        t.intervals = w.intervals ∧ t.test = w.test := by
      rw [← hagrees]
      exact ⟨rfl, rfl, rfl, rfl, rfl⟩
    obtain ⟨h1, h2, h3, h4, h5⟩ := hfields
    rw [← h1] at hset
    rw [← h2] at hc
    rw [← h3] at ha
    rw [← h4] at hiv
    rw [← h5] at hn
    refine ⟨t, hexec, ?_, hc.trans hchannel, fun k => (ha k).trans ?_, hiv.trans ?_, hn, fun p => (htold p).2⟩
    · rw [hset]
      exact hmap
    · refine (nth_tab ..).trans ?_
      rw [channelOf_entryOf, if_pos rfl]
      rfl
    · refine (nth_put_self ..).trans ?_
      rw [hmap, he]
      rfl

end Sys2Proof.Machine
end

section
/-! ## What carries the channels, the test and the entries on unchanged

Most of what a step does reaches no channel, starts no test and moves no alarm entry between active and not active. What
it leaves of these, and of the proposal's items, is described once here for all such operations. -/

namespace Sys2Proof.Machine

/-- An item that a DRAFT ITEM can have brought into the proposal buffer (R182, R184). -/
def Item.drafted (i : Item) : Prop := ∃ kind index fields, readItem kind index fields = some i

/-- `t` carries on what `s` holds: the same channels, of the plan and the snapshots no other than those of `s`, each
entry as active as it was and NORMAL where it was NORMAL, and no items but those of `s` and newly drafted ones. -/
structure State.Carries (s t : State) : Prop where
  channels : t.channels = s.channels
  plan : ∀ v, t.test.plan = some v → s.test.plan = some v ∧ t.test.ramp = s.test.ramp
  snapshots : ∀ c n, nth t.test.snapshots c = some n → nth s.test.snapshots c = some n
  entries : ∀ i, (nth t.alarms i).state.active = (nth s.alarms i).state.active ∧
    ((nth s.alarms i).state = .normal → (nth t.alarms i).state = .normal)
  items : ∀ i ∈ t.proposal.items, i ∈ s.proposal.items ∨ i.drafted

namespace State.Carries

/-- Where the proposal has no more items, and the other parts stand. -/
theorem of_items {s t : State} (hc : t.channels = s.channels) (ht : t.test = s.test) (ha : t.alarms = s.alarms)
    (hi : ∀ i ∈ t.proposal.items, i ∈ s.proposal.items ∨ i.drafted) : s.Carries t :=
  ⟨hc, fun v hv => by rw [ht] at hv ⊢; exact ⟨hv, rfl⟩, fun c n hn => by rwa [ht] at hn,
    fun i => by rw [ha]; exact ⟨rfl, id⟩, hi⟩

/-- Where all these parts stand. -/
theorem of_parts {s t : State} (hc : t.channels = s.channels) (ht : t.test = s.test) (ha : t.alarms = s.alarms)
    (hp : t.proposal = s.proposal) : s.Carries t :=
  of_items hc ht ha fun i hi => by rw [hp] at hi; exact .inl hi

theorem refl (s : State) : s.Carries s := of_parts rfl rfl rfl rfl

theorem trans {s t u : State} (h : s.Carries t) (g : t.Carries u) : s.Carries u where
  channels := g.channels.trans h.channels
  plan v hv := by
    obtain ⟨ht, hramp⟩ := g.plan v hv
    obtain ⟨hs, hramp'⟩ := h.plan v ht
    exact ⟨hs, hramp.trans hramp'⟩
  snapshots c n hn := h.snapshots c n (g.snapshots c n hn)
  entries i := ⟨(g.entries i).1.trans (h.entries i).1, fun hn => (g.entries i).2 ((h.entries i).2 hn)⟩
  items i hi := (g.items i hi).elim (h.items i) .inr

end State.Carries

open State (Carries)

/-! ### Operations of a step -/

/-- The records of a step that join the queue reach none of these parts. -/
theorem Work.join_carries (w : Work) : w.st.Carries w.join := .of_parts rfl rfl rfl rfl

theorem Work.transitionIf_carries (w : Work) (n : Fin 8) (t : Option (LinkState × LinkCause)) :
    w.st.Carries (w.transitionIf n t).st := by
  obtain ⟨_, _, h⟩ := w.transitionIf_frame n t
  rw [h]
  exact .of_parts rfl rfl rfl rfl

theorem Work.takeFrame_carries (w : Work) (n : Fin 8) (f : InFlight) (frame : BitVec 32) :
    w.st.Carries (w.takeFrame n f frame).st := by
  obtain ⟨_, h⟩ := w.takeFrame_frame n f frame
  rw [h]
  exact .of_parts rfl rfl rfl rfl

theorem tickFrame_carries (s : State) : s.Carries (tickFrame s) := by
  obtain ⟨_, _, h⟩ := tickFrame_frame s
  rw [h]
  exact .of_parts rfl rfl rfl rfl

theorem Work.closeInterval_carries (w : Work) (c : Fin 8) (timeSet : Bool) :
    w.st.Carries (w.closeInterval c timeSet).st := by
  rw [Work.closeInterval_st]
  exact .of_parts rfl rfl rfl rfl

theorem State.commitBlocks_carries (s : State) (old : Settings) (items : List Item) :
    s.Carries (s.commitBlocks old items) := by
  obtain ⟨_, _, _, _, _, _, _, _, _, h, -⟩ := s.commitBlocks_frame old items
  rw [h]
  exact .of_parts rfl rfl rfl rfl

theorem State.commitStore_carries (s : State) (items : List Item) : s.Carries (s.commitStore items) := by
  obtain ⟨_, _, h⟩ := s.commitStore_frame items
  rw [h]
  exact .of_parts rfl rfl rfl rfl

/-- A window that runs out empties the buffer, and no window brings an item in (R185, R189). -/
theorem Work.countWindows_carries (w : Work) : w.st.Carries w.countWindows.st := by
  unfold Work.countWindows
  split
  · next hp =>
    split
    · exact .of_items rfl rfl rfl nofun
    · exact .of_items rfl rfl rfl fun i hi => .inl (by rw [hp]; exact hi)
  · next hp =>
    split
    · exact .of_items rfl rfl rfl nofun
    · exact .of_items rfl rfl rfl fun i hi => .inl (by rw [hp]; exact hi)
  · exact .refl _
  · exact .refl _

/-- The close of a commit empties the buffer (R190, stage 7). -/
theorem State.closeCommit_carries (s : State) : s.Carries s.closeCommit := by
  unfold State.closeCommit
  split
  · exact .of_items rfl rfl rfl nofun
  all_goals exact .refl _

/-- States alike but for the five parts that `State.like` names carry each other on, where no item is new. -/
theorem State.Carries.of_like {s t : State} (h : s.like t) (hp : t.proposal = .empty) : s.Carries t := by
  obtain ⟨_, _, _, _, pr, rfl⟩ := h
  obtain rfl : pr = .empty := hp
  exact .of_items rfl rfl rfl nofun

/-! ### Requests -/

theorem State.deliver_carries (s : State) (p : PortId) : s.Carries (s.deliver p) :=
  .of_parts (s.deliver_channels p) (s.deliver_test p) (s.deliver_alarms p) (s.deliver_proposal p)

/-- A request that carries these parts on carries them on to the end of its transfer. -/
theorem State.endTransfer_carries (s : State) (p : PortId) {take : State → State × Reply}
    (h : ∀ u : State, u.Carries (take u).1) : s.Carries (s.endTransfer p take) := by
  rcases s.endTransfer_cases p take with ⟨-, e⟩ | ⟨-, e⟩
  · rw [e]
    exact .of_parts rfl rfl rfl rfl
  · rw [e]
    exact ((s.deliver_carries p).trans (h _)).trans (.of_parts rfl rfl rfl rfl)

/-- An acknowledged entry that was unacknowledged is as active as it was, and was not NORMAL (R107). -/
theorem AlarmEntry.acknowledge_active {e : AlarmEntry} (h : e.state.pending = true) (stamp : Time) (p : PortId) :
    (e.acknowledge stamp p).state.active = e.state.active ∧ e.state ≠ .normal := by
  unfold AlarmEntry.acknowledge
  cases hs : e.state with
  | normal => rw [hs] at h; cases h
  | accepted => rw [hs] at h; cases h
  | raised => exact ⟨rfl, nofun⟩
  | returned => exact ⟨rfl, nofun⟩

/-- Only unacknowledged entries are changed by an acknowledgement (R107). -/
theorem State.pending_of_acknowledgeable {s : State} {named : BitVec 32} {i : Fin 32}
    (h : (s.acknowledgeable named).getLsbD i.val = true) : (nth s.alarms i).state.pending = true := by
  rw [State.acknowledgeable, getLsbD_maskOf 32 _ i i.isLt, Bool.and_eq_true] at h
  exact h.2

/-- What an acknowledgement makes of the entries and leaves of the rest (R107). -/
theorem Work.acknowledgeAll_spec (s : State) (p : PortId) (changed : BitVec 32) :
    ∃ a q, ((Work.start s).forEach (Work.acknowledge p changed)).st = { s with alarms := a, ports := q } ∧
      ∀ i, nth a i = if changed.getLsbD i.val then (nth s.alarms i).acknowledge s.timebase.time p else nth s.alarms i := by
  obtain ⟨⟨a, q, hst⟩, hread⟩ := Work.forEach_local (fun w => ∃ a q, w.st = { s with alarms := a, ports := q })
    (fun w i => nth w.st.alarms i)
    (fun i e => if changed.getLsbD i.val then e.acknowledge s.timebase.time p else e) (Work.acknowledge p changed)
    (Work.start s) ⟨_, _, rfl⟩ (fun i w ⟨_, _, hw⟩ => by
      unfold Work.acknowledge
      split
      · obtain ⟨q, hm⟩ := w.moveEntry_frame .acknowledgement i ((nth w.st.alarms i).acknowledge w.st.timebase.time p)
          (nth w.st.alarms i).peak .acknowledge
        dsimp only
        rw [hm]
        exact ⟨⟨_, q, by rw [hw]⟩, by rw [nth_put_self, hw], fun j hj => nth_put_ne _ _ (Ne.symm hj)⟩
      · exact ⟨⟨_, _, hw⟩, rfl, fun _ _ => rfl⟩)
  refine ⟨a, q, hst, fun i => ?_⟩
  have hi := hread i
  rwa [hst] at hi

theorem State.takeAcknowledge_carries (s : State) (p : PortId) (selector : Byte) (mask : BitVec 32) :
    s.Carries (s.takeAcknowledge p selector mask).1 := by
  unfold State.takeAcknowledge
  split
  · exact .refl s
  · next named _ =>
    dsimp only
    split
    · exact .refl s
    · obtain ⟨a, q, hst, ha⟩ := Work.acknowledgeAll_spec s p (s.acknowledgeable named)
      generalize (Work.start s).forEach (Work.acknowledge p (s.acknowledgeable named)) = w at hst ⊢
      have hw : s.Carries w.st := by
        rw [hst]
        refine ⟨rfl, fun v hv => ⟨hv, rfl⟩, fun c n hn => hn, fun i => ?_, fun i hi => .inl hi⟩
        dsimp only
        rw [ha]
        split
        · next h =>
          obtain ⟨hactive, hne⟩ := AlarmEntry.acknowledge_active (State.pending_of_acknowledgeable h) s.timebase.time p
          exact ⟨hactive, fun hn => absurd hn hne⟩
        · exact ⟨rfl, id⟩
      exact hw.trans (.of_parts rfl rfl rfl rfl)

theorem State.takeSetTime_carries (s : State) (p : PortId) (time : Time) : s.Carries (s.takeSetTime p time).1 := by
  unfold State.takeSetTime
  dsimp only
  refine .trans ?_ (Work.join_carries _)
  exact Work.forEach_induct (fun w => s.Carries w.st) _ _ (.of_parts rfl rfl rfl rfl) fun c w hw =>
    hw.trans (w.closeInterval_carries c true)

theorem State.takeHeadCommand_carries (s : State) (input code : Byte) :
    s.Carries (s.takeHeadCommand input code).1 := by
  unfold State.takeHeadCommand
  split
  · dsimp only
    split
    · exact .refl s
    · split
      · exact .refl s
      · split
        · exact .refl s
        · exact .of_parts rfl rfl rfl rfl
  · exact .refl s

theorem State.placeCursor_carries (s : State) (p : PortId) (code ring : Byte) (f : Ring → Nat) :
    s.Carries (s.placeCursor p code ring f).1 := by
  unfold State.placeCursor
  split
  · exact .refl s
  · split
    · exact .refl s
    · exact .of_parts rfl rfl rfl rfl

theorem State.takeFetch_carries (s : State) (p : PortId) (ring count : Byte) :
    s.Carries (s.takeFetch p ring count).1 := by
  unfold State.takeFetch
  split
  · exact .refl s
  · split
    · exact .of_parts rfl rfl rfl rfl
    all_goals exact .refl s

theorem State.takeCollect_carries (s : State) (p : PortId) : s.Carries (s.takeCollect p).1 := by
  unfold State.takeCollect
  dsimp only
  split <;> exact .of_parts rfl rfl rfl rfl

theorem State.takeCancel_carries (s : State) (p : PortId) : s.Carries (s.takeCancel p).1 := by
  unfold State.takeCancel
  split <;> exact .of_parts rfl rfl rfl rfl

/-- A draft holds its items before and the one that is drafted (R184). -/
theorem mem_of_addItem {items l : List Item} {i j : Item} {position : Nat}
    (h : addItem items i = some (l, position)) (hj : j ∈ l) : j ∈ items ∨ j = i := by
  unfold addItem at h
  dsimp only at h
  split at h
  · cases h
    exact List.mem_or_eq_of_mem_set hj
  · split at h
    · cases h
    · cases h
      exact (List.mem_append.mp hj).imp_right List.mem_singleton.mp

theorem State.takeDraftItem_carries (s : State) (p : PortId) (kind index : Byte) (fields : List Byte) :
    s.Carries (s.takeDraftItem p kind index fields).1 := by
  unfold State.takeDraftItem
  split
  · split
    · exact .refl s
    · next i hi =>
      refine .of_items rfl rfl rfl fun j hj => .inr ?_
      obtain rfl : j = i := List.mem_singleton.mp hj
      exact ⟨_, _, _, hi⟩
  · next owner items _ hp =>
    split
    · exact .refl s
    · split
      · exact .refl s
      · next l position h =>
        obtain ⟨i, hi, hadd⟩ := Option.bind_eq_some_iff.mp h
        refine .of_items rfl rfl rfl fun j hj => ?_
        rcases mem_of_addItem hadd hj with hold | rfl
        · rw [hp]
          exact .inl hold
        · exact .inr ⟨_, _, _, hi⟩
  · exact .refl s
  · exact .refl s

theorem State.takePost_carries (s : State) (p : PortId) : s.Carries (s.takePost p).1 := by
  unfold State.takePost
  split
  · next hp =>
    have hitems : ∀ i, i ∈ (Proposal.draft _ _ _).items → i ∈ s.proposal.items ∨ i.drafted := fun i hi =>
      .inl (by rw [hp]; exact hi)
    split
    · exact .refl s
    · split
      · exact .refl s
      · dsimp only
        split <;> exact .of_items rfl rfl rfl hitems
  all_goals exact .refl s

theorem State.takeConfirm_carries (s : State) (p : PortId) (number : BitVec 16) :
    s.Carries (s.takeConfirm p number).1 := by
  unfold State.takeConfirm
  split
  · next hp =>
    split
    · exact .refl s
    · exact .of_items rfl rfl rfl fun i hi => .inl (by rw [hp]; exact hi)
  all_goals exact .refl s

theorem State.withdrawn_carries (s : State) (p : PortId) (cause : EndCause) : s.Carries (s.withdrawn p cause) :=
  .of_items rfl rfl rfl nofun

theorem State.takeWithdraw_carries (s : State) (p : PortId) : s.Carries (s.takeWithdraw p).1 := by
  unfold State.takeWithdraw
  split
  · split
    · exact s.withdrawn_carries p _
    · exact .refl s
  · split
    · exact s.withdrawn_carries p _
    · exact .refl s
  all_goals exact .refl s

theorem State.takeOptions_carries (s : State) (p : PortId) (option : Byte) : s.Carries (s.takeOptions p option).1 := by
  unfold State.takeOptions
  split <;> exact .of_parts rfl rfl rfl rfl

theorem State.judgeAll_carries (s : State) (p : PortId) : s.Carries (s.judgeAll p) := by
  unfold State.judgeAll
  generalize List.finRange 9 = l
  induction l generalizing s with
  | nil => exact .refl s
  | cons r l ih => exact Carries.trans (t := s.moveCursor p r id) (.of_parts rfl rfl rfl rfl) (ih _)

theorem State.restartedPort_carries (s : State) (p : PortId) : s.Carries (s.restartedPort p) := by
  unfold State.restartedPort
  dsimp only
  refine .trans ?_ (State.judgeAll_carries _ p)
  exact .of_parts rfl rfl rfl rfl

theorem State.takeRestart_carries (s : State) (p : PortId) : s.Carries (s.takeRestart p).1 := by
  have hport := s.restartedPort_carries p
  unfold State.takeRestart
  dsimp only
  split
  · split
    · exact hport.trans (State.withdrawn_carries _ p _)
    · exact hport
  all_goals exact hport

/-! ### Store accesses and the clock -/

theorem State.forPorts_carries (s : State) {f : State → PortId → State} (h : ∀ u p, State.Carries u (f u p)) :
    s.Carries (s.forPorts f) := ((h s .a).trans (h _ .b)).trans (h _ .c)

theorem State.clearFetch_carries (s : State) (p : PortId) : s.Carries (s.clearFetch p) :=
  .of_parts (s.clearFetch_channels p) (s.clearFetch_test p) (s.clearFetch_alarms p) (s.clearFetch_proposal p)

theorem State.wrapRing_carries (s : State) (r : Fin 9) : s.Carries (s.wrapRing r) := by
  have hports := fun u : State =>
    u.forPorts_carries (f := fun u p => if (u.port p).slot.ring = some r then u.clearFetch p else u) fun u p => by
      split
      · exact u.clearFetch_carries p
      · exact .refl u
  unfold State.wrapRing
  extract_lets _ u v _
  have huv : s.Carries v := Carries.trans (t := u) (.of_parts rfl rfl rfl rfl) (hports u)
  exact huv.trans (.of_parts rfl rfl rfl rfl)

theorem State.grantWrite_carries (s : State) (q : QueuedRecord) (rest : List QueuedRecord) :
    s.Carries (s.grantWrite q rest) := by
  unfold State.grantWrite
  extract_lets _ u v _
  have hu : s.Carries u := .of_parts rfl rfl rfl rfl
  have hv : s.Carries v := by
    refine hu.trans ?_
    unfold v
    split
    · exact u.wrapRing_carries _
    · exact .refl u
  split
  · exact hu
  · exact hv.trans (.of_parts rfl rfl rfl rfl)

theorem State.grantCopy_carries (s : State) (p : PortId) (f : Fetch) : s.Carries (s.grantCopy p f) := by
  unfold State.grantCopy
  dsimp only
  split <;> exact .of_parts rfl rfl rfl rfl

theorem State.grant_carries (s : State) : s.Carries s.grant := by
  unfold State.grant
  split
  · exact s.grantWrite_carries _ _
  · split
    · exact s.grantCopy_carries _ _
    · exact .refl s

theorem State.copied_carries (s : State) (p : PortId) (r : StoredRecord) : s.Carries (s.copied p r) := by
  unfold State.copied
  split
  · dsimp only
    split <;> exact .of_parts rfl rfl rfl rfl
  all_goals exact .refl s

theorem State.finishWrite_carries (s : State) (q : QueuedRecord) : s.Carries (s.finishWrite q) := by
  obtain ⟨_, _, h⟩ := s.finishWrite_frame q
  rw [h]
  exact .of_parts rfl rfl rfl rfl

end Sys2Proof.Machine
end

section
/-! ## Invariants of the channels, the test and the entries

An invariant that rests on these parts alone is kept by every step once it is kept by the few operations that write
them: the turn of one channel at an end of zeroing, at a MAP reset, at the start and at the end of a test, and the
evaluation of a second. The induction over the operations of a step is made here, once. -/

namespace Sys2Proof.Machine

open State (Carries)

/-- A predicate that power-on establishes and that each operation on the channels, the test and the entries keeps. -/
structure AnalysisInvariant (P : State → Prop) : Prop where
  reset : P State.reset
  carried : ∀ {s t : State}, P s → s.Carries t → P t
  zeroed : ∀ (w : Work) c, P w.st → P (w.zeroedChannel c).st
  remapped : ∀ (w : Work) c, P w.st → P (w.remap c).st
  clamped : ∀ (s : State) c, P s → P (s.clampExposure c)
  planned : ∀ (w : Work) v, Item.test v ∈ w.st.proposal.items → P w.st → P (w.beginTest v).st
  entered : ∀ (w : Work) inputs c, P w.st → P (w.startTestOn inputs c).st
  restored : ∀ (w : Work) c, P w.st → P (w.endTestOn c).st
  evaluated : ∀ (s : State) pulled, s.uncommitted → P s → P (tickHanded pulled s).st

namespace AnalysisInvariant

variable {P : State → Prop} (inv : AnalysisInvariant P)
include inv

/-! ### Arrivals and frame ticks -/

theorem endOfZeroing (w : Work) (n : Fin 8) (h : P w.st) : P (w.endOfZeroing n).st := by
  have hturns : P (w.forEach fun c x => if w.st.zeroesNow n c then x.zeroedChannel c else x).st :=
    Work.forEach_induct (fun x => P x.st) _ w h fun c x hx => by
      split
      · exact inv.zeroed x c hx
      · exact hx
  unfold Work.endOfZeroing
  dsimp only
  exact inv.carried hturns (.of_parts rfl rfl rfl rfl)

theorem cycleEnd (w : Work) (n : Fin 8) (h : P w.st) : P (w.cycleEnd n).st := by
  have hlinks : ∀ l : Link, P (w.map fun s => { s with links := put s.links n l }).st := fun l =>
    inv.carried h (.of_parts rfl rfl rfl rfl)
  unfold Work.cycleEnd
  dsimp only
  split
  · split
    · exact inv.endOfZeroing _ n (hlinks _)
    · exact hlinks _
  · exact inv.carried (hlinks _) (Work.transitionIf_carries _ n _)

theorem arrive (w : Work) (n : Fin 8) (frame : BitVec 32) (h : P w.st) : P (w.arrive n frame).st := by
  cases hf : (nth w.st.links n).inFlight with
  | none =>
    rw [Work.arrive_of_none w n frame hf]
    exact h
  | some f =>
    have htaken := inv.carried h (w.takeFrame_carries n f frame)
    rw [Work.arrive_of_some w n frame hf]
    split
    · exact inv.cycleEnd _ n htaken
    · exact htaken

theorem atFrameTick (s : State) (h : P s) : P (frameTick s) := by
  have hsettled : P (settled s) :=
    inv.carried (Work.forEach_induct (fun x => P x.st) Work.settle (Work.start s) h fun n x hx => inv.arrive x n _ hx)
      (Work.join_carries _)
  exact inv.carried hsettled (tickFrame_carries _)

/-! ### The end of a test -/

theorem endTest (w : Work) (cause : TestCause) (source : EventSource) (h : P w.st) : P (w.endTest cause source).st := by
  have hturns := Work.forEach_induct (fun x => P x.st) Work.endTestOn w h fun c x hx => inv.restored x c hx
  unfold Work.endTest
  split
  · exact h
  · dsimp only
    generalize w.forEach Work.endTestOn = x at hturns ⊢
    refine inv.carried hturns ⟨rfl, nofun, fun c n hn => ?_, fun i => ⟨rfl, id⟩, fun i hi => .inl hi⟩
    have hreset : nth TestGen.reset.snapshots c = none := nth_tab _ c
    cases hreset.symm.trans hn

theorem takeStopTest (s : State) (p : PortId) (h : P s) : P (s.takeStopTest p).1 := by
  unfold State.takeStopTest
  split
  · exact inv.carried (inv.endTest (Work.start s) .stopped (.port p) h) (Work.join_carries _)
  · exact h

theorem countTest (w : Work) (h : P w.st) : P w.countTest.st := by
  have hcount : ∀ r, P (w.map (·.withRemaining r)).st := fun r =>
    inv.carried h ⟨rfl, fun v hv => ⟨hv, rfl⟩, fun c n hn => hn, fun i => ⟨rfl, id⟩, fun i hi => .inl hi⟩
  rcases w.countTest_cases with ⟨-, e⟩ | ⟨-, -, e⟩ | ⟨-, -, e⟩
  · rwa [e]
  · rw [e]
    exact hcount _
  · rw [e]
    exact inv.endTest _ _ _ (hcount 0)

/-! ### A commit -/

theorem commitChannel (old : Settings) (items : List Item) (c : Fin 8) (w : Work) (h : P w.st) :
    P (w.commitChannel old items c).st := by
  unfold Work.commitChannel
  extract_lets new changed u v
  have hu : P u.st := by
    unfold u
    split
    · exact inv.carried h (w.closeInterval_carries c false)
    · exact h
  have hv : P v.st := by
    unfold v
    split
    · exact inv.remapped u c hu
    · exact hu
  split
  · exact inv.clamped v.st c hv
  · exact hv

theorem startTest (w : Work) (v : TestItem) (hv : Item.test v ∈ w.st.proposal.items) (h : P w.st) :
    P (w.startTest v).st := by
  cases hp : w.st.test.plan with
  | some plan =>
    rw [Work.startTest, if_pos (by rw [hp]; rfl)]
    exact h
  | none =>
    have hturns := Work.forEach_induct (fun x => P x.st) (Work.startTestOn v.inputs) (w.beginTest v)
      (inv.planned w v hv h) fun c x hx => inv.entered x v.inputs c hx
    rw [Work.startTest_eq hp]
    generalize (w.beginTest v).forEach (Work.startTestOn v.inputs) = x at hturns ⊢
    exact inv.carried hturns (.of_parts rfl rfl rfl rfl)

theorem applyItems (s : State) (items : List Item) (hi : s.proposal.items = items) (h : P s) :
    P (s.applyItems items) := by
  have hchannels : P (s.commitChannels items) := by
    unfold State.commitChannels
    refine inv.carried ?_ (Work.join_carries _)
    exact Work.forEach_induct (fun x => P x.st) _ _ (inv.carried h (.of_parts rfl rfl rfl rfl)) fun c x hx =>
      inv.commitChannel _ items c x hx
  have hstore := inv.carried (inv.carried hchannels (State.commitBlocks_carries _ s.settings items))
    (State.commitStore_carries _ items)
  have hproposal : (((s.commitChannels items).commitBlocks s.settings items).commitStore items).proposal = s.proposal := by
    obtain ⟨_, _, _, _, _, _, _, _, h1⟩ := s.commitChannels_frame items
    obtain ⟨_, _, _, _, _, _, _, _, _, h2, -⟩ := (s.commitChannels items).commitBlocks_frame s.settings items
    obtain ⟨_, _, h3⟩ := ((s.commitChannels items).commitBlocks s.settings items).commitStore_frame items
    rw [h3, h2, h1]
  unfold State.applyItems State.commitTest
  generalize ((s.commitChannels items).commitBlocks s.settings items).commitStore items = u at hstore hproposal ⊢
  split
  · next v hv =>
    have hmem : Item.test v ∈ items := by
      obtain ⟨i, hmem, hiv⟩ := List.exists_of_findSome?_eq_some hv
      cases i <;> cases hiv
      exact hmem
    refine inv.carried (inv.startTest (Work.start u) v ?_ hstore) (Work.join_carries _)
    rw [Work.start_st, hproposal, hi]
    exact hmem
  · exact hstore

theorem commitStages (s : State) (h : P s) : P s.commitStages := by
  rcases s.uncommitted_or_committing with hu | ⟨_, _, items, hc⟩
  · rwa [State.commitStages_of_uncommitted hu]
  · rw [State.commitStages_of_committing hc]
    exact inv.applyItems s items (by rw [hc]; rfl) h

/-! ### The second tick -/

theorem atSecondTick_of_uncommitted (pulled : Bool) (s : State) (hu : s.uncommitted) (h : P s) : P (secondTick pulled s) := by
  have hcounted := inv.countTest _ (inv.evaluated s pulled hu h)
  unfold secondTick tickCounted
  generalize (tickHanded pulled s).countTest = w at hcounted ⊢
  have hclosed := ((w.countWindows_carries.trans (Work.join_carries _)).trans (State.closeCommit_carries _))
  exact inv.carried hcounted (hclosed.trans (.of_parts rfl rfl rfl rfl))

/-- A tick that commits is, for these parts, the tick at which nothing commits from what the commit has left. -/
theorem atSecondTick (pulled : Bool) (s : State) (h : P s) : P (secondTick pulled s) := by
  rcases s.uncommitted_or_committing with hu | hc
  · exact inv.atSecondTick_of_uncommitted pulled s hu h
  · have hemptied : P s.commitStages.emptied :=
      inv.carried (inv.commitStages s h) (.of_items rfl rfl rfl nofun)
    have hlike : s.commitStages.like s.commitStages.emptied.commitStages := ⟨_, _, _, _, .empty, rfl⟩
    exact inv.carried (inv.atSecondTick_of_uncommitted pulled s.commitStages.emptied rfl hemptied)
      (.of_like (State.like_symm (secondTick_like pulled hlike)) (secondTick_proposal pulled (.inr hc)))

end AnalysisInvariant

/-! ### Every command -/

/-- The outcome of a command goes on to a state of which `P` holds. -/
def LeadsTo (P : State → Prop) (o : Host.Outcome State Fault Refusal) : Prop := ∀ t, o = .next t → P t

theorem LeadsTo.of_next {P : State → Prop} {t : State} (h : P t) : LeadsTo P (.next t) := by
  rintro _ ⟨⟩
  exact h

namespace AnalysisInvariant

variable {P : State → Prop} (inv : AnalysisInvariant P) {s : State} (h : P s)
include inv h

theorem of_carries {t : State} (ht : s.Carries t) : LeadsTo P (.next t) := .of_next (inv.carried h ht)

/-- A request that carries these parts on. -/
theorem of_request {p : PortId} {take : State → State × Reply} (ht : ∀ u : State, u.Carries (take u).1) :
    LeadsTo P (.next (s.endTransfer p take)) := inv.of_carries h (s.endTransfer_carries p ht)

theorem of_stopTest (p : PortId) : LeadsTo P (.next (s.endTransfer p fun s => s.takeStopTest p)) := by
  refine .of_next ?_
  rcases s.endTransfer_cases p (fun s => s.takeStopTest p) with ⟨-, e⟩ | ⟨-, e⟩
  · rw [e]
    exact inv.carried h (.of_parts rfl rfl rfl rfl)
  · rw [e]
    exact inv.carried (inv.takeStopTest _ p (inv.carried h (s.deliver_carries p))) (.of_parts rfl rfl rfl rfl)

/-- A second tick that may not be due. -/
theorem of_second (pulled b : Bool) : LeadsTo P (.next (if b then secondTick pulled s else s)) := by
  cases b
  · exact .of_next h
  · exact .of_next (inv.atSecondTick pulled s h)

/-- A frame tick that may not be due. -/
theorem of_frame (b : Bool) : LeadsTo P (.next (if b then frameTick s else s)) := by
  cases b
  · exact .of_next h
  · exact .of_next (inv.atFrameTick s h)

/-- Every command keeps the invariant. -/
theorem exec (i : Instr) : LeadsTo P (exec i s) := by
  cases i with
  | powerOnReset solo => exact inv.of_carries inv.reset (.of_parts rfl rfl rfl rfl)
  | frameTick => exact inv.of_frame h true
  | frameArrival n frame =>
    exact .of_next (inv.carried (inv.arrive (Work.start s) n frame h) (Work.join_carries _))
  | headCmdStart n => exact inv.of_frame h _
  | headCmdSent n => exact inv.of_frame h _
  | secondTick pulled => exact inv.of_second h pulled true
  | linkRetry n pulled => exact inv.of_second h pulled _
  | staleEntry c pulled => exact inv.of_second h pulled _
  | learningEnd c pulled => exact inv.of_second h pulled _
  | tailEnd pulled => exact inv.of_second h pulled _
  | testExpiry pulled => exact inv.of_second h pulled _
  | draftExpiry pulled => exact inv.of_second h pulled _
  | confirmExpiry pulled => exact inv.of_second h pulled _
  | commit pulled => exact inv.of_second h pulled _
  | storeGrant =>
    refine inv.of_carries h ?_
    split
    · exact s.grant_carries
    all_goals exact .refl s
  | writeComplete =>
    refine inv.of_carries h ?_
    split
    · exact .trans (t := { s with store := { s.store with access := .idle } }) (.of_parts rfl rfl rfl rfl)
        (State.finishWrite_carries _ _)
    all_goals exact .refl s
  | copyComplete =>
    refine inv.of_carries h ?_
    split
    · exact .trans (t := { s with store := { s.store with access := .idle } }) (.of_parts rfl rfl rfl rfl)
        (State.copied_carries _ _ _)
    · exact .of_parts rfl rfl rfl rfl
    all_goals exact .refl s
  | discardTimerExpiry p =>
    refine inv.of_carries h ?_
    split <;> exact .of_parts rfl rfl rfl rfl
  | pwmPeriodStart o => exact inv.of_carries h (.of_parts rfl rfl rfl rfl)
  | pwmPulseEnd o => exact inv.of_carries h (.of_parts rfl rfl rfl rfl)
  | transferStart p =>
    refine inv.of_carries h ?_
    split <;> exact .of_parts rfl rfl rfl rfl
  | frameError p bits =>
    refine inv.of_carries h ?_
    split
    · exact s.endTransfer_carries p Carries.refl
    · exact s.endTransfer_carries p Carries.refl
    · exact .refl s
  | nop p => exact inv.of_request h Carries.refl
  | getChannel p x => exact inv.of_request h Carries.refl
  | getHead p x => exact inv.of_request h Carries.refl
  | getAlarms p x => exact inv.of_request h Carries.refl
  | getStation p => exact inv.of_request h fun _ => .of_parts rfl rfl rfl rfl
  | getSetting p k x => exact inv.of_request h Carries.refl
  | getProposal p x => exact inv.of_request h Carries.refl
  | acknowledge p x m => exact inv.of_request h fun u => u.takeAcknowledge_carries p x m
  | setTime p x => exact inv.of_request h fun u => u.takeSetTime_carries p x
  | sendHeadCommand p input code => exact inv.of_request h fun u => u.takeHeadCommand_carries input code
  | stopTest p => exact inv.of_stopTest h p
  | seek p r q => exact inv.of_request h fun u => u.placeCursor_carries p _ r _
  | rewind p r => exact inv.of_request h fun u => u.placeCursor_carries p _ r _
  | fetch p r n => exact inv.of_request h fun u => u.takeFetch_carries p r n
  | collect p => exact inv.of_request h fun u => u.takeCollect_carries p
  | cancel p => exact inv.of_request h fun u => u.takeCancel_carries p
  | draftItem p k x fs =>
    refine inv.of_request h fun u => ?_
    split
    · exact u.takeDraftItem_carries p k x fs
    · exact .refl u
  | post p =>
    exact inv.of_request h fun u =>
      .trans (t := u.strapAt p.solo) (.of_parts rfl rfl rfl rfl) ((u.strapAt p.solo).takePost_carries p.port)
  | confirm p n => exact inv.of_request h fun u => u.takeConfirm_carries p n
  | withdraw p => exact inv.of_request h fun u => u.takeWithdraw_carries p
  | getNotices p => exact inv.of_request h fun _ => .of_parts rfl rfl rfl rfl
  | setNoticeMask p m => exact inv.of_request h fun _ => .of_parts rfl rfl rfl rfl
  | setPortOptions p o => exact inv.of_request h fun u => u.takeOptions_carries p o
  | restartPort p => exact inv.of_request h fun u => u.takeRestart_carries p

/-- Every step keeps the invariant: the command at the front, or one period of the clock. -/
theorem step : LeadsTo P (step s) := by
  intro t ht
  unfold Machine.step at ht
  split at ht
  · next c rest _ => exact inv.exec (inv.carried h (t := { s with pending := rest }) (.of_parts rfl rfl rfl rfl)) c t ht
  · cases ht
    exact inv.carried h (.of_parts rfl rfl rfl rfl)

end AnalysisInvariant

end Sys2Proof.Machine
end

section
/-! ## Envelope, baseline and deviation stay within the current range (R66) -/

namespace Sys2Proof.Machine

/-! ### The parts of one channel -/

/-- A channel's envelope, baseline and deviation, and the envelope of its snapshot, within their ranges (R66). -/
structure Channel.InRange (ch : Channel) (saved : Option Snapshot) : Prop where
  envelope : ch.eAcc ≤ 256 * 131071
  baseline : -(131071 * 65536) ≤ ch.bAcc ∧ ch.bAcc ≤ 131071 * 65536
  measured : ∀ l v, ch.latest = some l → l.value = some v → inCurrentRange v.d
  saved : ∀ n, saved = some n → n.eAcc ≤ 256 * 131071

/-- A running test's amplitude and ramp value are currents (R37, R42). -/
def TestGen.inRange (t : TestGen) : Prop :=
  ∀ v, t.plan = some v → inCurrentRange v.amplitude ∧ inCurrentRange t.ramp

theorem State.currentsBounded_iff (s : State) :
    s.currentsBounded ↔ (∀ c, (nth s.channels c).InRange (nth s.test.snapshots c)) ∧ s.test.inRange ∧
      ∀ i ∈ s.proposal.items, i.amplitudeInRange :=
  and_congr_left fun _ => forall_congr' fun _ =>
    ⟨fun ⟨he, hlo, hhi, hd, hn⟩ => ⟨he, ⟨hlo, hhi⟩, hd, hn⟩, fun ⟨he, ⟨hlo, hhi⟩, hd, hn⟩ => ⟨he, hlo, hhi, hd, hn⟩⟩

/-- The parts of one channel replaced by others within the ranges. -/
theorem State.currentsBounded.withParts {s : State} (h : s.currentsBounded) {c : Fin 8}
    {r : Channel × Option Snapshot × Option Interval} (hr : r.1.InRange r.2.1) (a : Tab 32 AlarmEntry) (p : Ports) :
    (s.withParts c r a p).currentsBounded := by
  obtain ⟨hc, hplan, hitems⟩ := s.currentsBounded_iff.mp h
  refine (State.currentsBounded_iff _).mpr ⟨fun d => ?_, hplan, hitems⟩
  unfold State.withParts
  dsimp only
  by_cases hd : c = d
  · subst hd
    rw [nth_put_self, nth_put_self]
    exact hr
  · rw [nth_put_ne _ _ hd, nth_put_ne _ _ hd]
    exact hc d

theorem State.currentsBounded.parts {s : State} (h : s.currentsBounded) (c : Fin 8) :
    (nth s.channels c).InRange (nth s.test.snapshots c) := (s.currentsBounded_iff.mp h).1 c

/-! ### The turns of one channel -/

theorem baselineZero_inRange : -(131071 * 65536) ≤ (0 : Int) ∧ (0 : Int) ≤ 131071 * 65536 := by decide

theorem Channel.InRange.applyStart {ch : Channel} {saved : Option Snapshot} (h : ch.InRange saved) (m : StartMode) :
    (ch.applyStart m).InRange saved := by
  cases m with
  | zero => exact ⟨h.envelope, baselineZero_inRange, h.measured, h.saved⟩
  | learn => exact ⟨Nat.zero_le _, baselineZero_inRange, h.measured, h.saved⟩

theorem Snapshot.applyStart_eAcc_le {n : Snapshot} (h : n.eAcc ≤ 256 * 131071) (m : StartMode) :
    (n.applyStart m).eAcc ≤ 256 * 131071 := by
  cases m with
  | zero => exact h
  | learn => exact Nat.zero_le _

/-- An end of zeroing reaches the parts of its channel alone (R48, R78). -/
theorem Work.zeroedChannel_parts (w : Work) (c : Fin 8) :
    ∃ a p, (w.zeroedChannel c).st = w.st.withParts c
      ((nth w.st.channels c).zeroed (nth w.st.settings.analysis c).startMode,
        (nth w.st.channels c).zeroedSnapshot (nth w.st.settings.analysis c).startMode (nth w.st.test.snapshots c),
        nth w.st.intervals c) a p := by
  obtain ⟨a, p, hset⟩ := w.setChannel_frame c
    ((nth w.st.channels c).applyStart (nth w.st.settings.analysis c).startMode)
  unfold Work.zeroedChannel Channel.zeroed Channel.zeroedSnapshot State.withParts
  dsimp only
  cases hs : (nth w.st.channels c).state with
  | disabled => exact ⟨w.st.alarms, w.st.ports, by simp [put_nth]⟩
  | test => exact ⟨w.st.alarms, w.st.ports, by simp [put_nth, upd]⟩
  | _ => exact ⟨a, p, by simp [hset, put_nth]⟩

theorem Channel.InRange.zeroed {ch : Channel} {saved : Option Snapshot} (h : ch.InRange saved) (m : StartMode) :
    (ch.zeroed m).InRange (ch.zeroedSnapshot m saved) := by
  unfold Channel.zeroed Channel.zeroedSnapshot
  cases ch.state with
  | disabled => exact h
  | test =>
    refine ⟨h.envelope, baselineZero_inRange, h.measured, fun n hn => ?_⟩
    obtain ⟨k, hk, rfl⟩ := Option.map_eq_some_iff.mp ((if_pos rfl).symm.trans hn)
    exact Snapshot.applyStart_eAcc_le (h.saved k hk) m
  | _ => exact h.applyStart m

/-- A MAP reset reaches the parts of its channel alone, and lines (R77, R103). -/
theorem Work.remap_parts (w : Work) (c : Fin 8) :
    ∃ i p l, (w.remap c).st =
      { w.st.withParts c ((w.st.remappedRecord w.st.settings c).1, (w.st.remappedRecord w.st.settings c).2, i)
          (w.st.resetAlarms c) p with lines := l } := by
  obtain ⟨p, hst⟩ := w.resetEntries_st c
  unfold Work.remap
  dsimp only
  rw [Work.map_st, hst]
  exact ⟨_, p, _, rfl⟩

/-- A reset record is within the ranges: its envelope and baseline are 0, and its deviation, if any, stands. -/
theorem Channel.InRange.remapped {ch : Channel} {saved : Option Snapshot} (h : ch.InRange saved) {enabled targeted : Bool}
    (ht : targeted = true → enabled = true) (m : StartMode) :
    (remapped ch enabled (ch.state == .test) targeted m).1.InRange
      (remapped ch enabled (ch.state == .test) targeted m).2 := by
  rw [remapped_eq ch enabled targeted m ht]
  refine ⟨Nat.zero_le _, baselineZero_inRange, fun l v hl hv => ?_, fun n hn => ?_⟩
  · cases enabled with
    | false => cases hl
    | true => exact h.measured l v hl hv
  · cases targeted with
    | false => cases hn
    | true =>
      cases hn
      exact Nat.zero_le _

theorem State.remappedRecord_inRange {s : State} (h : s.currentsBounded) (c : Fin 8) :
    (s.remappedRecord s.settings c).1.InRange (s.remappedRecord s.settings c).2 :=
  (h.parts c).remapped MapItem.enabled_of_targeted _

/-- The exposure clamp reaches the exposures of its channel alone (R84). -/
theorem State.clampExposure_parts (s : State) (c : Fin 8) :
    s.clampExposure c = s.withParts c
      ({ nth s.channels c with x := min (nth s.channels c).x (2 * (nth s.settings.exposure c).limit) },
        (nth s.test.snapshots c).map fun n => { n with x := min n.x (2 * (nth s.settings.exposure c).limit) },
        nth s.intervals c) s.alarms s.ports := by
  rw [State.withParts, put_nth]
  rfl

theorem Channel.InRange.withExposure {ch : Channel} {saved : Option Snapshot} (h : ch.InRange saved) (x : Nat)
    (y : Snapshot → Nat) : Channel.InRange { ch with x := x } (saved.map fun n => { n with x := y n }) := by
  refine ⟨h.envelope, h.baseline, h.measured, fun n hn => ?_⟩
  obtain ⟨k, hk, rfl⟩ := Option.map_eq_some_iff.mp hn
  exact h.saved k hk

theorem Channel.InRange.begun {ch : Channel} {saved : Option Snapshot} (h : ch.InRange saved) (targeted : Bool)
    (i : Option Interval) : (begunParts targeted (ch, saved, i)).1.InRange (begunParts targeted (ch, saved, i)).2.1 := by
  cases targeted with
  | false => exact h
  | true =>
    refine ⟨h.envelope, h.baseline, h.measured, ?_⟩
    rintro _ ⟨⟩
    exact h.envelope

theorem Channel.InRange.ended {ch : Channel} {saved : Option Snapshot} (h : ch.InRange saved) (i : Option Interval) :
    (endedParts (ch, saved, i)).1.InRange (endedParts (ch, saved, i)).2.1 := by
  cases saved with
  | none => exact ⟨h.envelope, h.baseline, h.measured, nofun⟩
  | some n => exact ⟨h.saved n rfl, h.baseline, h.measured, nofun⟩

/-! ### The evaluation of a second -/

theorem clamp_inCurrentRange (v : Int) : inCurrentRange (clamp (-131071) 131071 v) := by
  unfold clamp inCurrentRange
  split
  · omega
  · split <;> omega

theorem inCurrentRange.neg {v : Int} (h : inCurrentRange v) : inCurrentRange (-v) := by
  unfold inCurrentRange at *
  omega

/-- What the next second hands to the Channel Map for an input is a current (R29, R40 to R43). -/
theorem State.secondInput_inRange {s : State} (h : s.test.inRange) {n : Fin 8} {g : Int} (hg : s.secondInput n = some g) :
    inCurrentRange g := by
  have haverage : ∀ {a : Averager} {x : Int},
      (if a.n = 0 then none else some (clamp (-131071) 131071 (roundDiv a.sum (16 * a.n)))) = some x →
        inCurrentRange x := by
    intro a x hx
    split at hx
    · cases hx
    · cases hx
      exact clamp_inCurrentRange _
  unfold State.secondInput at hg
  cases hp : s.test.plan with
  | none =>
    rw [hp] at hg
    exact haverage hg
  | some v =>
    obtain ⟨hamplitude, hramp⟩ := h v hp
    rw [hp] at hg
    dsimp only at hg
    split at hg
    · cases hf : v.form with
      | level =>
        rw [hf] at hg
        cases hg
        exact hamplitude
      | ramp =>
        rw [hf] at hg
        cases hg
        exact hramp
      | square =>
        rw [hf] at hg
        cases hg
        split
        · exact hamplitude
        · exact hamplitude.neg
      | prbs =>
        rw [hf] at hg
        cases hg
        split
        · exact hamplitude
        · exact hamplitude.neg
    · exact haverage hg

/-- A channel's second value is a current (R32, R33). -/
theorem State.secondValue_inRange {s : State} (h : s.test.inRange) {c : Fin 8} {g : Int} (hg : s.secondValue c = some g) :
    inCurrentRange g := by
  unfold State.secondValue at hg
  dsimp only at hg
  split at hg
  · exact State.secondInput_inRange h hg
  · split at hg
    · cases hg
      exact clamp_inCurrentRange _
    · cases hg

/-- The envelope rises no higher than the magnitude, and else falls (R64). -/
theorem followEnvelope_le {eAcc m top : Nat} (he : eAcc ≤ 256 * top) (hm : m ≤ top) (j : Nat) :
    followEnvelope eAcc m j ≤ 256 * top := by
  unfold followEnvelope
  split
  · omega
  · exact (Nat.sub_le _ _).trans he

/-- A step of the baseline ends between where it stood and the second value (R71). -/
theorem followBaseline_inRange {bAcc g : Int} (hb : -(131071 * 65536) ≤ bAcc ∧ bAcc ≤ 131071 * 65536)
    (hg : inCurrentRange g) (shift : Nat) :
    -(131071 * 65536) ≤ followBaseline bAcc g shift ∧ followBaseline bAcc g shift ≤ 131071 * 65536 := by
  have hstep : ∀ d : Int, 0 ≤ d → 0 ≤ d.tdiv (2 ^ shift) ∧ d.tdiv (2 ^ shift) ≤ d := fun d hd =>
    ⟨Int.tdiv_nonneg hd (by positivity), Int.tdiv_le_self _ hd⟩
  unfold followBaseline
  unfold inCurrentRange at hg
  rcases le_total 0 (g * 65536 - bAcc) with hd | hd
  · obtain ⟨hlo, hhi⟩ := hstep _ hd
    omega
  · obtain ⟨hlo, hhi⟩ := hstep (-(g * 65536 - bAcc)) (by omega)
    rw [Int.neg_tdiv] at hlo hhi
    omega

theorem deviation_inRange (ch : Channel) (g : Int) :
    inCurrentRange (deviation ch g).d ∧ (deviation ch g).m ≤ 131071 := by
  have hd : inCurrentRange (deviation ch g).d := clamp_inCurrentRange _
  refine ⟨hd, ?_⟩
  change (deviation ch g).d.natAbs ≤ 131071
  unfold inCurrentRange at hd
  omega

/-- A present second keeps the ranges: the envelope follows a clamped magnitude (R61 to R64). -/
theorem Channel.InRange.present {ch : Channel} {saved : Option Snapshot} (h : ch.InRange saved) (v : Settings) (i : Fin 8)
    (stamp : Time) (g : Int) : (ch.present v i stamp g).InRange saved := by
  obtain ⟨hd, hm⟩ := deviation_inRange ch g
  have hdev : ∀ l x, some (⟨stamp, some (deviation ch g)⟩ : LatestSecond) = some l → l.value = some x →
      inCurrentRange x.d := by
    rintro _ _ ⟨⟩ ⟨⟩
    exact hd
  unfold Channel.present
  dsimp only
  split
  · exact ⟨Nat.zero_le _, h.baseline, hdev, h.saved⟩
  · exact ⟨followEnvelope_le h.envelope hm _, h.baseline, hdev, h.saved⟩
  · exact ⟨followEnvelope_le h.envelope hm _, h.baseline, hdev, h.saved⟩
  · exact ⟨h.envelope, h.baseline, hdev, h.saved⟩
  · exact ⟨h.envelope, h.baseline, hdev, h.saved⟩

theorem Channel.present_latest (ch : Channel) (v : Settings) (i : Fin 8) (stamp : Time) (g : Int) :
    (ch.present v i stamp g).latest = some ⟨stamp, some (deviation ch g)⟩ := by
  unfold Channel.present
  dsimp only
  split <;> rfl

theorem Channel.InRange.absent {ch : Channel} {saved : Option Snapshot} (h : ch.InRange saved)
    (hd : ch.state ≠ .disabled) (limit : Nat) (stamp : Time) (zeroing : Bool) :
    (ch.absent limit stamp zeroing).InRange saved := by
  rw [Channel.absent_eq hd]
  refine ⟨h.envelope, h.baseline, ?_, h.saved⟩
  rintro _ _ ⟨⟩ ⟨⟩

/-- Stages 7 and 8 reach the baseline alone of these, by a second value (R55, R71). -/
theorem Channel.InRange.move {ch : Channel} {saved : Option Snapshot} (h : ch.InRange saved)
    (hg : ∀ v, ch.latest.bind (·.value) = some v → inCurrentRange v.g) (shift : Nat) (st : StormState) :
    (ch.move shift st).InRange saved := by
  unfold Channel.move
  split
  · exact h
  · next v hv =>
    split
    · exact ⟨h.envelope, followBaseline_inRange h.baseline (hg v hv) _, h.measured, h.saved⟩
    · split
      · exact h
      · exact ⟨h.envelope, followBaseline_inRange h.baseline (hg v hv) _, h.measured, h.saved⟩
    all_goals exact h

/-- A DISABLED channel is not evaluated (R53). -/
theorem tickMoved_of_disabled (pulled : Bool) {s : State} (hu : s.uncommitted) {c : Fin 8}
    (h : (nth s.channels c).state = .disabled) : nth (tickMoved pulled s).st.channels c = nth s.channels c := by
  rw [tickMoved_channel pulled hu, tickJudged_channel hu, if_pos h]
  unfold Channel.move
  rw [h]
  split <;> rfl

theorem tickMoved_inRange (pulled : Bool) {s : State} (hu : s.uncommitted) (h : s.currentsBounded) (c : Fin 8) :
    (nth (tickMoved pulled s).st.channels c).InRange (nth s.test.snapshots c) := by
  obtain ⟨hc, hplan, -⟩ := s.currentsBounded_iff.mp h
  by_cases hd : (nth s.channels c).state = .disabled
  · rw [tickMoved_of_disabled pulled hu hd]
    exact hc c
  · rw [tickMoved_channel pulled hu]
    cases hv : s.secondValue c with
    | none =>
      rw [tickJudged_of_absent hu hd hv]
      refine ((hc c).absent hd _ _ _).move ?_ _ _
      rw [Channel.absent_latest]
      nofun
    | some g =>
      rw [tickJudged_of_present hu hd hv]
      refine ((hc c).present _ _ _ _).move ?_ _ _
      rw [Channel.present_latest]
      rintro _ ⟨⟩
      exact State.secondValue_inRange hplan hv

/-- A test second moves the ramp value within the range of a current (R42). -/
theorem TestGen.inRange.afterSupply {t : TestGen} (h : t.inRange) : t.afterSupply.inRange := by
  intro v hv
  obtain ⟨hplan, -⟩ := t.afterSupply_frame
  rw [hplan] at hv
  obtain ⟨hamplitude, hramp⟩ := h v hv
  refine ⟨hamplitude, ?_⟩
  unfold TestGen.afterSupply TestGen.supply
  rw [hv]
  dsimp only
  cases v.form with
  | ramp => exact clamp_inCurrentRange _
  | square =>
    dsimp only
    split <;> exact hramp
  | _ => exact hramp

/-! ### The items of a proposal -/

/-- A drafted plan has an amplitude that R37 admits. -/
theorem Item.drafted.amplitudeInRange {i : Item} (h : i.drafted) : i.amplitudeInRange := by
  rintro v rfl
  obtain ⟨kind, index, fields, h⟩ := h
  unfold readItem at h
  split at h
  case h_13 =>
    obtain ⟨_, -, hread, ⟨⟩⟩ := onlyZero_map_iff.mp h
    exact (readTest_iff.mp hread).2.1
  all_goals
    simp [indexed_iff, onlyZero_map_iff, drafted_clear] at h

/-! ### The obligation -/

theorem currentsBounded_invariant : AnalysisInvariant State.currentsBounded where
  reset := resetIsSound.2.2.2.2.1
  carried {s t} h ht := by
    obtain ⟨hc, hplan, hitems⟩ := s.currentsBounded_iff.mp h
    refine t.currentsBounded_iff.mpr ⟨fun c => ?_, fun v hv => ?_, fun i hi => ?_⟩
    · rw [ht.channels]
      exact { hc c with saved := fun n hn => (hc c).saved n (ht.snapshots c n hn) }
    · obtain ⟨hs, hramp⟩ := ht.plan v hv
      rw [hramp]
      exact hplan v hs
    · exact (ht.items i hi).elim (hitems i) Item.drafted.amplitudeInRange
  zeroed w c h := by
    obtain ⟨a, p, hst⟩ := w.zeroedChannel_parts c
    rw [hst]
    exact h.withParts ((h.parts c).zeroed _) a p
  remapped w c h := by
    obtain ⟨i, p, l, hst⟩ := w.remap_parts c
    rw [hst]
    exact h.withParts (State.remappedRecord_inRange h c) (w.st.resetAlarms c) p
  clamped s c h := by
    rw [s.clampExposure_parts c]
    exact h.withParts ((h.parts c).withExposure _ _) _ _
  planned w v hv h := by
    obtain ⟨hc, -, hitems⟩ := w.st.currentsBounded_iff.mp h
    have hamplitude := hitems _ hv v rfl
    refine (State.currentsBounded_iff _).mpr ⟨hc, ?_, hitems⟩
    rintro _ ⟨⟩
    exact ⟨hamplitude, hamplitude⟩
  entered w inputs c h := by
    obtain ⟨a, p, hst⟩ := w.startTestOn_parts inputs c
    rw [hst]
    exact h.withParts ((h.parts c).begun _ _) a p
  restored w c h := by
    obtain ⟨a, p, hst⟩ := w.endTestOn_parts c
    rw [hst]
    exact h.withParts ((h.parts c).ended _) a p
  evaluated s pulled hu h := by
    obtain ⟨_, _, _, _, _, _, _, _, hst, -⟩ := tickHanded_spec pulled hu
    obtain ⟨-, hplan, hitems⟩ := s.currentsBounded_iff.mp h
    have hc := tickMoved_inRange pulled hu h
    generalize (tickMoved pulled s).st.channels = ch at hst hc
    rw [hst]
    refine (State.currentsBounded_iff _).mpr ⟨fun c => ?_, hplan.afterSupply, hitems⟩
    dsimp only
    rw [TestGen.afterSupply_snapshots]
    exact hc c

/-- Settles O56: each operation that writes a channel keeps its envelope below the magnitude, its baseline between where
it stood and a second value, and its deviation clamped. -/
theorem currentsStayBounded : Obligations.CurrentsStayBounded :=
  fun _ t h ht => currentsBounded_invariant.step h t ht

end Sys2Proof.Machine
end

section
/-! ## Alarm entries stay matched with their conditions (R53, R99, R104) -/

namespace Sys2Proof.Machine

/-! ### The entries of one channel -/

/-- A channel's entries match its conditions, all is quiet where it is DISABLED, and a snapshot is held in TEST alone. -/
structure Channel.Matched (ch : Channel) (saved : Option Snapshot) (e : AlarmKind → AlarmEntry) : Prop where
  active : ∀ k, (e k).state.active = ch.condition k
  quiet : ch.state = .disabled → ch.conds = .none ∧ ∀ k, (e k).state = .normal
  saved : saved.isSome → ch.state = .test

theorem State.alarmsMatched_iff (s : State) :
    s.alarmsMatched ↔
      ∀ c, (nth s.channels c).Matched (nth s.test.snapshots c) fun k => nth s.alarms (entryOf c k) :=
  forall_congr' fun _ => ⟨fun ⟨ha, hd, hs⟩ => ⟨ha, hd, hs⟩, fun ⟨ha, hd, hs⟩ => ⟨ha, hd, hs⟩⟩

/-- An entry that matched its condition before a change of the channel matches it after the change (R100, R101). -/
theorem AlarmEntry.moved_active {e : AlarmEntry} {k : AlarmKind} {old : Channel}
    (h : e.state.active = old.condition k) (new : Channel) (policy : PolicyItem) (now : Time) :
    (e.moved k old new policy now).state.active = new.condition k := by
  have hfall : ∀ required, (e.fall now required).state.active = false := fun required => by
    unfold AlarmEntry.fall
    dsimp only
    split <;> rfl
  cases ho : old.condition k <;> cases hn : new.condition k
  · rw [AlarmEntry.moved_of_same _ _ _ (hn.trans ho.symm), h, ho]
  · rw [AlarmEntry.moved_of_rise _ _ _ ho hn, if_neg (by rw [h, ho]; decide)]
    rfl
  · rw [AlarmEntry.moved_of_fall _ _ _ ho hn, if_pos (h.trans ho), hfall]
  · rw [AlarmEntry.moved_of_same _ _ _ (hn.trans ho.symm), h, ho]

/-- Entries that follow a change of their channel match it, where the change makes no channel DISABLED and a snapshot is
held for no channel outside TEST. -/
theorem Channel.Matched.moved {ch : Channel} {saved : Option Snapshot} {e : AlarmKind → AlarmEntry}
    (h : ch.Matched saved e) {new : Channel} {saved' : Option Snapshot} (hd : new.state = .disabled → new = ch)
    (hs : saved'.isSome → new.state = .test) (policy : PolicyItem) (now : Time) :
    new.Matched saved' fun k => (e k).moved k ch new policy now := by
  refine ⟨fun k => AlarmEntry.moved_active (h.active k) new policy now, fun hdis => ?_, hs⟩
  obtain rfl := hd hdis
  obtain ⟨hconds, hnormal⟩ := h.quiet hdis
  exact ⟨hconds, fun k => by rw [AlarmEntry.moved_of_same _ _ _ rfl]; exact hnormal k⟩

/-- New parts of one channel, with entries that match them, keep the entries of every channel matched. -/
theorem State.alarmsMatched.withParts {s : State} (h : s.alarmsMatched) {c : Fin 8}
    {r : Channel × Option Snapshot × Option Interval} {a : Tab 32 AlarmEntry} (p : Ports)
    (hr : r.1.Matched r.2.1 fun k => nth a (entryOf c k))
    (hne : ∀ d k, d ≠ c → nth a (entryOf d k) = nth s.alarms (entryOf d k)) : (s.withParts c r a p).alarmsMatched := by
  refine (State.alarmsMatched_iff _).mpr fun d => ?_
  unfold State.withParts
  dsimp only
  by_cases hd : d = c
  · subst hd
    rw [nth_put_self, nth_put_self]
    exact hr
  · simp only [nth_put_ne _ _ (Ne.symm hd), hne d _ hd]
    exact s.alarmsMatched_iff.mp h d

/-- The turn of one channel, which its entries follow, keeps the entries of every channel matched. -/
theorem Work.Turned.alarmsMatched {c : Fin 8} {r : Channel × Option Snapshot × Option Interval} {w x : Work}
    (ht : Work.Turned c r.1 r.2.1 w x) (h : w.st.alarmsMatched) (hst : ∃ a p, x.st = w.st.withParts c r a p)
    (hne : ∀ d k, d ≠ c → nth x.st.alarms (entryOf d k) = nth w.st.alarms (entryOf d k))
    (hd : r.1.state = .disabled → r.1 = nth w.st.channels c) (hs : r.2.1.isSome → r.1.state = .test) :
    x.st.alarmsMatched := by
  obtain ⟨a, p, hst⟩ := hst
  have halarms : x.st.alarms = a := by rw [hst]; rfl
  rw [hst]
  refine h.withParts p ?_ fun d k hdc => by rw [← halarms]; exact hne d k hdc
  have hm := (w.st.alarmsMatched_iff.mp h c).moved hd hs (w.st.settings.policy) w.st.timebase.time
  simp only [← halarms, ht.entry]
  exact hm

/-! ### The turns of one channel -/

theorem Channel.zeroed_state_eq (ch : Channel) (m : StartMode) :
    (ch.state = .disabled → ch.zeroed m = ch) ∧ (ch.state = .test → (ch.zeroed m).state = .test) ∧
      ((ch.zeroed m).state = .disabled → ch.state = .disabled) := by
  unfold Channel.zeroed
  cases hs : ch.state with
  | disabled => exact ⟨fun _ => rfl, nofun, fun _ => rfl⟩
  | test => exact ⟨nofun, fun _ => rfl, nofun⟩
  | _ => exact ⟨nofun, nofun, fun h => by cases m <;> cases h⟩

theorem Work.zeroedChannel_alarmsMatched (w : Work) (c : Fin 8) (h : w.st.alarmsMatched) :
    (w.zeroedChannel c).st.alarmsMatched := by
  obtain ⟨hkeep, htest, hback⟩ :=
    (nth w.st.channels c).zeroed_state_eq (nth w.st.settings.analysis c).startMode
  refine (w.zeroedChannel_turned c rfl rfl).alarmsMatched h (w.zeroedChannel_parts c) (fun d k hd => ?_)
    (fun hdis => hkeep (hback hdis)) fun hsome => htest ?_
  · exact congrFun (Prod.mk.inj (Prod.mk.inj (w.zeroedChannel_other hd)).2).2 k
  · unfold Channel.zeroedSnapshot at hsome
    split at hsome
    · assumption
    · exact (w.st.alarmsMatched_iff.mp h c).saved hsome

theorem Work.startTestOn_alarmsMatched (w : Work) (inputs : BitVec 8) (c : Fin 8) (h : w.st.alarmsMatched) :
    (w.startTestOn inputs c).st.alarmsMatched := by
  refine (w.startTestOn_turned inputs c).alarmsMatched h (w.startTestOn_parts inputs c)
    (fun d k hd => w.startTestOn_entry_ne inputs k hd) (fun hdis => ?_) fun hsome => ?_
  · unfold begunParts at hdis ⊢
    cases ht : (nth w.st.settings.map c).targeted inputs with
    | true => rw [ht] at hdis; cases hdis
    | false => rfl
  · unfold begunParts at hsome ⊢
    cases ht : (nth w.st.settings.map c).targeted inputs with
    | true => rfl
    | false => rw [ht] at hsome; exact (w.st.alarmsMatched_iff.mp h c).saved hsome

theorem Work.endTestOn_alarmsMatched (w : Work) (c : Fin 8) (h : w.st.alarmsMatched) :
    (w.endTestOn c).st.alarmsMatched := by
  refine (w.endTestOn_turned c).alarmsMatched h (w.endTestOn_parts c) (fun d k hd => w.endTestOn_entry_ne k hd)
    (fun hdis => ?_) nofun
  unfold endedParts State.parts at hdis ⊢
  cases hsaved : nth w.st.test.snapshots c with
  | none => rfl
  | some n =>
    rw [hsaved] at hdis
    change (if n.learning then ChannelState.learning else .armed) = .disabled at hdis
    split at hdis <;> cases hdis

/-- A MAP reset leaves every condition of its channel false (R77). -/
theorem Channel.Matched.remapped (ch : Channel) {enabled targeted : Bool} (ht : targeted = true → enabled = true)
    (m : StartMode) {e : AlarmKind → AlarmEntry} (he : ∀ k, (e k).state = .normal) :
    (remapped ch enabled (ch.state == .test) targeted m).1.Matched
      (remapped ch enabled (ch.state == .test) targeted m).2 e := by
  rw [remapped_eq _ _ _ _ ht]
  refine ⟨fun k => ?_, fun _ => ⟨rfl, he⟩, fun hs => ?_⟩
  · rw [he k]
    cases k with
    | data => cases enabled <;> cases targeted <;> cases m <;> rfl
    | _ => rfl
  · cases targeted with
    | false => cases hs
    | true => rw [ht rfl]; rfl

theorem Work.remap_alarmsMatched (w : Work) (c : Fin 8) (h : w.st.alarmsMatched) : (w.remap c).st.alarmsMatched := by
  obtain ⟨i, p, l, hst⟩ := w.remap_parts c
  rw [hst]
  refine State.alarmsMatched.withParts (a := w.st.resetAlarms c) h p
    (Channel.Matched.remapped _ MapItem.enabled_of_targeted _ fun k => ?_) fun d k hd => ?_
  · rw [State.resetAlarms, nth_tab, if_pos (channelOf_entryOf c k)]
    rfl
  · rw [State.resetAlarms, nth_tab, if_neg (by rw [channelOf_entryOf]; exact hd)]

/-- The exposure itself is no condition, and no snapshot comes or goes with it. -/
theorem Channel.Matched.withExposure {ch : Channel} {saved : Option Snapshot} {e : AlarmKind → AlarmEntry}
    (h : ch.Matched saved e) (x : Nat) (f : Snapshot → Snapshot) : { ch with x }.Matched (saved.map f) e where
  active k := (h.active k).trans (by cases k <;> rfl)
  quiet := h.quiet
  saved hs := h.saved (by rwa [Option.isSome_map] at hs)

/-! ### The evaluation of a second -/

theorem AlarmEntry.peaked_state (e : AlarmEntry) (due : Bool) (v : Nat) : (e.peaked due v).state = e.state := by
  unfold AlarmEntry.peaked
  split <;> rfl

/-- Stages 7 and 8 take a channel from LEARNING to ARMED, and leave the state of any other (R55). -/
theorem Channel.move_state (ch : Channel) (shift : Nat) (st : StormState) :
    (ch.move shift st).state = ch.state ∨ ch.state = .learning ∧ (ch.move shift st).state = .armed := by
  unfold Channel.move
  split
  · exact .inl rfl
  · cases hs : ch.state with
    | learning =>
      dsimp only
      split
      · exact .inr ⟨rfl, rfl⟩
      · exact .inl rfl
    | armed =>
      dsimp only
      split
      · exact .inl hs
      · exact .inl rfl
    | _ => exact .inl hs

/-- An absent second leaves a channel's state, or makes it STALE outside TEST (R58, R62). -/
theorem Channel.absent_state_cases {ch : Channel} (hd : ch.state ≠ .disabled) (limit : Nat) (stamp : Time)
    (zeroing : Bool) :
    (ch.absent limit stamp zeroing).state = ch.state ∨
      ch.state ≠ .test ∧ (ch.absent limit stamp zeroing).state = .stale := by
  rw [Channel.absent_eq hd]
  generalize (if ch.state = .test then 0
    else if zeroing then ch.absence else if 65535 ≤ ch.absence then 65535 else ch.absence + 1) = absence
  dsimp only
  split
  · next hs => exact .inr ⟨by rcases hs.1 with h | h <;> rw [h] <;> decide, rfl⟩
  · exact .inl rfl

/-- Stages 1 to 5 make no enabled channel DISABLED, and keep one that is in TEST there (R53, R55 to R59). -/
theorem tickJudged_state {s : State} (hu : s.uncommitted) {c : Fin 8} (hd : (nth s.channels c).state ≠ .disabled) :
    (nth (tickJudged s).st.channels c).state ≠ .disabled ∧
      ((nth s.channels c).state = .test → (nth (tickJudged s).st.channels c).state = .test) := by
  cases hv : s.secondValue c with
  | some g =>
    rw [tickJudged_of_present hu hd hv, (Channel.present_state _ _ _ _ _).1]
    split
    · next hs =>
      refine ⟨?_, fun ht => by cases hs.symm.trans ht⟩
      cases (nth s.channels c).left <;> nofun
    · exact ⟨hd, id⟩
  | none =>
    rw [tickJudged_of_absent hu hd hv]
    rcases Channel.absent_state_cases hd _ _ _ with h | ⟨htest, h⟩
    · rw [h]
      exact ⟨hd, id⟩
    · rw [h]
      exact ⟨nofun, fun ht => absurd ht htest⟩

/-- What a second keeps of a channel's state: DISABLED or not, and TEST. -/
theorem tickMoved_state (pulled : Bool) {s : State} (hu : s.uncommitted) (c : Fin 8) :
    ((nth (tickMoved pulled s).st.channels c).state = .disabled ↔ (nth s.channels c).state = .disabled) ∧
      ((nth s.channels c).state = .test → (nth (tickMoved pulled s).st.channels c).state = .test) := by
  by_cases hd : (nth s.channels c).state = .disabled
  · rw [tickMoved_of_disabled pulled hu hd]
    exact ⟨Iff.rfl, id⟩
  · obtain ⟨hne, htest⟩ := tickJudged_state hu hd
    rw [tickMoved_channel pulled hu]
    rcases Channel.move_state (nth (tickJudged s).st.channels c) (nth s.settings.analysis c).baselineShift
      (tickDecided pulled s).st.storm.state with h | ⟨hl, ha⟩
    · rw [h]
      exact ⟨iff_of_false hne hd, htest⟩
    · rw [ha]
      exact ⟨iff_of_false nofun hd, fun ht => by cases hl.symm.trans (htest ht)⟩

/-- Entries that are evaluated with their channel's second match it. -/
theorem Channel.Matched.evaluated {ch new : Channel} {saved : Option Snapshot} {e : AlarmKind → AlarmEntry}
    (h : ch.Matched saved e) (hd : new.state = .disabled → new = ch) (ht : ch.state = .test → new.state = .test)
    (policy : PolicyItem) (now : Time) : new.Matched saved fun k => (e k).evaluated k ch new policy now := by
  by_cases hdis : new.state = .disabled
  · obtain rfl := hd hdis
    simp only [AlarmEntry.evaluated, if_pos hdis]
    exact h
  · have hm := h.moved hd (fun hs => ht (h.saved hs)) policy now
    simp only [AlarmEntry.evaluated, if_neg hdis]
    exact ⟨fun k => by rw [AlarmEntry.peaked_state]; exact hm.active k, fun hd => absurd hd hdis, hm.saved⟩

theorem tickHanded_alarmsMatched (s : State) (pulled : Bool) (hu : s.uncommitted) (h : s.alarmsMatched) :
    (tickHanded pulled s).st.alarmsMatched := by
  obtain ⟨_, _, _, _, a, _, _, _, hst, hentry, -⟩ := tickHanded_spec pulled hu
  have hmatched : ∀ c, (nth (tickMoved pulled s).st.channels c).Matched (nth s.test.snapshots c)
      fun k => nth a (entryOf c k) := fun c => by
    obtain ⟨hdis, htest⟩ := tickMoved_state pulled hu c
    simp only [hentry]
    exact (s.alarmsMatched_iff.mp h c).evaluated (fun hd => tickMoved_of_disabled pulled hu (hdis.mp hd)) htest _ _
  generalize (tickMoved pulled s).st.channels = ch at hst hmatched
  rw [hst]
  refine (State.alarmsMatched_iff _).mpr fun c => ?_
  dsimp only
  rw [TestGen.afterSupply_snapshots]
  exact hmatched c

/-! ### The obligation -/

theorem alarmsMatched_invariant : AnalysisInvariant State.alarmsMatched where
  reset := resetIsSound.2.2.2.2.2.1
  carried {s t} h ht := by
    refine t.alarmsMatched_iff.mpr fun c => ?_
    obtain ⟨hactive, hquiet, hsaved⟩ := s.alarmsMatched_iff.mp h c
    rw [ht.channels]
    refine ⟨fun k => (ht.entries _).1.trans (hactive k), fun hd => ?_, fun hs => ?_⟩
    · obtain ⟨hconds, hnormal⟩ := hquiet hd
      exact ⟨hconds, fun k => (ht.entries _).2 (hnormal k)⟩
    · obtain ⟨n, hn⟩ := Option.isSome_iff_exists.mp hs
      exact hsaved (Option.isSome_iff_exists.mpr ⟨n, ht.snapshots c n hn⟩)
  zeroed := Work.zeroedChannel_alarmsMatched
  remapped := Work.remap_alarmsMatched
  clamped s c h := by
    rw [s.clampExposure_parts c]
    exact h.withParts _ ((s.alarmsMatched_iff.mp h c).withExposure _ _) fun _ _ _ => rfl
  planned w v _ h := h
  entered := Work.startTestOn_alarmsMatched
  restored := Work.endTestOn_alarmsMatched
  evaluated := tickHanded_alarmsMatched

/-- Settles O57: each operation that changes a channel's conditions hands the changes to its entries, and a MAP reset
leaves both at rest. -/
theorem alarmsStayMatched : Obligations.AlarmsStayMatched :=
  fun _ t h ht => alarmsMatched_invariant.step h t ht

end Sys2Proof.Machine
end

section
/-! ## Alarm entries follow the conditions of an evaluated second (R74, R99 to R102, R104, R110) -/

namespace Sys2Proof.Machine

open Work (Hands)

/-! ### One entry -/

/-- The rules of R100 to R102 in their order: a rise raises an entry that is not active, a fall ends its activity, and a
condition that stays true moves the peak of an active entry up. -/
theorem AlarmEntry.evaluated_cases (e : AlarmEntry) (k : AlarmKind) {old new : Channel} (hd : new.state ≠ .disabled)
    (policy : PolicyItem) (now : Time) :
    e.evaluated k old new policy now =
      if old.condition k = false ∧ new.condition k = true ∧ e.state.active = false then
        e.raise now (new.value k) (new.state == .test)
      else if old.condition k = true ∧ new.condition k = false ∧ e.state.active = true then
        e.fall now (policy.required k)
      else if old.condition k = true ∧ new.condition k = true ∧ e.state.active = true ∧
          ((new.latest.bind (·.value)).isSome = true ∨ k = .data) then
        { e with peak := max e.peak (new.value k) }
      else e := by
  rw [AlarmEntry.evaluated, if_neg hd, AlarmEntry.peaked]
  cases ho : old.condition k <;> cases hn : new.condition k
  · rw [AlarmEntry.moved_of_same _ _ _ (hn.trans ho.symm)]
    simp
  · rw [AlarmEntry.moved_of_rise _ _ _ ho hn]
    cases e.state.active <;> simp
  · rw [AlarmEntry.moved_of_fall _ _ _ ho hn]
    cases e.state.active <;> simp
  · rw [AlarmEntry.moved_of_same _ _ _ (hn.trans ho.symm)]
    simp [and_comm]

/-! ### A change of state announces itself -/

/-- The results of one channel announce a change of an entry's state: what follows the entries moves peaks and intervals
alone. -/
theorem Work.handResults_announces (before : Tab 8 Channel) (c : Fin 8) (k : AlarmKind) (w : Work) {e : AlarmEntry}
    (he : (nth w.st.alarms (entryOf c k)).evaluated k (nth before c) (nth w.st.channels c) w.st.settings.policy
      w.st.timebase.time = e)
    (hne : e.state ≠ (nth w.st.alarms (entryOf c k)).state) :
    (w.handResults before c).announces c k (nth w.st.alarms (entryOf c k)).state e.state
      ((nth w.st.channels c).value k) := by
  unfold AlarmEntry.evaluated at he
  unfold Work.handResults
  dsimp only
  split
  · next hd =>
    rw [if_pos hd] at he
    exact absurd (congrArg AlarmEntry.state he.symm) hne
  · next hd =>
    rw [if_neg hd] at he
    have hstate := (AlarmEntry.peaked_state _ _ _).symm.trans (congrArg AlarmEntry.state he)
    rw [← hstate] at hne ⊢
    have hann := (w.handChanges_moved c k (nth before c) (nth w.st.channels c) rfl).2 hne
    generalize w.handChanges c (nth before c) (nth w.st.channels c) = u at hann ⊢
    obtain ⟨a, ha⟩ := u.st.raisePeaks_frame c (nth before c) (nth w.st.channels c)
    have hpeaks : Hands 0 u (u.map fun s => s.raisePeaks c (nth before c) (nth w.st.channels c)) :=
      .map u (by rw [ha]) (by rw [ha]) (by rw [ha])
    exact hann.later (hpeaks.trans (Work.hands_addSecond _ c _))

/-- A change of an entry's state in the results of all channels is announced at the end of the tick's work. -/
theorem tickCounted_announces (pulled : Bool) {s : State} (hu : s.uncommitted) {c : Fin 8} {k : AlarmKind} {e : AlarmEntry}
    (he : (nth s.alarms (entryOf c k)).evaluated k (nth s.channels c) (nth (tickMoved pulled s).st.channels c)
      s.settings.policy s.timebase.time = e)
    (hne : e.state ≠ (nth s.alarms (entryOf c k)).state) :
    (tickCounted pulled s).announces c k (nth s.alarms (entryOf c k)).state e.state
      ((nth (tickMoved pulled s).st.channels c).value k) := by
  obtain ⟨_, _, _, _, hm⟩ := tickMoved_frame pulled hu
  have hsettings : (tickMoved pulled s).st.settings = s.settings := by rw [hm]
  have htime : (tickMoved pulled s).st.timebase = s.timebase := by rw [hm]
  have halarms : (tickMoved pulled s).st.alarms = s.alarms := by rw [hm]
  have hcounted : tickCounted pulled s = Work.countWindows (Work.countTest
      ((((tickMoved pulled s).forEach (Work.handResults s.channels)).map State.evaluateLines).map
        State.judgeOutputs)) := by
    rw [tickCounted, tickHanded, tickInputs_channels hu]
  rw [hcounted]
  generalize tickMoved pulled s = w at he hsettings htime halarms ⊢
  obtain ⟨_, x, ⟨hc, hs, ht⟩, hread, -, hafter⟩ := Work.foldl_turn (f := fun w c => w.handResults s.channels c)
    (fun x => x.st.channels = w.st.channels ∧ x.st.settings = s.settings ∧ x.st.timebase = s.timebase)
    (fun x c => nth x.st.alarms (entryOf c k)) (fun x c => x.hands_handResults s.channels c)
    (fun x c hx => by
      obtain ⟨_, _, _, hst⟩ := x.handResults_frame s.channels c
      rw [hst]
      exact hx)
    (fun x c d _ hd => by
      obtain ⟨_, _, _, hst, -, -, hother⟩ := x.handResults_local s.channels c
      rw [hst]
      exact hother d k hd)
    (List.nodup_finRange 8) (List.mem_finRange c) (w := w) ⟨rfl, hsettings, htime⟩
  have hentry : nth x.st.alarms (entryOf c k) = nth s.alarms (entryOf c k) := hread.trans (by rw [halarms])
  rw [← hentry, ← hc, ← hs, ← ht] at he
  rw [← hentry] at hne
  have hann := (x.handResults_announces s.channels c k he hne).later hafter
  rw [hentry, hc] at hann
  unfold Work.forEach
  generalize (List.finRange 8).foldl (fun w c => w.handResults s.channels c) w = y at hann ⊢
  have hlines : Hands 0 y (y.map State.evaluateLines) := .map y rfl rfl rfl
  have houtputs : Hands 0 (y.map State.evaluateLines) ((y.map State.evaluateLines).map State.judgeOutputs) :=
    .map _ rfl rfl rfl
  exact ((((hann.later hlines).later houtputs).later (Work.hands_countTest _)).later (Work.hands_countWindows _))

/-- What a second tick has announced stands after it: the notices, and the event in a queue that had room for all. -/
theorem secondTick_announced (pulled : Bool) {s : State} (hu : s.uncommitted) (ht : s.testGoesOn) {c : Fin 8}
    {k : AlarmKind} {was now : AlarmState} {value : Nat} (h : (tickCounted pulled s).announces c k was now value) :
    (secondTick pulled s).toldAlarm c ∧ (s.store.queue = [] → s.store.loss = 0 →
      s.eventRecord (.channel c) (.alarm (entryOf c k) was now value .condition) ∈ (secondTick pulled s).store.queue) := by
  obtain ⟨htold, hmem⟩ := h
  have hgrows := tickCounted_grows pulled s
  have hcount := hands_tickCounted_of_goesOn pulled hu ht
  refine ⟨State.toldAlarm.later (s := (tickCounted pulled s).st) htold
    (State.told_trans (Work.join_grows _).told hgrows.told), fun hqueue hloss => hgrows.queue.subset ?_⟩
  rw [State.followingRecord, hcount.timebase] at hmem
  exact hcount.joins hmem hloss (by rw [hqueue]; decide)

/-! ### The obligation -/

/-- An entry after a second tick: that of a DISABLED channel stands, any other follows its condition. -/
theorem secondTick_entry_cases (pulled : Bool) {s : State} (hu : s.uncommitted) (ht : s.testGoesOn) (c : Fin 8)
    (k : AlarmKind) :
    nth (secondTick pulled s).alarms (entryOf c k) =
      let new := nth (secondTick pulled s).channels c
      let e := nth s.alarms (entryOf c k)
      if (nth s.channels c).state = .disabled then e
      else if (nth s.channels c).condition k = false ∧ new.condition k = true ∧ e.state.active = false then
        e.raise s.timebase.time (new.value k) (new.state == .test)
      else if (nth s.channels c).condition k = true ∧ new.condition k = false ∧ e.state.active = true then
        e.fall s.timebase.time (s.settings.policy.required k)
      else if (nth s.channels c).condition k = true ∧ new.condition k = true ∧ e.state.active = true ∧
          ((new.latest.bind (·.value)).isSome = true ∨ k = .data) then
        { e with peak := max e.peak (new.value k) }
      else e := by
  have hdisabled := (tickMoved_state pulled hu c).1
  rw [secondTick_entries_of_goesOn pulled hu ht, secondTick_channels pulled hu ht]
  dsimp only
  by_cases hd : (nth s.channels c).state = .disabled
  · rw [if_pos hd, AlarmEntry.evaluated, if_pos (hdisabled.mpr hd)]
  · rw [if_neg hd, AlarmEntry.evaluated_cases _ _ (mt hdisabled.mp hd)]

/-- A second tick that changes an entry's state tells every port, and its event joins a queue with room. -/
theorem secondTick_entry_announced (pulled : Bool) {s : State} (hu : s.uncommitted) (ht : s.testGoesOn) (c : Fin 8)
    (k : AlarmKind)
    (hne : (nth (secondTick pulled s).alarms (entryOf c k)).state ≠ (nth s.alarms (entryOf c k)).state) :
    (secondTick pulled s).toldAlarm c ∧ (s.store.queue = [] → s.store.loss = 0 →
      s.eventRecord (.channel c) (.alarm (entryOf c k) (nth s.alarms (entryOf c k)).state
        (nth (secondTick pulled s).alarms (entryOf c k)).state ((nth (secondTick pulled s).channels c).value k)
        .condition) ∈ (secondTick pulled s).store.queue) := by
  rw [secondTick_channels pulled hu ht]
  exact secondTick_announced pulled hu ht
    (tickCounted_announces pulled hu (secondTick_entries_of_goesOn pulled hu ht c k).symm hne)

/-- Settles O17: after stage 9 an entry is what its evaluation made of it, and the turn of its channel announces a change
of its state. -/
theorem entriesFollowConditions : Obligations.EntriesFollowConditions := by
  intro s pulled c k hu ht
  have hentry := secondTick_entry_cases pulled hu ht c k
  have hann := secondTick_entry_announced pulled hu ht c k
  refine ⟨_, rfl, ?_⟩
  cases k <;> exact ⟨hentry, hann⟩

end Sys2Proof.Machine
end

section
/-! ## POST (R67, R118, R128, R186) -/

namespace Sys2Proof.Machine

/-! ### The checks of R186, step 2 -/

/-- The two orderings of R67, written out with every H clamped to its T. -/
theorem LevelsItem.ordered_iff (v : LevelsItem) :
    v.ordered = true ↔ v.excT ≤ v.warnT ∧ v.warnT ≤ v.alarmT ∧
      v.excT - min v.excH v.excT ≤ v.warnT - min v.warnH v.warnT ∧
      v.warnT - min v.warnH v.warnT ≤ v.alarmT - min v.alarmH v.alarmT := decide_eq_true_iff

/-- No LEVELS item fails where every one is ordered. -/
theorem failedLevels_eq_none {items : List Item} (h : ∀ c v, .levels c v ∈ items → v.ordered = true) :
    failedLevels items = none := by
  refine List.findSome?_eq_none_iff.mpr fun i hi => ?_
  cases i with
  | levels c v => exact if_pos (h c v hi)
  | _ => rfl

/-- The first LEVELS item that is not ordered is the one named. -/
theorem failedLevels_of_first {before after : List Item} {c : Fin 8} {v : LevelsItem} (hv : ¬ v.ordered = true)
    (h : ∀ c' v', .levels c' v' ∈ before → v'.ordered = true) :
    failedLevels (before ++ .levels c v :: after) = some c := by
  have hbefore := failedLevels_eq_none h
  unfold failedLevels at hbefore ⊢
  rw [List.findSome?_append, hbefore, Option.none_or, List.findSome?_cons]
  simp only [hv, Bool.false_eq_true, if_false]

/-- A PARTITION item leaves the event ring its slots where its sizes sum up to at most 3840 (R118). -/
theorem Item.partitionFits_iff (sizes : Tab 8 Nat) :
    (Item.partition sizes).partitionFits = true ↔ ((List.finRange 8).map fun c => nth sizes c).sum ≤ 3840 := by
  rw [List.sum_eq_foldl, List.foldl_map]
  exact decide_eq_true_iff

theorem Item.any_partition_iff (items : List Item) :
    items.any (fun i => !i.partitionFits) = false ↔
      ∀ z, .partition z ∈ items → ((List.finRange 8).map fun c => nth z c).sum ≤ 3840 := by
  rw [List.any_eq_false]
  refine ⟨fun h z hz => (Item.partitionFits_iff z).mp (by simpa using h _ hz), fun h i hi => ?_⟩
  cases i with
  | partition z => simpa using (Item.partitionFits_iff z).mpr (h z hi)
  | _ => exact Bool.false_ne_true

/-- Whether an item starts a test. -/
def Item.isTest (i : Item) : Bool :=
  match i with
  | .test _ => true
  | _ => false

theorem Item.any_isTest_iff (items : List Item) : items.any Item.isTest = false ↔ ∀ v, .test v ∉ items := by
  rw [List.any_eq_false]
  refine ⟨fun h v hv => h _ hv rfl, fun h i hi => ?_⟩
  cases i with
  | test v => exact absurd hi (h v)
  | _ => exact Bool.false_ne_true

section Checks

variable {s : State} {items : List Item}

theorem State.failedCheck_levels {c : Fin 8} (h : failedLevels items = some c) : s.failedCheck items = some (0, c.val) := by
  rw [State.failedCheck, h]

variable (hlevels : failedLevels items = none)
include hlevels

theorem State.failedCheck_partition (h : items.any (fun i => !i.partitionFits) = true) :
    s.failedCheck items = some (1, 0) := by
  rw [State.failedCheck, hlevels]
  exact if_pos h

variable (hpartition : items.any (fun i => !i.partitionFits) = false)
include hpartition

theorem State.failedCheck_recording
    (h : ¬ (s.settings.applyAll items).recording.storm ≤ (s.settings.applyAll items).recording.normal) :
    s.failedCheck items = some (2, 0) := by
  rw [State.failedCheck, hlevels]
  exact (if_neg (by rw [hpartition]; exact Bool.false_ne_true)).trans (if_pos (Nat.not_le.mp h))

variable (hrecording : (s.settings.applyAll items).recording.storm ≤ (s.settings.applyAll items).recording.normal)
include hrecording

/-- Once the first three checks hold, the fourth alone decides. -/
theorem State.failedCheck_test :
    s.failedCheck items =
      if s.test.plan.isSome ∧ items.any Item.isTest then some (3, 0) else none := by
  rw [State.failedCheck, hlevels]
  exact (if_neg (by rw [hpartition]; exact Bool.false_ne_true)).trans (if_neg (Nat.not_lt.mpr hrecording))

theorem State.failedCheck_test_of_not (h : ¬ (s.test.plan = none ∨ ∀ v, .test v ∉ items)) :
    s.failedCheck items = some (3, 0) := by
  rw [not_or, ← Item.any_isTest_iff, Bool.not_eq_false, ← ne_eq, ← Option.isSome_iff_ne_none] at h
  rw [State.failedCheck_test hlevels hpartition hrecording, if_pos h]

theorem State.failedCheck_eq_none (h : s.test.plan = none ∨ ∀ v, .test v ∉ items) : s.failedCheck items = none := by
  rw [State.failedCheck_test hlevels hpartition hrecording, if_neg]
  rintro ⟨hplan, hitems⟩
  rcases h with h | h
  · rw [h] at hplan
    cases hplan
  · rw [(Item.any_isTest_iff items).mpr h] at hitems
    cases hitems

end Checks

/-! ### The request -/

section Draft

variable {s : State} {p : PortId} {items : List Item} {w : Nat} (h : s.proposal = .draft p items w)
include h

/-- A draft that fails a check stays a draft. -/
theorem State.takePost_of_check {check c : Nat} (hc : s.failedCheck items = some (check, c)) :
    s.takePost p = (s, { status := .invalid, code := 13, body := .invalid check c }) := by
  unfold State.takePost
  rw [h]
  dsimp only
  rw [if_neg (not_not_intro rfl), hc]

variable (hc : s.failedCheck items = none)
include hc

/-- Under SOLO a draft that passes the checks commits without a confirmer. -/
theorem State.takePost_of_solo (hs : s.solo = true) :
    s.takePost p = ({ s with number := nextNumber s.number, proposal := .committing p none items },
      { status := .done, code := 13, body := .posted (nextNumber s.number) true }) := by
  unfold State.takePost
  rw [h]
  dsimp only
  rw [if_neg (not_not_intro rfl), hc, hs]
  rfl

/-- Without SOLO it is posted, its window begins, and the other ports are told. -/
theorem State.takePost_of_not_solo (hs : s.solo = false) :
    s.takePost p =
      ({ s with number := nextNumber s.number, proposal := .posted p items 120 }.notifyOthers p (·.addSettings 0),
        { status := .done, code := 13, body := .posted (nextNumber s.number) false }) := by
  unfold State.takePost
  rw [h]
  dsimp only
  rw [if_neg (not_not_intro rfl), hc, hs]
  rfl

end Draft

/-- POST is refused but to the owner of a draft. -/
theorem State.takePost_of_no_draft {s : State} {p : PortId} (h : ∀ items w, s.proposal ≠ .draft p items w) :
    s.takePost p = (s, bare .refused 13) := by
  unfold State.takePost
  split
  · next owner items w hd =>
    exact if_pos (by rintro rfl; exact h items w hd)
  all_goals rfl

theorem exec_post_of_plain {s : State} {p : PortId} (h : s.plain p) (solo : Bool) :
    exec (.post ⟨p, solo⟩) s = .next ((({ s with solo }.takePost p).1).updPort p fun q =>
      { q with transfer := .idle, due := ({ s with solo }.takePost p).2 }) :=
  congrArg Host.Outcome.next (State.endTransfer_of_plain h fun s => (s.strapAt solo).takePost p)

theorem exec_post_of_check {s : State} {p : PortId} (h : s.plain p) (solo : Bool) {items : List Item} {w : Nat}
    (hd : s.proposal = .draft p items w) {check c : Nat} (hc : { s with solo }.failedCheck items = some (check, c)) :
    exec (.post ⟨p, solo⟩) s =
      .next ({ s with solo }.answered p { status := .invalid, code := 13, body := .invalid check c }) := by
  rw [exec_post_of_plain h, State.takePost_of_check (s := { s with solo }) hd hc]
  rfl

/-- Settles O48: the checks of a draft in their order, and what the request makes of the state where all of them hold. -/
theorem proposalPosted : Obligations.ProposalPosted := by
  intro s p solo hp
  refine ⟨fun h => ?_, fun items w h => ?_⟩
  · rw [exec_post_of_plain hp, State.takePost_of_no_draft (s := { s with solo }) h]
    rfl
  have hinvalid := fun {check c} => exec_post_of_check hp solo h (check := check) (c := c)
  simp only [← LevelsItem.ordered_iff, ← Item.any_partition_iff]
  have hpass := fun hlevels hpartition hrecording htest =>
    State.failedCheck_eq_none (s := { s with solo }) (items := items) (failedLevels_eq_none hlevels) hpartition hrecording
      htest
  refine ⟨fun before c v after hitems hv hbefore => hinvalid ?_, fun hlevels h => hinvalid ?_,
    fun hlevels hpartition h => hinvalid ?_, fun hlevels hpartition hrecording h => hinvalid ?_,
    fun hlevels hpartition hrecording htest hsolo => ?_, fun hlevels hpartition hrecording htest hsolo => ?_⟩
  · rw [hitems]
    exact State.failedCheck_levels (failedLevels_of_first hv hbefore)
  · exact State.failedCheck_partition (failedLevels_eq_none hlevels) (by simpa using h)
  · exact State.failedCheck_recording (failedLevels_eq_none hlevels) hpartition h
  · exact State.failedCheck_test_of_not (failedLevels_eq_none hlevels) hpartition hrecording h
  · rw [exec_post_of_plain hp, State.takePost_of_solo (s := { s with solo }) h
      (hpass hlevels hpartition hrecording htest) hsolo]
    rfl
  · refine ⟨_, exec_post_of_plain hp solo, ?_⟩
    rw [State.takePost_of_not_solo (s := { s with solo }) h (hpass hlevels hpartition hrecording htest) hsolo]
    refine ⟨?_, fun q hq => ?_, rfl⟩
    · rw [State.port_updPort_self, State.port_notifyOthers_self]
      rfl
    · rw [State.port_updPort_ne _ _ (Ne.symm hq)]
      exact State.port_notifyOthers_ne _ _ (Ne.symm hq)

end Sys2Proof.Machine
end

section
/-! ## What leaves the settings and raises no exposure

Most of what a step does leaves the settings in force and takes no exposure over a bound that it kept. -/

namespace Sys2Proof.Machine

/-! ### The relation -/

/-- A channel's exposure, and the one held in its snapshot, are no higher than `top`. -/
def State.exposureWithin (s : State) (c : Fin 8) (top : Nat) : Prop :=
  (nth s.channels c).x ≤ top ∧ ∀ n, nth s.test.snapshots c = some n → n.x ≤ top

theorem State.exposureBounded_iff (s : State) :
    s.exposureBounded ↔ ∀ c, s.exposureWithin c (2 * (nth s.settings.exposure c).limit) := Iff.rfl

theorem State.exposureWithin.mono {s : State} {c : Fin 8} {low high : Nat} (h : s.exposureWithin c low)
    (hle : low ≤ high) : s.exposureWithin c high :=
  ⟨h.1.trans hle, fun n hn => (h.2 n hn).trans hle⟩

/-- `t` has the settings of `s` in force, and every bound of a channel's exposure in `s` is one in `t`. -/
structure State.Confines (s t : State) : Prop where
  settings : t.settings = s.settings
  within : ∀ c top, s.exposureWithin c top → t.exposureWithin c top

namespace State.Confines

/-- Where the settings and the channels stand and no snapshot is new. -/
theorem of_parts {s t : State} (hset : t.settings = s.settings) (hc : t.channels = s.channels)
    (hn : ∀ c n, nth t.test.snapshots c = some n → nth s.test.snapshots c = some n) : s.Confines t :=
  ⟨hset, fun c _ ⟨hx, hs⟩ => ⟨hc ▸ hx, fun n h => hs n (hn c n h)⟩⟩

theorem of_carries {s t : State} (h : s.Carries t) (hset : t.settings = s.settings) : s.Confines t :=
  of_parts hset h.channels h.snapshots

theorem refl (s : State) : s.Confines s := ⟨rfl, fun _ _ => id⟩

theorem trans {s t u : State} (h : s.Confines t) (g : t.Confines u) : s.Confines u :=
  ⟨g.settings.trans h.settings, fun c top => g.within c top ∘ h.within c top⟩

/-- The limits in force stand, so bounded exposures stay bounded. -/
theorem bounded {s t : State} (h : s.Confines t) (hs : s.exposureBounded) : t.exposureBounded :=
  t.exposureBounded_iff.mpr fun c => by
    rw [h.settings]
    exact h.within c _ (s.exposureBounded_iff.mp hs c)

/-- New parts of one channel that raise no exposure of it. -/
theorem withParts {s : State} {c : Fin 8} {r : Channel × Option Snapshot × Option Interval}
    (h : ∀ top, s.exposureWithin c top → r.1.x ≤ top ∧ ∀ n, r.2.1 = some n → n.x ≤ top) (a : Tab 32 AlarmEntry)
    (p : Ports) : s.Confines (s.withParts c r a p) where
  settings := rfl
  within d top hd := by
    unfold State.exposureWithin State.withParts
    dsimp only
    by_cases hcd : c = d
    · subst hcd
      rw [nth_put_self, nth_put_self]
      exact h top hd
    · rw [nth_put_ne _ _ hcd, nth_put_ne _ _ hcd]
      exact hd

end State.Confines

open State (Confines)

/-- Turns that confine, confine together. -/
theorem Work.foldl_confines {n : Nat} {f : Fin n → Work → Work} (h : ∀ i (w : Work), w.st.Confines (f i w).st)
    (l : List (Fin n)) (w : Work) : w.st.Confines (l.foldl (fun w i => f i w) w).st := by
  induction l generalizing w with
  | nil => exact .refl _
  | cons i l ih => exact (h i w).trans (ih (f i w))

theorem Work.forEach_confines {n : Nat} {f : Fin n → Work → Work} (h : ∀ i (w : Work), w.st.Confines (f i w).st)
    (w : Work) :
    w.st.Confines (w.forEach f).st := w.foldl_confines h _

theorem Work.join_confines (w : Work) : w.st.Confines w.join := .of_carries w.join_carries rfl

/-! ### The turns of one channel -/

theorem Channel.applyStart_x_le (ch : Channel) (m : StartMode) : (ch.applyStart m).x ≤ ch.x := by
  cases m with
  | zero => exact Nat.le_refl _
  | learn => exact Nat.zero_le _

theorem Snapshot.applyStart_x_le (n : Snapshot) (m : StartMode) : (n.applyStart m).x ≤ n.x := by
  cases m with
  | zero => exact Nat.le_refl _
  | learn => exact Nat.zero_le _

/-- An end of zeroing leaves an exposure, or sets it to 0 (R54, R78). -/
theorem Channel.zeroed_x_le (ch : Channel) (m : StartMode) : (ch.zeroed m).x ≤ ch.x := by
  unfold Channel.zeroed
  cases ch.state with
  | disabled => exact Nat.le_refl _
  | test => exact Nat.le_refl _
  | _ => exact ch.applyStart_x_le m

/-- So it does in a snapshot (R48). -/
theorem Channel.zeroedSnapshot_x_le {ch : Channel} {m : StartMode} {saved : Option Snapshot} {top : Nat}
    (h : ∀ n, saved = some n → n.x ≤ top) {n : Snapshot} (hn : ch.zeroedSnapshot m saved = some n) : n.x ≤ top := by
  unfold Channel.zeroedSnapshot at hn
  split at hn
  · obtain ⟨k, hk, rfl⟩ := Option.map_eq_some_iff.mp hn
    exact (k.applyStart_x_le m).trans (h k hk)
  · exact h n hn

theorem Work.zeroedChannel_confines (w : Work) (c : Fin 8) : w.st.Confines (w.zeroedChannel c).st := by
  obtain ⟨a, p, hst⟩ := w.zeroedChannel_parts c
  rw [hst]
  exact .withParts (fun top ⟨hx, hs⟩ =>
    ⟨((nth w.st.channels c).zeroed_x_le _).trans hx, fun _ => Channel.zeroedSnapshot_x_le hs⟩) a p

/-- A snapshot saves the exposure as it stands, which entering TEST leaves (R39). -/
theorem Work.startTestOn_confines (inputs : BitVec 8) (c : Fin 8) (w : Work) :
    w.st.Confines (w.startTestOn inputs c).st := by
  obtain ⟨a, p, hst⟩ := w.startTestOn_parts inputs c
  rw [hst]
  refine .withParts (fun top ⟨hx, hs⟩ => ?_) a p
  cases (nth w.st.settings.map c).targeted inputs with
  | false => exact ⟨hx, hs⟩
  | true =>
    refine ⟨hx, ?_⟩
    rintro _ ⟨⟩
    exact hx

/-- A restored channel takes the exposure of its snapshot (R46). -/
theorem Work.endTestOn_confines (c : Fin 8) (w : Work) : w.st.Confines (w.endTestOn c).st := by
  obtain ⟨a, p, hst⟩ := w.endTestOn_parts c
  rw [hst]
  refine .withParts (fun top ⟨hx, hs⟩ => ⟨?_, nofun⟩) a p
  unfold endedParts State.parts Channel.putBack
  dsimp only
  split
  · exact hx
  · next n hn => exact hs n hn

/-- A MAP reset leaves no exposure (R77). -/
theorem Work.remap_confines (w : Work) (c : Fin 8) : w.st.Confines (w.remap c).st := by
  obtain ⟨i, p, l, hst⟩ := w.remap_parts c
  obtain ⟨hx, hs⟩ := remapped_exposure (nth w.st.channels c) (nth w.st.settings.analysis c).startMode
    (MapItem.enabled_of_targeted (m := nth w.st.settings.map c) (plan := w.st.test.plan))
  rw [hst]
  refine Confines.trans (.withParts (r := (_, _, i)) (fun top _ => ⟨?_, fun n hn => ?_⟩) (w.st.resetAlarms c) p)
    (.of_parts rfl rfl fun _ _ => id)
  · exact hx.trans_le (Nat.zero_le _)
  · exact (hs n hn).trans_le (Nat.zero_le _)

/-- The exposure clamp of a channel (R84): no exposure rises, and those of the channel are within its limit in force. -/
theorem State.clampExposure_confines (s : State) (c : Fin 8) : s.Confines (s.clampExposure c) := by
  rw [s.clampExposure_parts c]
  refine .withParts (fun top ⟨hx, hs⟩ => ⟨(Nat.min_le_left ..).trans hx, fun n hn => ?_⟩) _ _
  obtain ⟨k, hk, rfl⟩ := Option.map_eq_some_iff.mp hn
  exact (Nat.min_le_left ..).trans (hs k hk)

theorem State.clampExposure_within (s : State) (c : Fin 8) :
    (s.clampExposure c).exposureWithin c (2 * (nth s.settings.exposure c).limit) := by
  rw [s.clampExposure_parts c]
  unfold State.exposureWithin State.withParts
  dsimp only
  rw [nth_put_self, nth_put_self]
  refine ⟨Nat.min_le_right .., fun n hn => ?_⟩
  obtain ⟨k, -, rfl⟩ := Option.map_eq_some_iff.mp hn
  exact Nat.min_le_right ..

/-! ### Arrivals, frame ticks and the end of a test -/

theorem Work.endOfZeroing_confines (w : Work) (n : Fin 8) : w.st.Confines (w.endOfZeroing n).st := by
  have hturns := w.forEach_confines (f := fun c x => if w.st.zeroesNow n c then x.zeroedChannel c else x) fun c x => by
    split
    · exact x.zeroedChannel_confines c
    · exact .refl _
  exact hturns.trans (.of_parts rfl rfl fun _ _ => id)

theorem Work.cycleEnd_confines (w : Work) (n : Fin 8) : w.st.Confines (w.cycleEnd n).st := by
  have hlinks : ∀ l : Link, w.st.Confines (w.map fun s => { s with links := put s.links n l }).st := fun l =>
    .of_parts rfl rfl fun _ _ => id
  unfold Work.cycleEnd
  dsimp only
  split
  · split
    · exact (hlinks _).trans (Work.endOfZeroing_confines _ n)
    · exact hlinks _
  · refine (hlinks _).trans (.of_carries (Work.transitionIf_carries _ n _) ?_)
    obtain ⟨_, _, h⟩ := Work.transitionIf_frame
      (w.map fun s => { s with links := put s.links n (nth w.st.links n).countCycle }) n
      (cycleTransition (nth w.st.links n).countCycle)
    rw [h]

theorem Work.arrive_confines (w : Work) (n : Fin 8) (frame : BitVec 32) : w.st.Confines (w.arrive n frame).st := by
  cases hf : (nth w.st.links n).inFlight with
  | none =>
    rw [Work.arrive_of_none w n frame hf]
    exact .refl _
  | some f =>
    have htaken : w.st.Confines (w.takeFrame n f frame).st := .of_carries (w.takeFrame_carries n f frame) <| by
      obtain ⟨_, h⟩ := w.takeFrame_frame n f frame
      rw [h]
    rw [Work.arrive_of_some w n frame hf]
    split
    · exact htaken.trans (Work.cycleEnd_confines _ n)
    · exact htaken

theorem frameTick_confines (s : State) : s.Confines (frameTick s) := by
  have hsettled : s.Confines (settled s) :=
    ((Work.start s).forEach_confines fun n x => x.arrive_confines n _).trans (Work.join_confines _)
  refine hsettled.trans (.of_carries (tickFrame_carries _) ?_)
  obtain ⟨_, _, h⟩ := tickFrame_frame (settled s)
  rw [frameTick, h]

theorem Work.endTest_confines (w : Work) (cause : TestCause) (source : EventSource) :
    w.st.Confines (w.endTest cause source).st := by
  have hturns := w.forEach_confines Work.endTestOn_confines
  unfold Work.endTest
  split
  · exact .refl _
  · dsimp only
    generalize w.forEach Work.endTestOn = x at hturns ⊢
    refine hturns.trans (.of_parts rfl rfl fun c n hn => ?_)
    cases (nth_tab (fun _ => none) c).symm.trans hn

theorem Work.countTest_confines (w : Work) : w.st.Confines w.countTest.st := by
  have hcount : ∀ r, w.st.Confines (w.map (·.withRemaining r)).st := fun r => .of_parts rfl rfl fun _ _ => id
  rcases w.countTest_cases with ⟨-, e⟩ | ⟨-, -, e⟩ | ⟨-, -, e⟩
  · rw [e]
    exact .refl _
  · rw [e]
    exact hcount _
  · rw [e]
    exact (hcount 0).trans (Work.endTest_confines _ _ _)

/-! ### Requests -/

/-- A request that confines the exposures confines them to the end of its transfer. -/
theorem State.endTransfer_confines (s : State) (p : PortId) {take : State → State × Reply}
    (h : ∀ u : State, u.Confines (take u).1) : s.Confines (s.endTransfer p take) := by
  have hdeliver : s.Confines (s.deliver p) := .of_carries (s.deliver_carries p) (s.deliver_settings p)
  rcases s.endTransfer_cases p take with ⟨-, e⟩ | ⟨-, e⟩
  · rw [e]
    exact .of_parts rfl rfl fun _ _ => id
  · rw [e]
    exact (hdeliver.trans (h _)).trans (.of_parts rfl rfl fun _ _ => id)

theorem State.takeStopTest_confines (s : State) (p : PortId) : s.Confines (s.takeStopTest p).1 := by
  unfold State.takeStopTest
  split
  · exact ((Work.start s).endTest_confines .stopped (.port p)).trans (Work.join_confines _)
  · exact .refl s

theorem State.takeAcknowledge_settings (s : State) (p : PortId) (selector : Byte) (mask : BitVec 32) :
    (s.takeAcknowledge p selector mask).1.settings = s.settings := by
  unfold State.takeAcknowledge
  split
  · rfl
  · next named _ =>
    dsimp only
    split
    · rfl
    · obtain ⟨_, _, h, -⟩ := Work.acknowledgeAll_spec s p (s.acknowledgeable named)
      generalize (Work.start s).forEach (Work.acknowledge p (s.acknowledgeable named)) = w at h ⊢
      change w.st.settings = s.settings
      rw [h]

theorem State.takeSetTime_settings (s : State) (p : PortId) (time : Time) :
    (s.takeSetTime p time).1.settings = s.settings := by
  unfold State.takeSetTime
  dsimp only
  rw [Work.join_settings]
  exact Work.forEach_induct (fun w => w.st.settings = s.settings) _ _ rfl fun c w hw => by
    rw [Work.closeInterval_st]
    exact hw

theorem State.takeHeadCommand_settings (s : State) (input code : Byte) :
    (s.takeHeadCommand input code).1.settings = s.settings := by
  unfold State.takeHeadCommand
  split
  · dsimp only
    split
    · rfl
    · split
      · rfl
      · split <;> rfl
  · rfl

theorem State.placeCursor_settings (s : State) (p : PortId) (code ring : Byte) (f : Ring → Nat) :
    (s.placeCursor p code ring f).1.settings = s.settings := by
  unfold State.placeCursor
  split
  · rfl
  · split <;> rfl

theorem State.takeFetch_settings (s : State) (p : PortId) (ring count : Byte) :
    (s.takeFetch p ring count).1.settings = s.settings := by
  unfold State.takeFetch
  split
  · rfl
  · split <;> rfl

theorem State.takeCollect_settings (s : State) (p : PortId) : (s.takeCollect p).1.settings = s.settings := by
  unfold State.takeCollect
  dsimp only
  split <;> rfl

theorem State.takeCancel_settings (s : State) (p : PortId) : (s.takeCancel p).1.settings = s.settings := by
  unfold State.takeCancel
  split <;> rfl

theorem State.takeDraftItem_settings (s : State) (p : PortId) (kind index : Byte) (fields : List Byte) :
    (s.takeDraftItem p kind index fields).1.settings = s.settings := by
  unfold State.takeDraftItem
  split
  · split <;> rfl
  · split
    · rfl
    · split <;> rfl
  all_goals rfl

theorem State.takePost_settings (s : State) (p : PortId) : (s.takePost p).1.settings = s.settings := by
  unfold State.takePost
  split
  · split
    · rfl
    · split
      · rfl
      · dsimp only
        split <;> rfl
  all_goals rfl

theorem State.takeConfirm_settings (s : State) (p : PortId) (number : BitVec 16) :
    (s.takeConfirm p number).1.settings = s.settings := by
  unfold State.takeConfirm
  split
  · split <;> rfl
  all_goals rfl

theorem State.takeWithdraw_settings (s : State) (p : PortId) : (s.takeWithdraw p).1.settings = s.settings := by
  unfold State.takeWithdraw
  split
  · split <;> rfl
  · split <;> rfl
  all_goals rfl

theorem State.takeOptions_settings (s : State) (p : PortId) (option : Byte) :
    (s.takeOptions p option).1.settings = s.settings := by
  unfold State.takeOptions
  split <;> rfl

theorem State.judgeAll_settings (s : State) (p : PortId) : (s.judgeAll p).settings = s.settings := by
  unfold State.judgeAll
  generalize List.finRange 9 = l
  induction l generalizing s with
  | nil => rfl
  | cons r l ih => exact ih (s.moveCursor p r id)

theorem State.restartedPort_settings (s : State) (p : PortId) : (s.restartedPort p).settings = s.settings := by
  simp [State.restartedPort, State.judgeAll_settings]

theorem State.takeRestart_settings (s : State) (p : PortId) : (s.takeRestart p).1.settings = s.settings := by
  have hwithdrawn : ∀ u : State, (u.withdrawn p .portRestart).settings = u.settings := fun _ => rfl
  unfold State.takeRestart
  dsimp only
  split
  · split
    · rw [hwithdrawn, State.restartedPort_settings]
    · exact s.restartedPort_settings p
  all_goals exact s.restartedPort_settings p

/-! ### Store accesses -/

theorem State.wrapRing_settings (s : State) (r : Fin 9) : (s.wrapRing r).settings = s.settings := by
  have hclear : ∀ (u : State) (p : PortId),
      (if (u.port p).slot.ring = some r then u.clearFetch p else u).settings = u.settings := fun u p => by
    split
    · exact u.clearFetch_settings p
    · rfl
  unfold State.wrapRing State.forPorts
  dsimp only
  rw [hclear, hclear, hclear]

theorem State.grant_settings (s : State) : s.grant.settings = s.settings := by
  unfold State.grant
  split
  · unfold State.grantWrite
    dsimp only
    split
    · rfl
    · split
      · exact State.wrapRing_settings _ _
      · rfl
  · split
    · unfold State.grantCopy
      dsimp only
      split <;> rfl
    · rfl

theorem State.copied_settings (s : State) (p : PortId) (r : StoredRecord) : (s.copied p r).settings = s.settings := by
  unfold State.copied
  split
  · dsimp only
    split <;> rfl
  all_goals rfl

theorem State.finishWrite_settings (s : State) (q : QueuedRecord) : (s.finishWrite q).settings = s.settings := by
  obtain ⟨_, _, h⟩ := s.finishWrite_frame q
  rw [h]

/-! ### Every command -/

/-- The outcome of a command confines the exposures, or is that of a second tick. -/
def ExposuresMoved (s : State) (o : Host.Outcome State Fault Refusal) : Prop :=
  ∀ t, o = .next t → s.Confines t ∨ ∃ pulled, t = secondTick pulled s

namespace ExposuresMoved

variable {s : State}

theorem of_confines {t : State} (h : s.Confines t) : ExposuresMoved s (.next t) := by
  rintro _ ⟨⟩
  exact .inl h

theorem of_request {p : PortId} {take : State → State × Reply}
    (h : ∀ u : State, u.Carries (take u).1 ∧ (take u).1.settings = u.settings) :
    ExposuresMoved s (.next (s.endTransfer p take)) :=
  of_confines (s.endTransfer_confines p fun u => .of_carries (h u).1 (h u).2)

/-- A request that only reads. -/
theorem of_reading {p : PortId} {take : State → State × Reply} (h : ∀ u : State, (take u).1 = u) :
    ExposuresMoved s (.next (s.endTransfer p take)) :=
  of_confines (s.endTransfer_confines p fun u => by rw [h u]; exact .refl u)

/-- A second tick that may not be due. -/
theorem of_second (pulled b : Bool) : ExposuresMoved s (.next (if b then secondTick pulled s else s)) := by
  cases b
  · exact of_confines (.refl s)
  · rw [if_pos rfl]
    exact fun t ht => .inr ⟨pulled, (Host.Outcome.next.inj ht).symm⟩

/-- A frame tick that may not be due. -/
theorem of_frame (b : Bool) : ExposuresMoved s (.next (if b then frameTick s else s)) := by
  cases b
  · exact of_confines (.refl s)
  · exact of_confines (frameTick_confines s)

end ExposuresMoved

/-- Every command but power-on confines the exposures, or is a second tick. -/
theorem exec_exposures (i : Instr) (s : State) (hi : ∀ solo, i ≠ .powerOnReset solo) : ExposuresMoved s (exec i s) := by
  cases i with
  | powerOnReset solo => exact absurd rfl (hi solo)
  | frameTick => exact .of_frame true
  | frameArrival n frame =>
    exact .of_confines (((Work.start s).arrive_confines n frame).trans (Work.join_confines _))
  | headCmdStart n => exact .of_frame _
  | headCmdSent n => exact .of_frame _
  | secondTick pulled => exact .of_second pulled true
  | linkRetry n pulled => exact .of_second pulled _
  | staleEntry c pulled => exact .of_second pulled _
  | learningEnd c pulled => exact .of_second pulled _
  | tailEnd pulled => exact .of_second pulled _
  | testExpiry pulled => exact .of_second pulled _
  | draftExpiry pulled => exact .of_second pulled _
  | confirmExpiry pulled => exact .of_second pulled _
  | commit pulled => exact .of_second pulled _
  | storeGrant =>
    refine .of_confines ?_
    split
    · exact .of_carries s.grant_carries s.grant_settings
    all_goals exact .refl s
  | writeComplete =>
    refine .of_confines ?_
    split
    · exact Confines.trans (t := { s with store := { s.store with access := .idle } }) (.of_parts rfl rfl fun _ _ => id)
        (.of_carries (State.finishWrite_carries _ _) (State.finishWrite_settings _ _))
    all_goals exact .refl s
  | copyComplete =>
    refine .of_confines ?_
    split
    · exact Confines.trans (t := { s with store := { s.store with access := .idle } }) (.of_parts rfl rfl fun _ _ => id)
        (.of_carries (State.copied_carries _ _ _) (State.copied_settings _ _ _))
    · exact .of_parts rfl rfl fun _ _ => id
    all_goals exact .refl s
  | discardTimerExpiry p =>
    refine .of_confines ?_
    split <;> exact .of_parts rfl rfl fun _ _ => id
  | pwmPeriodStart o => exact .of_confines (.of_parts rfl rfl fun _ _ => id)
  | pwmPulseEnd o => exact .of_confines (.of_parts rfl rfl fun _ _ => id)
  | transferStart p =>
    refine .of_confines ?_
    split <;> exact .of_parts rfl rfl fun _ _ => id
  | frameError p bits =>
    refine .of_confines ?_
    split
    · exact s.endTransfer_confines p Confines.refl
    · exact s.endTransfer_confines p Confines.refl
    · exact .refl s
  | nop p => exact .of_reading fun _ => rfl
  | getChannel p x => exact .of_reading fun _ => rfl
  | getHead p x => exact .of_reading fun _ => rfl
  | getAlarms p x => exact .of_reading fun _ => rfl
  | getStation p => exact .of_request fun _ => ⟨.of_parts rfl rfl rfl rfl, rfl⟩
  | getSetting p k x => exact .of_reading fun _ => rfl
  | getProposal p x => exact .of_reading fun _ => rfl
  | acknowledge p x m => exact .of_request fun u => ⟨u.takeAcknowledge_carries p x m, u.takeAcknowledge_settings p x m⟩
  | setTime p x => exact .of_request fun u => ⟨u.takeSetTime_carries p x, u.takeSetTime_settings p x⟩
  | sendHeadCommand p input code =>
    exact .of_request fun u => ⟨u.takeHeadCommand_carries input code, u.takeHeadCommand_settings input code⟩
  | stopTest p => exact .of_confines (s.endTransfer_confines p fun u => u.takeStopTest_confines p)
  | seek p r q => exact .of_request fun u => ⟨u.placeCursor_carries p _ r _, u.placeCursor_settings p _ r _⟩
  | rewind p r => exact .of_request fun u => ⟨u.placeCursor_carries p _ r _, u.placeCursor_settings p _ r _⟩
  | fetch p r n => exact .of_request fun u => ⟨u.takeFetch_carries p r n, u.takeFetch_settings p r n⟩
  | collect p => exact .of_request fun u => ⟨u.takeCollect_carries p, u.takeCollect_settings p⟩
  | cancel p => exact .of_request fun u => ⟨u.takeCancel_carries p, u.takeCancel_settings p⟩
  | draftItem p k x fs =>
    refine .of_request fun u => ?_
    split
    · exact ⟨u.takeDraftItem_carries p k x fs, u.takeDraftItem_settings p k x fs⟩
    · exact ⟨.refl u, rfl⟩
  | post p =>
    exact .of_request fun u =>
      ⟨.trans (t := u.strapAt p.solo) (.of_parts rfl rfl rfl rfl) ((u.strapAt p.solo).takePost_carries p.port),
        (u.strapAt p.solo).takePost_settings p.port⟩
  | confirm p n => exact .of_request fun u => ⟨u.takeConfirm_carries p n, u.takeConfirm_settings p n⟩
  | withdraw p => exact .of_request fun u => ⟨u.takeWithdraw_carries p, u.takeWithdraw_settings p⟩
  | getNotices p => exact .of_request fun _ => ⟨.of_parts rfl rfl rfl rfl, rfl⟩
  | setNoticeMask p m => exact .of_request fun _ => ⟨.of_parts rfl rfl rfl rfl, rfl⟩
  | setPortOptions p o => exact .of_request fun u => ⟨u.takeOptions_carries p o, u.takeOptions_settings p o⟩
  | restartPort p => exact .of_request fun u => ⟨u.takeRestart_carries p, u.takeRestart_settings p⟩

end Sys2Proof.Machine
end

section
/-! ## Exposures stay within their limits (R85) -/

namespace Sys2Proof.Machine

open State (Confines)

/-! ### A commit (R79, R84) -/

/-- Stage 2 raises no exposure of any channel. -/
theorem Work.commitChannel_confines (old : Settings) (items : List Item) (c : Fin 8) (w : Work) :
    w.st.Confines (w.commitChannel old items c).st := by
  unfold Work.commitChannel
  extract_lets new changed u v
  have hu : w.st.Confines u.st := by
    unfold u
    split
    · exact .of_carries (w.closeInterval_carries c false) (by rw [Work.closeInterval_st])
    · exact .refl _
  have hv : w.st.Confines v.st := by
    unfold v
    split
    · exact hu.trans (u.remap_confines c)
    · exact hu
  split
  · exact hv.trans (v.st.clampExposure_confines c)
  · exact hv

/-- Stage 2 brings the exposures of its channel from the old limit within the new one: where the limit has fallen, the
clamp is what comes last. -/
theorem Work.commitChannel_within (old : Settings) (items : List Item) {c : Fin 8} {w : Work}
    (h : w.st.exposureWithin c (2 * (nth old.exposure c).limit)) :
    (w.commitChannel old items c).st.exposureWithin c (2 * (nth w.st.settings.exposure c).limit) := by
  by_cases hfall : (nth w.st.settings.exposure c).limit < (nth old.exposure c).limit
  · have hset := (w.commitChannel_confines old items c).settings
    rw [← hset]
    unfold Work.commitChannel
    extract_lets new changed u v
    rw [if_pos hfall]
    exact v.st.clampExposure_within c
  · exact ((w.commitChannel_confines old items c).within c _ h).mono (by omega)

/-- Stages 1 and 2: the turn of each channel brings it within its new limit, and no other turn takes it out. -/
theorem State.commitChannels_exposureBounded {s : State} (h : s.exposureBounded) (items : List Item) :
    (s.commitChannels items).exposureBounded := by
  intro c
  have hturn := Work.commitChannel_confines s.settings items
  obtain ⟨as, bs, hl, -⟩ := List.eq_append_cons_of_mem (List.mem_finRange c)
  have hbefore := Work.foldl_confines hturn as (Work.start { s with settings := s.settings.applyAll items })
  unfold State.commitChannels Work.forEach
  rw [hl, List.foldl_append, List.foldl_cons]
  generalize as.foldl (fun w i => Work.commitChannel s.settings items i w) _ = w at hbefore ⊢
  have hafter := (Work.foldl_confines hturn bs (w.commitChannel s.settings items c)).trans (Work.join_confines _)
  have hw := w.commitChannel_within s.settings items (hbefore.within c _ (h c))
  rw [← (hturn c w).settings, ← hafter.settings] at hw
  exact hafter.within c _ hw

theorem Work.startTest_confines (w : Work) (v : TestItem) : w.st.Confines (w.startTest v).st := by
  cases hp : w.st.test.plan with
  | some plan =>
    rw [Work.startTest, if_pos (by rw [hp]; rfl)]
    exact .refl _
  | none =>
    have hbegun : w.st.Confines (w.beginTest v).st := .of_parts rfl rfl fun _ _ => id
    have hturns := hbegun.trans ((w.beginTest v).forEach_confines (Work.startTestOn_confines v.inputs))
    rw [Work.startTest_eq hp]
    generalize (w.beginTest v).forEach (Work.startTestOn v.inputs) = x at hturns ⊢
    exact hturns.trans (.of_parts rfl rfl fun _ _ => id)

theorem State.commitTest_confines (s : State) (items : List Item) : s.Confines (s.commitTest items) := by
  unfold State.commitTest
  split
  · exact ((Work.start s).startTest_confines _).trans (Work.join_confines _)
  · exact .refl s

/-- The stages behind the channels, as a whole. -/
theorem State.applyItems_confines (s : State) (items : List Item) :
    (s.commitChannels items).Confines (s.applyItems items) := by
  have hblocks : (s.commitChannels items).Confines ((s.commitChannels items).commitBlocks s.settings items) :=
    .of_carries (State.commitBlocks_carries _ _ _) <| by
      obtain ⟨_, _, _, _, _, _, _, _, _, h, -⟩ := (s.commitChannels items).commitBlocks_frame s.settings items
      rw [h]
  unfold State.applyItems
  generalize (s.commitChannels items).commitBlocks s.settings items = u at hblocks ⊢
  have hstore : u.Confines (u.commitStore items) := .of_carries (u.commitStore_carries items) <| by
    obtain ⟨_, _, h⟩ := u.commitStore_frame items
    rw [h]
  exact (hblocks.trans hstore).trans (State.commitTest_confines _ items)

theorem State.commitStages_exposureBounded {s : State} (h : s.exposureBounded) : s.commitStages.exposureBounded := by
  rcases s.uncommitted_or_committing with hu | ⟨_, _, items, hc⟩
  · rwa [State.commitStages_of_uncommitted hu]
  · rw [State.commitStages_of_committing hc]
    exact (s.applyItems_confines items).bounded (State.commitChannels_exposureBounded h items)

/-! ### The evaluation of a second (R81) -/

/-- A second's exposure rises no higher than twice the limit, and else falls. -/
theorem accumulate_le {x : Nat} {v : ExposureItem} (h : x ≤ 2 * v.limit) (m : Nat) : accumulate x m v ≤ 2 * v.limit := by
  unfold accumulate
  split
  · exact Nat.min_le_right ..
  · exact (Nat.sub_le ..).trans h

theorem Channel.present_x_le {ch : Channel} {v : Settings} {c : Fin 8} (h : ch.x ≤ 2 * (nth v.exposure c).limit)
    (stamp : Time) (g : Int) : (ch.present v c stamp g).x ≤ 2 * (nth v.exposure c).limit := by
  unfold Channel.present
  dsimp only
  split
  · exact Nat.zero_le _
  · exact accumulate_le h _
  · exact accumulate_le h _
  · exact h
  · exact h

/-- Stages 7 and 8 leave the exposure. -/
theorem Channel.move_x (ch : Channel) (shift : Nat) (st : StormState) : (ch.move shift st).x = ch.x := by
  unfold Channel.move
  split
  · rfl
  · split
    · rfl
    · split <;> rfl
    all_goals rfl

theorem tickMoved_x_le (pulled : Bool) {s : State} (hu : s.uncommitted) {c : Fin 8}
    (h : (nth s.channels c).x ≤ 2 * (nth s.settings.exposure c).limit) :
    (nth (tickMoved pulled s).st.channels c).x ≤ 2 * (nth s.settings.exposure c).limit := by
  rw [tickMoved_channel pulled hu, Channel.move_x]
  by_cases hd : (nth s.channels c).state = .disabled
  · rw [tickJudged_channel hu, if_pos hd]
    exact h
  · cases hv : s.secondValue c with
    | none =>
      rw [tickJudged_of_absent hu hd hv, Channel.absent_eq hd]
      exact h
    | some g =>
      rw [tickJudged_of_present hu hd hv]
      exact Channel.present_x_le h _ _

theorem tickHanded_exposureBounded (pulled : Bool) {s : State} (hu : s.uncommitted) (h : s.exposureBounded) :
    (tickHanded pulled s).st.exposureBounded := by
  obtain ⟨_, _, _, _, _, _, _, _, hst, -⟩ := tickHanded_spec pulled hu
  have hmoved := fun c => tickMoved_x_le pulled hu (h c).1
  generalize (tickMoved pulled s).st.channels = ch at hst hmoved
  rw [hst]
  intro c
  dsimp only
  rw [TestGen.afterSupply_snapshots]
  exact ⟨hmoved c, (h c).2⟩

/-! ### The obligation -/

theorem secondTick_exposureBounded_of_uncommitted (pulled : Bool) {s : State} (hu : s.uncommitted)
    (h : s.exposureBounded) : (secondTick pulled s).exposureBounded := by
  obtain ⟨_, _, _, _, _, _, hst⟩ := secondTick_of_counted pulled s
  have hcounted := (Work.countTest_confines _).bounded (tickHanded_exposureBounded pulled hu h)
  generalize (tickHanded pulled s).countTest.st = u at hst hcounted
  rw [hst]
  exact hcounted

/-- The bounds speak of none of the parts in which alike states differ. -/
theorem State.exposureBounded.of_like {s t : State} (h : s.exposureBounded) (hlike : s.like t) : t.exposureBounded := by
  obtain ⟨_, _, _, _, _, rfl⟩ := hlike
  exact h

/-- A tick that commits is, for the exposures, the tick at which nothing commits from what the commit has left. -/
theorem secondTick_exposureBounded (pulled : Bool) {s : State} (h : s.exposureBounded) :
    (secondTick pulled s).exposureBounded := by
  have hlike : s.commitStages.like s.commitStages.emptied.commitStages := ⟨_, _, _, _, .empty, rfl⟩
  have hemptied : s.commitStages.emptied.exposureBounded := State.commitStages_exposureBounded h
  exact (secondTick_exposureBounded_of_uncommitted pulled (s := s.commitStages.emptied) rfl hemptied).of_like
    (State.like_symm (secondTick_like pulled hlike))

/-- Settles O55: power-on bounds every exposure, a second tick accumulates within the limits that its commit has left
every exposure in, and every other step raises none and leaves the limits. -/
theorem exposureStaysBounded : Obligations.ExposureStaysBounded := by
  intro s t h ht
  unfold step at ht
  split at ht
  · next c rest _ =>
    by_cases hc : ∃ solo, c = .powerOnReset solo
    · obtain ⟨solo, rfl⟩ := hc
      cases ht
      exact resetIsSound.2.2.2.1
    · rcases exec_exposures c { s with pending := rest } (fun solo e => hc ⟨solo, e⟩) t ht with hconfines | ⟨pulled, rfl⟩
      · exact hconfines.bounded h
      · exact secondTick_exposureBounded pulled h
  · cases ht
    exact h

end Sys2Proof.Machine
end

section
/-! ## The Storm Monitor at a second tick (R88 to R95) -/

namespace Sys2Proof.Machine

open Work (Hands)

/-! ### The decision -/

/-- The storm state and the tail count decided from the station condition, written out from R91 to R93. -/
theorem StormState.after_eq (st : StormState) (tail hold : Nat) (station : Bool) :
    st.after tail hold station =
      (if station then .storm
        else
          match st with
          | .quiet => .quiet
          | .storm => if hold = 0 then .quiet else .tail
          | .tail => if tail ≤ 1 then .quiet else .tail,
       if station then 0
        else
          match st with
          | .quiet => 0
          | .storm => hold
          | .tail => tail - 1) := by
  unfold StormState.after
  cases station with
  | true => rfl
  | false =>
    cases st with
    | quiet => rfl
    | storm => by_cases h : hold = 0 <;> simp [h]
    | tail =>
      by_cases h : 2 ≤ tail
      · simp [h, show ¬ tail ≤ 1 by omega]
      · simp [h, show tail ≤ 1 by omega, show tail - 1 = 0 by omega]

/-- Another part is heard on the wire where it pulls and the part's own pull does not hide it (R90). -/
theorem heard_eq (own pulled join : Bool) : ((own || pulled) && !own && join) = (pulled && !own && join) := by
  cases own <;> simp

/-- A tail of at most one second ends where no channel counts and nothing is heard (R93). -/
theorem Storm.second_of_tailEnd {m : Storm} (v : StationItem) {pulled : Bool} (stamp : Time) (hm : m.state = .tail)
    (ht : m.tail ≤ 1) (hcount : 1 ≤ v.stormCount) (hheard : pulled = false ∨ m.pull = true ∨ v.joinExternal = false) :
    (m.second v 0 pulled stamp).state = .quiet ∧ (m.second v 0 pulled stamp).tail = 0 ∧
      (m.second v 0 pulled stamp).station = false := by
  have hstation : (m.second v 0 pulled stamp).station = false := by
    unfold Storm.second
    dsimp only
    rw [heard_eq, decide_eq_false (by omega)]
    rcases hheard with h | h | h <;> simp [h]
  have hafter : ((m.second v 0 pulled stamp).state, (m.second v 0 pulled stamp).tail) =
      m.state.after m.tail v.stormHold (m.second v 0 pulled stamp).station := rfl
  rw [hstation, StormState.after_eq, hm] at hafter
  obtain ⟨hstate, htail⟩ := Prod.mk.inj hafter
  simp only [Bool.false_eq_true, if_false, if_pos ht] at hstate htail
  exact ⟨hstate, htail.trans (by omega), hstation⟩

/-- The storm as a second tick finds it at its decision, with the time and the settings, when nothing commits. -/
theorem tickJudged_frame {s : State} (hu : s.uncommitted) :
    (tickJudged s).st.storm = s.storm ∧ (tickJudged s).st.settings = s.settings ∧
      (tickJudged s).st.timebase = s.timebase := by
  obtain ⟨_, _, hi, -⟩ := tickInputs_spec s
  rw [tickJudged, Work.map_st, State.judgeChannels_storm, State.judgeChannels_settings, State.judgeChannels_timebase, hi,
    State.commitStages_of_uncommitted hu]
  exact ⟨rfl, rfl, rfl⟩

/-- After a tick at which nothing commits, the storm is as decided from the channels of stage 5 (R61). -/
theorem secondTick_storm (pulled : Bool) {s : State} (hu : s.uncommitted) :
    (secondTick pulled s).storm =
      s.storm.second s.settings.station (excursions (tickJudged s).st.channels) pulled s.timebase.time := by
  obtain ⟨-, hset, htime⟩ := tickJudged_frame hu
  rw [(secondTick_fields pulled s).1, tickDecided_storm, hset, htime, State.commitStages_of_uncommitted hu]

/-! ### The channels that count (R88) -/

/-- Stages 7 and 8 reach no condition. -/
theorem Channel.move_conds (ch : Channel) (shift : Nat) (st : StormState) : (ch.move shift st).conds = ch.conds := by
  unfold Channel.move
  split
  · rfl
  · split
    · rfl
    · split <;> rfl
    all_goals rfl

/-- A channel that stage 8 arms counts no more than it did, for it has no excursion (R55). -/
theorem Channel.move_counts {ch : Channel} (h : ch.state = .learning → ch.conds.excursion = false) (shift : Nat)
    (st : StormState) : (ch.move shift st).counts = ch.counts := by
  unfold Channel.counts
  rw [Channel.move_conds]
  rcases ch.move_state shift st with hs | ⟨hl, -⟩
  · rw [hs]
  · rw [h hl, Bool.and_false, Bool.and_false]

/-- A present second is taken in LEARNING, or measured in ARMED or TEST. -/
theorem Channel.resumed_cases {ch : Channel} (hd : ch.state ≠ .disabled) :
    ch.resumed = .learning ∨ ch.resumed = .armed ∨ ch.resumed = .test := by
  unfold Channel.resumed
  cases hs : ch.state with
  | disabled => exact absurd hs hd
  | learning => exact .inl rfl
  | armed => exact .inr (.inl rfl)
  | test => exact .inr (.inr rfl)
  | stale =>
    rw [if_pos rfl]
    cases ch.left with
    | learning => exact .inl rfl
    | armed => exact .inr (.inl rfl)

/-- A present second in LEARNING leaves no excursion (R55). -/
theorem Channel.present_excursion_of_learning {ch : Channel} (hd : ch.state ≠ .disabled) {v : Settings} {c : Fin 8}
    {stamp : Time} {g : Int} (h : (ch.present v c stamp g).state = .learning) :
    (ch.present v c stamp g).conds.excursion = false := by
  rcases Channel.resumed_cases hd with hl | hm
  · rw [Channel.present_of_learning hl]
    rfl
  · rw [Channel.present_of_measuring hm] at h
    rcases hm with hr | hr <;> cases hr.symm.trans h

/-- A channel counts after the tick where it counted at the decision. -/
theorem tickMoved_counts (pulled : Bool) {s : State} (hu : s.uncommitted) (c : Fin 8) :
    (nth (tickMoved pulled s).st.channels c).counts = (nth (tickJudged s).st.channels c).counts := by
  by_cases hd : (nth s.channels c).state = .disabled
  · rw [tickMoved_of_disabled pulled hu hd, tickJudged_channel hu, if_pos hd]
  · rw [tickMoved_channel pulled hu]
    cases hv : s.secondValue c with
    | none =>
      rw [tickJudged_of_absent hu hd hv, Channel.move_of_absent (Channel.absent_latest ..)]
    | some g =>
      rw [tickJudged_of_present hu hd hv]
      exact Channel.move_counts (Channel.present_excursion_of_learning hd) _ _

theorem secondTick_excursions (pulled : Bool) {s : State} (hu : s.uncommitted) (ht : s.testGoesOn) :
    excursions (secondTick pulled s).channels = excursions (tickJudged s).st.channels := by
  unfold excursions
  simp only [secondTick_channels pulled hu ht, tickMoved_counts pulled hu]

theorem Channel.counts_of_state {ch : Channel} (h : ch.state = .disabled ∨ ch.state = .learning ∨ ch.state = .test) :
    ch.counts = false := by
  unfold Channel.counts
  rcases h with h | h | h <;> rw [h] <;> rfl

theorem Channel.counts_of_excursion {ch : Channel} (h : ch.conds.excursion = false) : ch.counts = false := by
  rw [Channel.counts, h, Bool.and_false]

/-- A level condition is false below its threshold, where it was false or the hysteresis is passed as well (R68). -/
theorem levelCondition_eq_false {t h e : Nat} {was : Bool} (ht : e < t) (hwas : was = false ∨ e < t - h) :
    levelCondition t h e was = false := by
  unfold levelCondition
  rw [decide_eq_false (by omega), Bool.false_or]
  rcases hwas with h | h
  · rw [h, Bool.false_and]
  · rw [decide_eq_false (by omega), Bool.and_false]

/-- A present second below the excursion level leaves a channel that does not count (R55, R68, R88). -/
theorem Channel.present_counts_of_below {ch : Channel} (hd : ch.state ≠ .disabled) {v : Settings} {c : Fin 8}
    (stamp : Time) {g : Int} {e : Nat}
    (he : followEnvelope ch.eAcc (deviation ch g).m (nth v.analysis c).decayShift / 256 = e)
    (hlevel : e < (nth v.levels c).excT)
    (hwas : ch.conds.excursion = false ∨ e < (nth v.levels c).excT - (nth v.levels c).excH) :
    (ch.present v c stamp g).counts = false := by
  rcases Channel.resumed_cases hd with hl | hm
  · rw [Channel.present_of_learning hl]
    rfl
  · rw [Channel.present_of_measuring hm]
    refine Channel.counts_of_excursion ?_
    subst he
    exact levelCondition_eq_false hlevel hwas

/-- A channel of LEARNING whose second is present is in LEARNING at the decision (R55). -/
theorem Channel.present_counts_of_learning {ch : Channel} (h : ch.state = .learning) (v : Settings) (c : Fin 8)
    (stamp : Time) (g : Int) : (ch.present v c stamp g).counts = false := by
  have hresumed : ch.resumed = .learning := by
    unfold Channel.resumed
    rw [h]
    rfl
  rw [Channel.present_of_learning hresumed]
  rfl

/-- With no excursion before it, an absent second leaves a channel that does not count (R62). -/
theorem Channel.absent_counts {ch : Channel} (hd : ch.state ≠ .disabled) (h : ch.conds.excursion = false) (limit : Nat)
    (stamp : Time) (zeroing : Bool) : (ch.absent limit stamp zeroing).counts = false := by
  rw [Channel.absent_eq hd]
  exact Channel.counts_of_excursion h

/-- A channel that counts toward no storm at the next second tick: DISABLED, in TEST, absent or LEARNING with no
excursion, or present below its levels. -/
def State.calm (s : State) (c : Fin 8) : Prop :=
  (nth s.channels c).state = .disabled ∨ (nth s.channels c).state = .test ∨
    ((nth s.channels c).conds.excursion = false ∧
      ((nth s.channels c).state = .learning ∨ s.secondValue c = none)) ∨
    ∃ g, s.secondValue c = some g ∧
      let ch := nth s.channels c
      let levels := nth s.settings.levels c
      let e := followEnvelope ch.eAcc (deviation ch g).m (nth s.settings.analysis c).decayShift / 256
      e < levels.excT ∧ (ch.conds.excursion = false ∨ e < levels.excT - levels.excH)

theorem State.calm.counts {s : State} (hu : s.uncommitted) {c : Fin 8} (h : s.calm c) :
    (nth (tickJudged s).st.channels c).counts = false := by
  by_cases hd : (nth s.channels c).state = .disabled
  · rw [tickJudged_channel hu, if_pos hd]
    exact Channel.counts_of_state (.inl hd)
  rcases h with h | htest | ⟨hexcursion, h⟩ | ⟨g, hg, hlevel, hwas⟩
  · exact absurd h hd
  · exact Channel.counts_of_state (.inr (.inr ((tickJudged_state hu hd).2 htest)))
  · cases hv : s.secondValue c with
    | none =>
      rw [tickJudged_of_absent hu hd hv]
      exact Channel.absent_counts hd hexcursion _ _ _
    | some g =>
      rw [tickJudged_of_present hu hd hv]
      exact Channel.present_counts_of_learning (h.resolve_right (by rw [hv]; nofun)) _ _ _ _
  · rw [tickJudged_of_present hu hd hg]
    exact Channel.present_counts_of_below hd _ rfl hlevel hwas

theorem excursions_of_calm {s : State} (hu : s.uncommitted) (h : ∀ c, s.calm c) :
    excursions (tickJudged s).st.channels = 0 := by
  unfold excursions
  rw [List.length_eq_zero_iff, List.filter_eq_nil_iff]
  intro c _ hcounts
  rw [(h c).counts hu] at hcounts
  cases hcounts

/-! ### The event and the notice of a transition (R95) -/

/-- Every port has been told of a transition of the storm (R175). -/
def State.toldStorm (s : State) : Prop := ∀ p, (s.port p).notices.flags.getLsbD 2 = true

theorem State.toldStorm.later {s t : State} (h : s.toldStorm) (ht : s.told t) : t.toldStorm := fun p => (ht p).1 _ (h p)

/-- A transition tells every port, and its event is handed over. -/
theorem Work.decideStorm_announced {w : Work} {pulled : Bool} {m : Storm} (hm : (w.decideStorm pulled).st.storm = m)
    (hne : m.state ≠ w.st.storm.state) :
    (w.decideStorm pulled).st.toldStorm ∧
      ⟨.storm, w.st.followingRecord .station (.storm w.st.storm.state m.state m.nExc)⟩ ∈ (w.decideStorm pulled).out := by
  unfold Work.decideStorm at hm ⊢
  dsimp only at hm ⊢
  split
  · next h =>
    rw [if_pos h] at hm
    subst hm
    exact absurd h.symm hne
  · next h =>
    rw [if_neg h] at hm
    subst hm
    refine ⟨fun p => ?_, ?_⟩
    · rw [Work.event_st, Work.map_st, Work.map_st, State.port_notifyAll]
      exact getLsbD_or_right rfl
    · rw [Work.event_out]
      exact List.mem_append_right _ (List.mem_singleton_self _)

/-- What follows the decision in a tick takes no notice back, and keeps what is handed over. -/
theorem hands_tickCounted_of_decided (pulled : Bool) (s : State) :
    Hands 90 (tickDecided pulled s) (tickCounted pulled s) := by
  have hmoved : Hands 0 (tickDecided pulled s) (tickMoved pulled s) := by
    unfold tickMoved
    generalize tickDecided pulled s = u
    exact .map u rfl rfl rfl
  have hresults := Hands.forEach (Work.hands_handResults (tickInputs s).st.channels) (tickMoved pulled s)
  have hhanded : Hands 48 (tickMoved pulled s) (tickHanded pulled s) := by
    unfold tickHanded
    generalize (tickMoved pulled s).forEach (Work.handResults (tickInputs s).st.channels) = u at hresults ⊢
    exact (hresults.trans (Hands.map u rfl rfl rfl)).trans (Hands.map _ rfl rfl rfl)
  exact ((hmoved.trans hhanded).trans (Work.hands_countTest _)).trans (Work.hands_countWindows _)

/-- A tick that takes the storm to another state announces it at its decision. -/
theorem tickDecided_announced (pulled : Bool) {s : State} (hu : s.uncommitted)
    (hne : (secondTick pulled s).storm.state ≠ s.storm.state) :
    (tickDecided pulled s).st.toldStorm ∧
      ⟨.storm, s.followingRecord .station (.storm s.storm.state (secondTick pulled s).storm.state
        (secondTick pulled s).storm.nExc)⟩ ∈ (tickDecided pulled s).out := by
  obtain ⟨hstorm, -, htime⟩ := tickJudged_frame hu
  have hdecided := (secondTick_fields pulled s).1
  generalize (secondTick pulled s).storm = m at hne hdecided ⊢
  unfold tickDecided at hdecided ⊢
  generalize tickJudged s = w at hstorm htime hdecided ⊢
  rw [← hstorm] at hne ⊢
  have hann := Work.decideStorm_announced hdecided.symm hne
  rwa [State.followingRecord, htime] at hann

theorem secondTick_toldStorm (pulled : Bool) {s : State} (hu : s.uncommitted)
    (hne : (secondTick pulled s).storm.state ≠ s.storm.state) : (secondTick pulled s).toldStorm :=
  (tickDecided_announced pulled hu hne).1.later <| State.told_trans (hands_tickCounted_of_decided pulled s).told <|
    State.told_trans (Work.join_grows _).told (tickCounted_grows pulled s).told

/-- The STORM event joins an empty queue, which has room for every record of a tick at which no test ends. -/
theorem secondTick_stormEvent (pulled : Bool) {s : State} (hu : s.uncommitted) (ht : s.testGoesOn)
    (hne : (secondTick pulled s).storm.state ≠ s.storm.state) (hqueue : s.store.queue = []) (hloss : s.store.loss = 0) :
    s.eventRecord .station (.storm s.storm.state (secondTick pulled s).storm.state (secondTick pulled s).storm.nExc) ∈
      (secondTick pulled s).store.queue :=
  (tickCounted_grows pulled s).queue.subset <|
    (hands_tickCounted_of_goesOn pulled hu ht).joins
      ((hands_tickCounted_of_decided pulled s).mem (tickDecided_announced pulled hu hne).2) hloss
      (by rw [hqueue]; decide)

/-! ### The obligation -/

/-- A tail that a tick takes to QUIET is the TAIL_END (R93; log 2). -/
theorem exec_tailEnd_of_quiet {pulled : Bool} {s : State} (hu : s.uncommitted) (ht : s.storm.state = .tail)
    (hq : (secondTick pulled s).storm.state = .quiet) : exec (.tailEnd pulled) s = .next (secondTick pulled s) := by
  have hends : endsTail pulled s = true := by
    unfold endsTail
    rw [(tickJudged_frame hu).1, ht, ← (secondTick_fields pulled s).1, hq]
    rfl
  change Host.Outcome.next (if endsTail pulled s then secondTick pulled s else s) = _
  rw [hends, if_pos rfl]

/-- The whole Storm Monitor after a second tick, N_exc counted over the channels that the tick leaves. -/
theorem secondTick_storm_eq (pulled : Bool) {s : State} (hu : s.uncommitted) (ht : s.testGoesOn) :
    (secondTick pulled s).storm =
      let v := s.settings.station
      let count := excursions (secondTick pulled s).channels
      let loc := decide (v.stormCount ≤ count)
      let station := loc || (pulled && !s.storm.pull && v.joinExternal)
      let next := s.storm.state.after s.storm.tail v.stormHold station
      { state := next.1, tail := next.2, nExc := count, localStorm := loc
        wire := some { high := !(s.storm.pull || pulled), ownPull := s.storm.pull }
        station, pull := loc && v.drivePin, stamp := some s.timebase.time } := by
  rw [secondTick_storm pulled hu, secondTick_excursions pulled hu ht]
  unfold Storm.second
  simp only [heard_eq]

/-- Settles O19: the storm is decided once in a tick, and a transition announces itself there; a tail with nothing to hold
it ends. -/
theorem stormDecided : Obligations.StormDecided := by
  refine ⟨fun s pulled hu ht => ⟨_, rfl, ?_, fun hne => ?_, fun htail hq => exec_tailEnd_of_quiet hu htail hq⟩,
    fun s pulled hu htail hlast hcount hheard hcalm => ?_⟩
  · have hstorm := secondTick_storm_eq pulled hu ht
    simp only [StormState.after_eq] at hstorm
    exact hstorm
  · have hevent := secondTick_stormEvent pulled hu ht hne
    rw [show (secondTick pulled s).storm.nExc = excursions (secondTick pulled s).channels by
      rw [secondTick_storm_eq pulled hu ht]] at hevent
    exact ⟨secondTick_toldStorm pulled hu hne, hevent⟩
  · have hstorm := secondTick_storm pulled hu
    rw [excursions_of_calm hu hcalm] at hstorm
    obtain ⟨hstate, hzero, hstation⟩ :=
      Storm.second_of_tailEnd s.settings.station s.timebase.time htail hlast hcount hheard
    rw [← hstorm] at hstate hzero hstation
    exact ⟨_, exec_tailEnd_of_quiet hu htail hstate, rfl, hstate, hzero, hstation,
      secondTick_toldStorm pulled hu (by rw [hstate, htail]; decide)⟩

end Sys2Proof.Machine
end

section
/-! ## The alarm lines at a second tick (R112, R113, R114) -/

namespace Sys2Proof.Machine

/-! ### What asserts a line (R112) -/

theorem LineMode.names_iff (m : LineMode) (a : AlarmState) :
    m.names a = true ↔
      (m = .active ∧ (a = .raised ∨ a = .accepted) ∨ m = .unack ∧ (a = .raised ∨ a = .returned) ∨
        m = .any ∧ a ≠ .normal) := by
  cases m <;> cases a <;> simp [LineMode.names, AlarmState.active]

theorem OutputItem.selects_iff (r : OutputItem) (i : Fin 32) (e : AlarmEntry) :
    r.selects i e = true ↔
      r.channels.getLsbD (i.val / 4) = true ∧ r.kinds.getLsbD (i.val % 4) = true ∧
        (r.includeTest = true ∨ e.mark = false) := by
  simp [OutputItem.selects, and_assoc]

theorem OutputItem.asserts_iff (r : OutputItem) (alarms : Tab 32 AlarmEntry) :
    r.asserts alarms = true ↔
      ∃ i, r.selects i (nth alarms i) = true ∧ r.mode.names (nth alarms i).state = true := by
  simp [OutputItem.asserts, List.any_eq_true]

/-! ### Lines that stand as their rules judge the entries -/

/-- Every line stands as its rule in force judges the entries (R112, R113). -/
def State.linesJudged (s : State) : Prop :=
  ∀ l, nth s.lines l = evaluateLine (nth s.settings.output l) s.alarms

theorem State.linesJudged.of_parts {s t : State} (h : s.linesJudged) (hl : t.lines = s.lines)
    (hset : t.settings = s.settings) (ha : t.alarms = s.alarms) : t.linesJudged := fun l => by
  rw [hl, hset, ha]
  exact h l

/-- Once a line has been evaluated, a change of an entry evaluates it again (R114). -/
theorem refreshLine_of_evaluated {l : Line} (h : l.asserted ≠ none) (r : OutputItem) (alarms : Tab 32 AlarmEntry) :
    refreshLine r alarms l = evaluateLine r alarms := by
  rw [refreshLine, if_neg]
  rwa [Option.isNone_iff_eq_none]

theorem State.evaluateLines_linesJudged (s : State) : s.evaluateLines.linesJudged := fun l => nth_tab _ l

theorem tickHanded_linesJudged (pulled : Bool) (s : State) : (tickHanded pulled s).st.linesJudged := by
  rw [tickHanded, Work.map_st, Work.map_st]
  exact (State.evaluateLines_linesJudged _).of_parts (State.judgeOutputs_lines _) (State.judgeOutputs_settings _)
    (State.judgeOutputs_alarms _)

/-- The count of a test leaves lines judged: the end of a test evaluates them again behind the entries (R44, R114). -/
theorem Work.countTest_linesJudged {w : Work} (h : w.st.linesJudged) : w.countTest.st.linesJudged := by
  rcases w.countTest_cases with ⟨-, hc⟩ | ⟨-, -, hc⟩ | ⟨hrun, -, hc⟩ <;> rw [hc]
  · exact h
  · exact h.of_parts rfl rfl rfl
  · obtain ⟨plan, hplan⟩ := Option.isSome_iff_exists.mp hrun
    obtain ⟨⟨a, p, hst⟩, -⟩ :=
      Work.endTest_spec (w := w.map (·.withRemaining 0)) hplan .expired .station
    rw [hst]
    intro l
    have heval : (nth w.st.lines l).asserted ≠ none := by
      rw [h l]
      exact nofun
    exact (nth_tab _ l).trans (refreshLine_of_evaluated heval _ _)

theorem secondTick_linesJudged (pulled : Bool) (s : State) : (secondTick pulled s).linesJudged := by
  obtain ⟨_, _, _, _, _, _, ht⟩ := secondTick_of_counted pulled s
  exact (Work.countTest_linesJudged (tickHanded_linesJudged pulled s)).of_parts (by rw [ht]) (by rw [ht]) (by rw [ht])

/-- Settles O18: every line is judged once the entries of a tick stand. -/
theorem linesFollowEntries : Obligations.LinesFollowEntries := by
  intro s pulled
  refine ⟨secondTick pulled s, rfl, fun l => ⟨_, secondTick_linesJudged pulled s l, ?_⟩⟩
  rw [OutputItem.asserts_iff]
  simp only [OutputItem.selects_iff, LineMode.names_iff, and_assoc]

end Sys2Proof.Machine
end

section
/-! ## ACKNOWLEDGE (R107, R108, R110, R114, R175) -/

namespace Sys2Proof.Machine

/-! ### The entries it names and changes (R107, R195) -/

theorem namedEntries_of_bad {selector : Byte} {mask : BitVec 32}
    (h : 2 ≤ selector.toNat ∨ selector = 0 ∧ mask = 0) : namedEntries selector mask = none := by
  unfold namedEntries
  rcases h with h | ⟨rfl, rfl⟩
  · rw [if_neg, if_neg]
    · rintro ⟨rfl, -⟩
      exact absurd h (by decide)
    · rintro rfl
      exact absurd h (by decide)
  · rfl

/-- Selector 1 names every entry, selector 0 those of its mask. -/
theorem namedEntries_of_good {selector : Byte} {mask : BitVec 32} (h : selector = 1 ∨ selector = 0 ∧ mask ≠ 0) :
    ∃ named, namedEntries selector mask = some named ∧
      ∀ i : Fin 32, named.getLsbD i.val = (selector == 1 || mask.getLsbD i.val) := by
  rcases h with rfl | ⟨rfl, hmask⟩
  · have hall : ∀ i : Fin 32, (0xFFFFFFFF#32).getLsbD i.val = true := by decide
    exact ⟨0xFFFFFFFF#32, rfl, hall⟩
  · exact ⟨mask, (if_neg (by decide)).trans (if_pos ⟨rfl, hmask⟩), fun i => rfl⟩

/-- The entries of a mask, in entry order. -/
def entriesOf (m : BitVec 32) : List (Fin 32) := (List.finRange 32).filter fun i => m.getLsbD i.val

theorem mem_entriesOf {m : BitVec 32} {i : Fin 32} : i ∈ entriesOf m ↔ m.getLsbD i.val = true := by
  simp [entriesOf]

theorem entriesOf_nodup (m : BitVec 32) : (entriesOf m).Nodup := (List.nodup_finRange 32).filter _

theorem entryCount_eq (m : BitVec 32) : entryCount m = (entriesOf m).length := by
  rw [entryCount, entriesOf, ← List.map_coe_finRange_eq_range, List.filter_map, List.length_map]
  rfl

theorem entriesOf_ne_nil {m : BitVec 32} (h : m ≠ 0) : entriesOf m ≠ [] := fun hnil => h <| by
  refine BitVec.eq_of_getLsbD_eq fun i hi => ?_
  have hnot : (⟨i, hi⟩ : Fin 32) ∉ entriesOf m := by simp [hnil]
  rw [mem_entriesOf, Bool.not_eq_true] at hnot
  simpa using hnot

/-! ### The entries in turn (R108) -/

/-- One entry's turn in an acknowledgement that changes it. -/
def Work.acknowledgeEntry (p : PortId) (w : Work) (i : Fin 32) : Work :=
  w.moveEntry .acknowledgement i ((nth w.st.alarms i).acknowledge w.st.timebase.time p) (nth w.st.alarms i).peak
    .acknowledge

/-- An acknowledgement is the turns of the entries that it changes. -/
theorem Work.forEach_acknowledge (p : PortId) (changed : BitVec 32) (w : Work) :
    w.forEach (Work.acknowledge p changed) = (entriesOf changed).foldl (Work.acknowledgeEntry p) w :=
  List.foldl_filter.symm

/-- The ALARM event of an acknowledged entry, as it is handed over (R110). -/
def State.acknowledgedRecord (s : State) (i : Fin 32) : QueuedRecord :=
  s.followingRecord (.channel (channelOf i))
    (.alarm i (nth s.alarms i).state (if (nth s.alarms i).state = .raised then .accepted else .normal)
      (nth s.alarms i).peak .acknowledge)

theorem Work.acknowledgeEntries_out (p : PortId) {l : List (Fin 32)} (hl : l.Nodup) (w : Work) :
    (l.foldl (Work.acknowledgeEntry p) w).out =
      w.out ++ l.map fun i => ⟨.acknowledgement, w.st.acknowledgedRecord i⟩ := by
  induction l generalizing w with
  | nil => simp
  | cons a l ih =>
    obtain ⟨ha, hl⟩ := List.nodup_cons.mp hl
    have hother : ∀ i ∈ l, (w.acknowledgeEntry p a).st.acknowledgedRecord i = w.st.acknowledgedRecord i := by
      intro i hi
      have hne : a ≠ i := fun e => ha (e ▸ hi)
      have halarm : nth (w.acknowledgeEntry p a).st.alarms i = nth w.st.alarms i := nth_put_ne _ _ hne
      rw [State.acknowledgedRecord, halarm]
      rfl
    have hself : (w.acknowledgeEntry p a).out = w.out ++ [⟨.acknowledgement, w.st.acknowledgedRecord a⟩] := rfl
    rw [List.foldl_cons, ih hl, hself, List.map_cons, List.append_assoc, List.singleton_append,
      List.map_congr_left fun i hi => by rw [hother i hi]]

/-! ### What the ports are told (R110, R175) -/

/-- The ALARM notices of the entries of a list, one after another. -/
def Notices.alarmedBy (n : Notices) (l : List (Fin 32)) : Notices :=
  l.foldl (fun n i => n.addAlarm (bitOf 8 (channelOf i))) n

theorem Work.acknowledgeEntries_notices (p : PortId) (l : List (Fin 32)) (w : Work) (q : PortId) :
    ((l.foldl (Work.acknowledgeEntry p) w).st.port q).notices = (w.st.port q).notices.alarmedBy l := by
  induction l generalizing w with
  | nil => rfl
  | cons a l ih =>
    have hself : ((w.acknowledgeEntry p a).st.port q).notices =
        (w.st.port q).notices.addAlarm (bitOf 8 (channelOf a)) :=
      congrArg Port.notices (w.st.port_notifyAll (·.addAlarm (bitOf 8 (channelOf a))) q)
    rw [List.foldl_cons, ih, hself]
    rfl

theorem Notices.alarmedBy_flag (n : Notices) {l : List (Fin 32)} (h : l ≠ []) :
    (n.alarmedBy l).flags.getLsbD 0 = true := by
  have hkeep : ∀ (l : List (Fin 32)) (n : Notices), n.flags.getLsbD 0 = true →
      (n.alarmedBy l).flags.getLsbD 0 = true := by
    intro l
    induction l with
    | nil => exact fun _ hn => hn
    | cons a l ih => exact fun n hn => ih _ (getLsbD_or_left hn)
  cases l with
  | nil => exact absurd rfl h
  | cons a l => exact hkeep l _ (n.addAlarm_bits (channelOf a)).1

/-- A channel's ALARM bit comes from an entry of that channel, or stood before. -/
theorem Notices.alarmedBy_alarm (n : Notices) (l : List (Fin 32)) (c : Fin 8) :
    (n.alarmedBy l).alarm.getLsbD c.val = true ↔ n.alarm.getLsbD c.val = true ∨ ∃ i ∈ l, channelOf i = c := by
  induction l generalizing n with
  | nil => simp [Notices.alarmedBy]
  | cons a l ih =>
    have hself : (n.addAlarm (bitOf 8 (channelOf a))).alarm.getLsbD c.val = true ↔
        n.alarm.getLsbD c.val = true ∨ channelOf a = c := by
      have hbit : ∀ d c : Fin 8, (bitOf 8 d).getLsbD c.val = true ↔ d = c := by decide
      rw [Notices.addAlarm, BitVec.getLsbD_or, Bool.or_eq_true, hbit]
    refine (ih _).trans ?_
    rw [hself, or_assoc]
    simp

/-- The four entries of a channel, by their places. -/
theorem exists_entry_of_channel {P : Fin 32 → Prop} (c : Fin 8) :
    (∃ i, P i ∧ channelOf i = c) ↔ ∃ k : Fin 4, P ⟨4 * c.val + k.val, by omega⟩ := by
  constructor
  · rintro ⟨i, hi, rfl⟩
    refine ⟨⟨i.val % 4, by omega⟩, ?_⟩
    convert hi using 1
    exact Fin.ext (Nat.div_add_mod i.val 4)
  · rintro ⟨k, hk⟩
    refine ⟨_, hk, Fin.ext ?_⟩
    simp only [channelOf]
    omega

/-! ### The request -/

theorem State.takeAcknowledge_of_bad {s : State} {p : PortId} {selector : Byte} {mask : BitVec 32}
    (h : namedEntries selector mask = none) : s.takeAcknowledge p selector mask = (s, bare .badArgument 7) := by
  rw [State.takeAcknowledge, h]

theorem State.takeAcknowledge_of_none {s : State} {p : PortId} {selector : Byte} {mask named : BitVec 32}
    (h : namedEntries selector mask = some named) (hnone : s.acknowledgeable named = 0) :
    s.takeAcknowledge p selector mask = (s, { status := .notPending, code := 7, body := .acknowledged 0 0 }) := by
  rw [State.takeAcknowledge, h]
  exact if_pos hnone

/-- The events of an acknowledgement, in the order in which they are handed over: ALARM by entry, then ACK (R108). -/
def State.acknowledgeRecords (s : State) (p : PortId) (changed : BitVec 32) : List QueuedRecord :=
  (entriesOf changed).map s.acknowledgedRecord ++
    [s.followingRecord (.port p) (.ack p (entriesOf changed).length changed)]

/-- What ACKNOWLEDGE does when it is taken and changes entries (R107, R108). -/
theorem State.takeAcknowledge_spec {s : State} {p : PortId} {selector : Byte} {mask named : BitVec 32}
    (h : namedEntries selector mask = some named) (hsome : s.acknowledgeable named ≠ 0) :
    ∃ (a : Tab 32 AlarmEntry) (ps : Ports) (fr : Nat), s.takeAcknowledge p selector mask =
        ({ s with
            alarms := a, ports := ps, free := fr
            lines := tab fun l => refreshLine (nth s.settings.output l) a (nth s.lines l)
            store := (s.acknowledgeRecords p (s.acknowledgeable named)).foldl Store.join s.store },
          { status := .done, code := 7
            body := .acknowledged (entriesOf (s.acknowledgeable named)).length (s.acknowledgeable named) }) ∧
      (∀ i, nth a i = if (s.acknowledgeable named).getLsbD i.val then
        (nth s.alarms i).acknowledge s.timebase.time p else nth s.alarms i) ∧
      ∀ q, (ps.get q).notices = (s.port q).notices.alarmedBy (entriesOf (s.acknowledgeable named)) := by
  rw [State.takeAcknowledge, h]
  have hsplit : ¬ s.acknowledgeable named = 0#32 := hsome
  dsimp only
  rw [if_neg hsplit, entryCount_eq]
  generalize s.acknowledgeable named = changed
  obtain ⟨a, ps, hst, ha⟩ := Work.acknowledgeAll_spec s p changed
  have hnotices := Work.acknowledgeEntries_notices p (entriesOf changed) (Work.start s)
  have hout := Work.acknowledgeEntries_out p (entriesOf_nodup changed) (Work.start s)
  rw [← Work.forEach_acknowledge] at hnotices hout
  generalize (Work.start s).forEach (Work.acknowledge p changed) = w at hst hnotices hout ⊢
  generalize hx : w.event .acknowledgement (.port p) (.ack p (entriesOf changed).length changed) = x
  have hxst : x.st = { s with alarms := a, ports := ps } := by
    rw [← hx, Work.event_st, hst]
  have hxout : x.out = (s.acknowledgeRecords p changed).map fun q => ⟨.acknowledgement, q⟩ := by
    rw [← hx, Work.event_out, hout, hst, State.acknowledgeRecords, List.map_append, List.map_map]
    rfl
  have hstore : x.join.store = (s.acknowledgeRecords p changed).foldl Store.join s.store := by
    rw [Work.join_store_of_oneSender x .acknowledgement, hxout, hxst, List.map_map]
    · exact congrArg (List.foldl Store.join s.store) (List.map_id _)
    · rw [hxout]
      intro y hy
      obtain ⟨q, -, rfl⟩ := List.mem_map.mp hy
      rfl
  have hjoin : x.join = { x.st with store := x.join.store, free := x.join.free } := rfl
  refine ⟨a, ps, x.join.free, ?_, ha, fun q => ?_⟩
  · rw [hjoin, hstore, hxst]
    rfl
  · have hq := hnotices q
    rw [hst] at hq
    exact hq

/-- With no loss counted and room for all of them, the events of an acknowledgement join in the order handed over (R108,
R131). -/
theorem State.acknowledgeRecords_join {s : State} (p : PortId) (changed : BitVec 32) (hloss : s.store.loss = 0)
    (hroom : s.store.queue.length ≤ 31) :
    ((s.acknowledgeRecords p changed).foldl Store.join s.store).queue = s.store.queue ++
      (entriesOf changed).map (fun i => s.eventRecord (.channel (channelOf i))
        (.alarm i (nth s.alarms i).state (if (nth s.alarms i).state = .raised then .accepted else .normal)
          (nth s.alarms i).peak .acknowledge)) ++
      [s.eventRecord (.port p) (.ack p (entriesOf changed).length changed)] := by
  have hlen : (s.acknowledgeRecords p changed).length ≤ 33 := by
    have hle := List.length_filter_le (fun i : Fin 32 => changed.getLsbD i.val) (List.finRange 32)
    rw [List.length_finRange] at hle
    rw [State.acknowledgeRecords, List.length_append, List.length_map]
    exact Nat.succ_le_succ hle
  have hcarry : ∀ source body, (s.followingRecord source body).carrying 0 = s.eventRecord source body := by
    intro source body
    rw [State.followingRecord_carrying, State.eventRecord, hloss]
  rw [Store.foldl_join_room _ (by omega) hloss]
  simp only [State.acknowledgeRecords, List.map_append, List.map_map, List.map_singleton, hcarry, List.append_assoc]
  congr 2
  exact List.map_congr_left fun i _ => hcarry _ _

/-- Settles O40: the entries that change take their turns in entry order, and the ACK event follows their events. -/
theorem entriesAcknowledged : Obligations.EntriesAcknowledged := by
  intro s p selector mask hp
  have hexec : exec (.acknowledge p selector mask) s =
      .next (((s.takeAcknowledge p selector mask).1).answered p (s.takeAcknowledge p selector mask).2) :=
    congrArg Host.Outcome.next (State.endTransfer_of_plain hp fun s => s.takeAcknowledge p selector mask)
  refine ⟨fun hbad => ?_, fun hgood => ?_⟩
  · rw [hexec, State.takeAcknowledge_of_bad (namedEntries_of_bad hbad)]
  obtain ⟨named, hnamed, hbits⟩ := namedEntries_of_good hgood
  refine ⟨s.acknowledgeable named, fun i => ?_, fun hnone => ?_, fun hsome => ?_⟩
  · rw [State.acknowledgeable, getLsbD_maskOf 32 _ i i.isLt, hbits]
    rfl
  · rw [hexec, State.takeAcknowledge_of_none hnamed hnone]
  obtain ⟨a, ps, fr, htake, ha, hnotices⟩ := State.takeAcknowledge_spec (p := p) hnamed hsome
  rw [htake] at hexec
  refine ⟨_, hexec, ?_⟩
  generalize s.acknowledgeable named = changed at hsome ha hnotices ⊢
  have hport : ∀ (u : State) (r : Reply) q, ((u.answered p r).port q).notices = (u.port q).notices := fun u r q => by
    by_cases hq : p = q
    · subst hq
      rw [State.answered, State.port_updPort_self]
    · rw [State.answered, State.port_updPort_ne _ _ hq]
  refine ⟨by rw [State.answered, State.port_updPort_self]; rfl, by rw [State.answered, State.port_updPort_self],
    ha, fun l => ?_, fun q => ?_, State.acknowledgeRecords_join p changed, rfl⟩
  · refine (nth_tab _ l).trans ?_
    rw [refreshLine]
    simp only [Option.isNone_iff_eq_none]
    rfl
  · rw [hport]
    rw [State.port, hnotices]
    refine ⟨Notices.alarmedBy_flag _ (entriesOf_ne_nil hsome), fun c => ?_⟩
    rw [Notices.alarmedBy_alarm, exists_entry_of_channel]
    simp only [mem_entriesOf]

end Sys2Proof.Machine
end

section
/-! ## The reading requests (R115, R173, R174, R183, R192) -/

namespace Sys2Proof.Machine

/-- A request that changes nothing leaves its reply. -/
theorem State.endTransfer_of_reading {s : State} {p : PortId} (hp : s.plain p) (reply : State → Reply) :
    s.endTransfer p (fun u => (u, reply u)) = s.answered p (reply s) := State.endTransfer_of_plain hp _

theorem readEight_of_lt {x : Byte} {c : Fin 8} (h : x.toNat = c.val) (code : Byte) (f : Fin 8 → ReplyBody) :
    readEight code x f = { status := .done, code, body := f c } := by
  rw [readEight, nameOf_of_lt h]

theorem readEight_of_le {x : Byte} (h : 8 ≤ x.toNat) (code : Byte) (f : Fin 8 → ReplyBody) :
    readEight code x f = bare .badArgument code := by
  rw [readEight, nameOf_of_le h]

/-! ### GET SETTING (R183) -/

/-- A name outside its range: no such kind, an index its kind does not have, or one where its kind has none (R183). -/
theorem Settings.item_of_outside (v : Settings) {kind index : Byte}
    (h : 12 ≤ kind.toNat ∨ kind.toNat ≤ 4 ∧ 8 ≤ index.toNat ∨ kind = 6 ∧ 4 ≤ index.toNat ∨
      kind = 11 ∧ 2 ≤ index.toNat ∨ (kind = 5 ∨ kind = 7 ∨ kind = 8 ∨ kind = 9 ∨ kind = 10) ∧ index ≠ 0) :
    v.item kind index = none := by
  rcases h with hkind | ⟨hkind, hindex⟩ | ⟨rfl, hindex⟩ | ⟨rfl, hindex⟩ | ⟨hkind, hindex⟩
  · unfold Settings.item
    split <;> first | omega | rfl
  · unfold Settings.item
    rw [nameOf_of_le hindex]
    split <;> first | omega | rfl
  · exact congrArg (Option.map _) (nameOf_of_le hindex)
  · exact congrArg (Option.map _) (nameOf_of_le hindex)
  · rcases hkind with rfl | rfl | rfl | rfl | rfl <;> exact if_neg hindex

theorem exec_getSetting_of_item {s : State} {p : PortId} (hp : s.plain p) {kind index : Byte} {i : Item}
    (h : s.settings.item kind index = some i) :
    exec (.getSetting p kind index) s =
      .next (s.answered p { status := .done, code := 5, body := .setting i }) := by
  refine congrArg Host.Outcome.next ((State.endTransfer_of_plain hp _).trans ?_)
  rw [h]
  rfl

theorem exec_getSetting_of_none {s : State} {p : PortId} (hp : s.plain p) {kind index : Byte}
    (h : s.settings.item kind index = none) :
    exec (.getSetting p kind index) s = .next (s.answered p (bare .badArgument 5)) := by
  refine congrArg Host.Outcome.next ((State.endTransfer_of_plain hp _).trans ?_)
  rw [h]
  rfl

/-! ### GET PROPOSAL (R192) -/

theorem State.proposalReport_eq (s : State) (position : Nat) :
    s.proposalReport position =
      { proposal := s.proposal, number := s.number
        contents := s.proposal.items[if 15 < position then 15 else position]? } := by
  have hmin : min position 15 = if 15 < position then 15 else position := by
    split <;> omega
  unfold State.proposalReport
  rw [← hmin]
  cases s.proposal <;> rfl

/-! ### The obligation -/

/-- Settles O39: each request reads one block, and its transfer ends as a request that changes nothing. -/
theorem readingRequests : Obligations.ReadingRequests := by
  intro s p x y hp
  have hread : ∀ reply : State → Reply,
      Host.Outcome.next (s.endTransfer p fun u => (u, reply u)) =
        (.next (s.answered p (reply s)) : Host.Outcome State Fault Refusal) :=
    fun reply => congrArg Host.Outcome.next (State.endTransfer_of_reading hp reply)
  refine ⟨hread _, fun c hc => ?_, fun hx => ?_, fun solo => ?_, fun c hc i hi => ?_, fun hy i hi => ?_,
    fun l hx hl => ?_, fun o hx ho => ?_, fun hout => exec_getSetting_of_none hp (s.settings.item_of_outside hout), ?_⟩
  · refine ⟨(hread _).trans ?_, (hread _).trans ?_, (hread _).trans ?_⟩ <;> rw [readEight_of_lt hc]
  · refine ⟨(hread _).trans ?_, (hread _).trans ?_, (hread _).trans ?_⟩ <;> rw [readEight_of_le hx]
  · exact congrArg Host.Outcome.next (State.endTransfer_of_plain hp fun u => (u.strapAt solo).takeStation)
  · refine exec_getSetting_of_item hp ?_
    rcases hi with ⟨rfl, rfl⟩ | ⟨rfl, rfl⟩ | ⟨rfl, rfl⟩ | ⟨rfl, rfl⟩ | ⟨rfl, rfl⟩ <;>
      exact congrArg (Option.map _) (nameOf_of_lt hc)
  · subst hy
    refine exec_getSetting_of_item hp ?_
    rcases hi with ⟨rfl, rfl⟩ | ⟨rfl, rfl⟩ | ⟨rfl, rfl⟩ | ⟨rfl, rfl⟩ | ⟨rfl, rfl⟩ <;> rfl
  · subst hx
    exact exec_getSetting_of_item hp (congrArg (Option.map _) (nameOf_of_lt hl))
  · subst hx
    exact exec_getSetting_of_item hp (congrArg (Option.map _) (nameOf_of_lt ho))
  · refine (hread _).trans ?_
    rw [State.proposalReport_eq]

end Sys2Proof.Machine
end

section
/-! ## What leaves the store, and of the ports all but the notices that they are told

Most of what a step does reaches the store through the records it hands over alone, and a port through a notice alone.
What such an operation leaves is described once here. -/

namespace Sys2Proof.Machine

/-- `t` holds the store of `s`, and of every port all but its notices, among which no REPLY detail is new (R175). -/
structure State.Tells (s t : State) : Prop where
  store : t.store = s.store
  port : ∀ p, ∃ n, t.port p = { s.port p with notices := n } ∧ n.reply = (s.port p).notices.reply

namespace State.Tells

/-- Where the store and the ports stand. -/
theorem of_parts {s t : State} (hs : t.store = s.store) (hp : t.ports = s.ports) : s.Tells t :=
  ⟨hs, fun p => ⟨(s.port p).notices, by rw [State.port, State.port, hp], rfl⟩⟩

/-- Where the store stands and all ports are told of something that is no reply. -/
theorem of_told {s t : State} {f : Notices → Notices} (hs : t.store = s.store) (hp : t.ports = (s.notifyAll f).ports)
    (hf : ∀ n : Notices, (f n).reply = n.reply) : s.Tells t :=
  ⟨hs, fun p => ⟨f (s.port p).notices, (congrArg (fun ps : Ports => ps.get p) hp).trans (s.port_notifyAll f p), hf _⟩⟩

theorem refl (s : State) : s.Tells s := of_parts rfl rfl

theorem trans {s t u : State} (h : s.Tells t) (g : t.Tells u) : s.Tells u where
  store := g.store.trans h.store
  port p := by
    obtain ⟨n, hn, hr⟩ := h.port p
    obtain ⟨m, hm, hq⟩ := g.port p
    exact ⟨m, by rw [hm, hn], by rw [hq, hn, hr]⟩

end State.Tells

open State (Tells)

/-- A change of the state that reaches neither the store nor the ports. -/
theorem Work.map_tells (w : Work) {f : State → State} (hs : (f w.st).store = w.st.store) (hp : (f w.st).ports = w.st.ports) :
    w.st.Tells (w.map f).st := .of_parts hs hp

theorem Work.foldl_tells {ι : Type} {f : Work → ι → Work} (h : ∀ w i, Tells w.st (f w i).st) (l : List ι)
    (w : Work) : w.st.Tells (l.foldl f w).st := by
  induction l generalizing w with
  | nil => exact .refl _
  | cons i l ih => exact (h w i).trans (ih (f w i))

/-- Turns that only tell, only tell together. -/
theorem Work.forEach_tells {n : Nat} {f : Fin n → Work → Work} (h : ∀ i (w : Work), w.st.Tells (f i w).st)
    (w : Work) : w.st.Tells (w.forEach f).st := Work.foldl_tells (fun w i => h i w) _ w

/-! ### Entries, intervals and tests -/

theorem Work.moveEntry_tells (w : Work) (x : Sender) (i : Fin 32) (e : AlarmEntry) (v : Nat) (c : AlarmCause) :
    w.st.Tells (w.moveEntry x i e v c).st :=
  .of_told (f := (·.addAlarm (bitOf 8 (channelOf i)))) rfl rfl fun _ => rfl

theorem Work.handCondition_tells (w : Work) (c : Fin 8) (k : AlarmKind) (was now : Bool) (v : Nat) (t : Bool) :
    w.st.Tells (w.handCondition c k was now v t).st := by
  rcases w.handCondition_cases c k was now v t with h | ⟨_, _, _, h⟩ | ⟨_, _, _, h⟩ <;> rw [h]
  · exact .refl _
  · exact w.moveEntry_tells ..
  · exact w.moveEntry_tells ..

theorem Work.handChanges_tells (w : Work) (c : Fin 8) (old new : Channel) :
    w.st.Tells (w.handChanges c old new).st :=
  Work.foldl_tells (fun w _ => w.handCondition_tells ..) alarmKinds w

theorem Work.setChannel_tells (w : Work) (c : Fin 8) (new : Channel) : w.st.Tells (w.setChannel c new).st :=
  (w.map_tells rfl rfl).trans (Work.handChanges_tells _ c _ new)

theorem Work.resetEntries_tells (w : Work) (c : Fin 8) : w.st.Tells (w.resetEntries c).st :=
  Work.foldl_tells (fun w _ => w.moveEntry_tells ..) alarmKinds w

theorem Work.closeInterval_tells (w : Work) (c : Fin 8) (timeSet : Bool) :
    w.st.Tells (w.closeInterval c timeSet).st := by
  rw [Work.closeInterval_st]
  exact .of_parts rfl rfl

theorem Work.handResults_tells (before : Tab 8 Channel) (c : Fin 8) (w : Work) :
    w.st.Tells (w.handResults before c).st := by
  unfold Work.handResults
  dsimp only
  split
  · exact .refl _
  · have hchanges := w.handChanges_tells c (nth before c) (nth w.st.channels c)
    generalize w.handChanges c (nth before c) (nth w.st.channels c) = u at hchanges ⊢
    obtain ⟨a, ha⟩ := u.st.raisePeaks_frame c (nth before c) (nth w.st.channels c)
    obtain ⟨v, hv⟩ := Work.addSecond_frame (u.map fun s => s.raisePeaks c (nth before c) (nth w.st.channels c)) c
      ((nth w.st.channels c).latest.bind (·.value) |>.map (·.d))
    rw [hv, Work.map_st, ha]
    exact hchanges.trans (.of_parts rfl rfl)

theorem Work.startTestOn_tells (inputs : BitVec 8) (c : Fin 8) (w : Work) :
    w.st.Tells (w.startTestOn inputs c).st := by
  rw [Work.startTestOn_eq]
  split
  · refine .trans ?_ (Work.setChannel_tells _ c _)
    rw [Work.saveChannel_st]
    exact .of_parts rfl rfl
  · exact .refl _

theorem Work.startTest_tells (w : Work) (v : TestItem) : w.st.Tells (w.startTest v).st := by
  cases hp : w.st.test.plan with
  | some plan =>
    rw [Work.startTest, if_pos (by rw [hp]; rfl)]
    exact .refl _
  | none =>
    have hturns := Work.forEach_tells (Work.startTestOn_tells v.inputs) (w.beginTest v)
    rw [Work.startTest_eq hp]
    generalize (w.beginTest v).forEach (Work.startTestOn v.inputs) = x at hturns ⊢
    have hbegun : w.st.Tells x.st := (w.map_tells rfl rfl).trans hturns
    exact hbegun.trans (.of_told (f := (·.addTest false)) rfl rfl fun _ => rfl)

theorem Work.endTestOn_tells (c : Fin 8) (w : Work) : w.st.Tells (w.endTestOn c).st := by
  unfold Work.endTestOn
  split
  · exact .refl _
  · next n _ =>
    have hset := w.setChannel_tells c ((nth w.st.channels c).restore n)
    dsimp only
    generalize w.setChannel c ((nth w.st.channels c).restore n) = u at hset ⊢
    exact (hset.trans (u.map_tells rfl rfl)).trans (Work.closeInterval_tells _ c false)

theorem Work.endTest_tells (w : Work) (cause : TestCause) (source : EventSource) :
    w.st.Tells (w.endTest cause source).st := by
  have hturns := w.forEach_tells Work.endTestOn_tells
  unfold Work.endTest
  split
  · exact .refl _
  · dsimp only
    generalize w.forEach Work.endTestOn = x at hturns ⊢
    exact hturns.trans (.of_told (f := (·.addTest true)) rfl rfl fun _ => rfl)

/-! ### Links -/

theorem Work.transition_tells (w : Work) (n : Fin 8) (dest : LinkState) (cause : LinkCause) :
    w.st.Tells (w.transition n dest cause).st := by
  unfold Work.transition
  dsimp only
  split <;> exact .of_told (f := (·.addLink n)) rfl rfl fun _ => rfl

theorem Work.transitionIf_tells (w : Work) (n : Fin 8) (t : Option (LinkState × LinkCause)) :
    w.st.Tells (w.transitionIf n t).st := by
  cases t with
  | none => exact .refl _
  | some t => exact w.transition_tells n t.1 t.2

theorem Work.retryLink_tells (n : Fin 8) (w : Work) : w.st.Tells (w.retryLink n).st := by
  unfold Work.retryLink
  split
  · exact w.transition_tells n .seeking .retry
  · exact .refl _

theorem Work.zeroedChannel_tells (w : Work) (c : Fin 8) : w.st.Tells (w.zeroedChannel c).st := by
  unfold Work.zeroedChannel
  dsimp only
  split
  · exact .refl _
  · exact w.setChannel_tells c _
  · exact w.setChannel_tells c _
  · exact w.setChannel_tells c _
  · exact .of_parts rfl rfl

theorem Work.endOfZeroing_tells (w : Work) (n : Fin 8) : w.st.Tells (w.endOfZeroing n).st := by
  have hturns := w.forEach_tells (f := fun c x => if w.st.zeroesNow n c then x.zeroedChannel c else x) fun c x => by
    split
    · exact x.zeroedChannel_tells c
    · exact .refl _
  exact hturns.trans (.of_parts rfl rfl)

theorem Work.cycleEnd_tells (w : Work) (n : Fin 8) : w.st.Tells (w.cycleEnd n).st := by
  have hlinks : ∀ l : Link, w.st.Tells (w.map fun s => { s with links := put s.links n l }).st := fun l =>
    .of_parts rfl rfl
  unfold Work.cycleEnd
  dsimp only
  split
  · split
    · exact (hlinks _).trans (Work.endOfZeroing_tells _ n)
    · exact hlinks _
  · exact (hlinks _).trans (Work.transitionIf_tells _ n _)

theorem Work.takeFrame_tells (w : Work) (n : Fin 8) (f : InFlight) (frame : BitVec 32) :
    w.st.Tells (w.takeFrame n f frame).st := by
  unfold Work.takeFrame
  extract_lets cls l u sample
  have hcounted : w.st.Tells u.st :=
    (w.map_tells rfl rfl).trans (Work.transitionIf_tells _ n _)
  exact hcounted.trans (.of_parts rfl rfl)

theorem Work.arrive_tells (w : Work) (n : Fin 8) (frame : BitVec 32) : w.st.Tells (w.arrive n frame).st := by
  cases hf : (nth w.st.links n).inFlight with
  | none =>
    rw [Work.arrive_of_none w n frame hf]
    exact .refl _
  | some f =>
    rw [Work.arrive_of_some w n frame hf]
    split
    · exact (w.takeFrame_tells n f frame).trans (Work.cycleEnd_tells _ n)
    · exact w.takeFrame_tells n f frame

theorem State.requests_tells (s : State) : s.Tells s.requests.st := by
  obtain ⟨_, _, h, -⟩ := s.requests_st
  rw [h]
  exact .of_parts rfl rfl

/-! ### A commit, but for the store -/

theorem Work.remap_tells (w : Work) (c : Fin 8) : w.st.Tells (w.remap c).st := by
  have hreset := w.resetEntries_tells c
  unfold Work.remap
  extract_lets m ch targeted r u
  exact hreset.trans (.of_parts rfl rfl)

theorem Work.commitChannel_tells (old : Settings) (items : List Item) (c : Fin 8) (w : Work) :
    w.st.Tells (w.commitChannel old items c).st := by
  unfold Work.commitChannel
  extract_lets new changed u v
  have hclosed : w.st.Tells u.st := by
    unfold u
    split
    · exact w.closeInterval_tells c false
    · exact .refl _
  have hreset : w.st.Tells v.st := by
    unfold v
    split
    · exact hclosed.trans (u.remap_tells c)
    · exact hclosed
  split
  · exact hreset.trans (.of_parts rfl rfl)
  · exact hreset

theorem Work.commitLink_tells (old : Settings) (items : List Item) (n : Fin 8) (w : Work) :
    w.st.Tells (w.commitLink old items n).st := by
  unfold Work.commitLink
  split
  · rw [Work.restartLink_eq]
    exact (w.transitionIf_tells n _).trans (.of_parts rfl rfl)
  · exact .refl _

/-! ### The second tick -/

theorem Work.decideStorm_tells (w : Work) (pulled : Bool) : w.st.Tells (w.decideStorm pulled).st := by
  unfold Work.decideStorm
  dsimp only
  split
  · exact .of_parts rfl rfl
  · exact .of_told (f := Notices.addStorm) rfl rfl fun _ => rfl

theorem Work.countTest_tells (w : Work) : w.st.Tells w.countTest.st := by
  have hcount : ∀ r, w.st.Tells (w.map (·.withRemaining r)).st := fun r => .of_parts rfl rfl
  rcases w.countTest_cases with ⟨-, e⟩ | ⟨-, -, e⟩ | ⟨-, -, e⟩
  · rw [e]
    exact .refl _
  · rw [e]
    exact hcount _
  · rw [e]
    exact (hcount 0).trans (Work.endTest_tells _ _ _)

theorem Work.countWindows_tells (w : Work) : w.st.Tells w.countWindows.st := by
  have hexpired : ∀ cause,
      w.st.Tells ((w.endProposal cause .station).map fun s => s.notifyAll (·.addSettings 2)).st :=
    fun _ => .of_told (f := (·.addSettings 2)) rfl rfl fun _ => rfl
  unfold Work.countWindows
  split
  · split
    · exact hexpired _
    · exact .of_parts rfl rfl
  · split
    · exact hexpired _
    · exact .of_parts rfl rfl
  · exact .refl _
  · exact .refl _

theorem tickInputs_tells (s : State) : s.commitStages.Tells (tickInputs s).st := by
  have hretried := (Work.start s.commitStages).forEach_tells Work.retryLink_tells
  unfold tickInputs
  generalize (Work.start s.commitStages).forEach Work.retryLink = u at hretried ⊢
  rw [Work.map_st, Work.map_st, State.supplyTest_eq]
  exact hretried.trans (.of_parts rfl rfl)

/-- From what a commit has left to the close of its tick, a second reaches the store through its records alone. -/
theorem tickCounted_tells (pulled : Bool) (s : State) : s.commitStages.Tells (tickCounted pulled s).st := by
  have hjudged : (tickInputs s).st.Tells (tickJudged s).st := by
    unfold tickJudged
    generalize tickInputs s = u
    exact .of_parts rfl rfl
  have hdecided : (tickJudged s).st.Tells (tickDecided pulled s).st := (tickJudged s).decideStorm_tells pulled
  have hmoved : (tickDecided pulled s).st.Tells (tickMoved pulled s).st := by
    unfold tickMoved
    generalize tickDecided pulled s = u
    exact .of_parts rfl rfl
  have hhanded : (tickMoved pulled s).st.Tells (tickHanded pulled s).st := by
    have hall := (tickMoved pulled s).forEach_tells (Work.handResults_tells (tickInputs s).st.channels)
    unfold tickHanded
    generalize (tickMoved pulled s).forEach (Work.handResults (tickInputs s).st.channels) = u at hall ⊢
    exact hall.trans (.of_parts rfl rfl)
  have hcounted : (tickHanded pulled s).st.Tells (tickCounted pulled s).st :=
    (Work.countTest_tells _).trans (Work.countWindows_tells _)
  exact ((((tickInputs_tells s).trans hjudged).trans hdecided).trans hmoved).trans (hhanded.trans hcounted)

end Sys2Proof.Machine
end

section
/-! ## What the operations of the History Store do (R121, R133, R135, R137, R141, R142, R154) -/

namespace Sys2Proof.Machine

/-! ### FETCHes that a clear throws away (R154) -/

/-- A port whose FETCH a clear has thrown away. -/
def Port.dropped (q : Port) : Port :=
  { q with slot := .idle, timer := 0, discarded := true, notices := q.notices.addReply 2 }

/-- The port's FETCH thrown away where a test of the port says so, with the copy that is being made for it. -/
def State.dropIf (c : Port → Bool) (s : State) (p : PortId) : State :=
  if c (s.port p) then
    { s.updPort p Port.dropped with store := { s.store with access := s.store.access.abandon p } }
  else s

theorem State.clearFetch_eq (s : State) (p : PortId) : s.clearFetch p = s.dropIf (fun q => q.slot.ring.isSome) p := by
  have hdropped : (s.dropFetch p).updPort p (fun q => { q with discarded := true, notices := q.notices.addReply 2 }) =
      { s.updPort p Port.dropped with store := { s.store with access := s.store.access.abandon p } } := by
    cases p <;> rfl
  unfold State.clearFetch State.dropIf
  split
  · next h => simp [h, Slot.ring]
  · next h => simp [h, Slot.ring, hdropped]
  · next h => simp [h, Slot.ring, hdropped]

/-- The access in progress once the ports of a set have left WORKING (R135). -/
def Access.abandonIf (a : Access) (c : PortId → Bool) : Access :=
  match a with
  | .copy p r => .copy p (if c p then none else r)
  | .idle => .idle
  | .write q => .write q

/-- A test that speaks of no port but `p` lets go of the copy for `p` alone. -/
theorem Access.abandonIf_only (a : Access) (p : PortId) (b : Bool) :
    a.abandonIf (fun q => b && decide (q = p)) = if b then a.abandon p else a := by
  cases b <;> cases a <;> simp [Access.abandonIf, Access.abandon]
  split <;> rfl

theorem Access.abandonIf_abandonIf (a : Access) (c d : PortId → Bool) :
    (a.abandonIf c).abandonIf d = a.abandonIf fun p => c p || d p := by
  cases a <;> simp [Access.abandonIf]
  grind

theorem State.dropIf_eq (c : Port → Bool) (s : State) (p : PortId) :
    s.dropIf c p = { s with
      ports := s.ports.upd p fun q => if c q then q.dropped else q
      store := { s.store with access := s.store.access.abandonIf fun q => c (s.port p) && decide (q = p) } } := by
  rw [Access.abandonIf_only]
  unfold State.dropIf
  split
  · next h => cases p <;> simp_all [State.updPort, State.port, Ports.get, Ports.upd]
  · next h => cases p <;> simp_all [State.port, Ports.get, Ports.upd]

/-- The FETCHes of all three ports thrown away where the test says so. -/
theorem State.forPorts_dropIf (c : Port → Bool) (s : State) :
    s.forPorts (State.dropIf c) = { s with
      ports := s.ports.all fun q => if c q then q.dropped else q
      store := { s.store with access := s.store.access.abandonIf fun p => c (s.port p) } } := by
  have hall : (fun p => c (s.port p)) =
      fun p => c (s.port .a) && decide (p = .a) || c (s.port .b) && decide (p = .b) || c (s.port .c) && decide (p = .c) :=
    funext fun p => by cases p <;> simp
  rw [hall, State.forPorts, State.dropIf_eq, State.dropIf_eq, State.dropIf_eq]
  simp only [Access.abandonIf_abandonIf]
  rfl

/-! ### A clear of the store (R137, R145, R154) -/

/-- The records that a clear puts back at the head of the queue: the one that is being written (R137). -/
def Access.writing (a : Access) : List QueuedRecord :=
  match a with
  | .write q => [q]
  | .idle | .copy _ _ => []

/-- The access in progress after a clear: no write is left, and no copy for a port that was in WORKING (R135, R137). -/
def Access.cleared (a : Access) (c : PortId → Bool) : Access :=
  match a with
  | .copy p r => .copy p (if c p then none else r)
  | .idle | .write _ => .idle

/-- A port after a clear (R137, R145, R154). -/
def Port.cleared (q : Port) (rings : Tab 9 Ring) : Port :=
  if q.slot.ring.isSome then (q.clearCursors rings).dropped else q.clearCursors rings

/-- The HISTORY_CLEARED event of a clear of the whole store (R137). -/
def State.clearedEvent (s : State) (cause : ClearCause) : EventRecord :=
  { time := s.timebase.time, source := .station, body := .historyCleared cause 0x01FF#16, loss := 0 }

/-- Everything a clear of the store does. -/
theorem State.clearStore_eq (s : State) (cause : ClearCause) :
    s.clearStore cause = { s with
      ports := s.ports.all (·.cleared (tab fun r => (nth s.store.rings r).emptied))
      store := { s.store with
        rings := tab fun r => (nth s.store.rings r).emptied
        access := s.store.access.cleared fun p => (s.port p).slot.ring.isSome }.placeCleared (s.clearedEvent cause)
          s.store.access.writing } := by
  have hturns : State.clearFetch = State.dropIf fun q => q.slot.ring.isSome := funext fun s => funext s.clearFetch_eq
  have hslot : ∀ (ps : Ports) (rings : Tab 9 Ring) p, ((ps.all (·.clearCursors rings)).get p).slot = (ps.get p).slot :=
    fun ps rings p => by rw [Ports.get_all]; rfl
  unfold State.clearStore
  dsimp only
  rw [hturns, State.forPorts_dropIf]
  simp only [State.port, hslot]
  cases s.store.access <;> rfl

/-! ### A sequence wrap (R121, R145, R154) -/

/-- A port whose place in a ring is set to 1 by a wrap. -/
def Port.wrapped (q : Port) (r : Fin 9) : Port :=
  { q with cursors := put q.cursors r { cursor := 1, skip := 0, armed := true } }

/-- The HISTORY_CLEARED event of a wrap (R121). -/
def State.wrapEvent (s : State) (r : Fin 9) : EventRecord :=
  { time := s.timebase.time, source := .station, body := .historyCleared .wrap (bitOf 16 r), loss := 0 }

/-- Everything a sequence wrap does. -/
theorem State.wrapRing_eq (s : State) (r : Fin 9) :
    s.wrapRing r = { s with
      ports := s.ports.all fun q => if q.slot.ring = some r then (q.wrapped r).dropped else q.wrapped r
      store := { s.store with
        rings := put s.store.rings r { oldest := 1, next := 1, records := [] }
        access := s.store.access.abandonIf fun p => decide ((s.port p).slot.ring = some r) }.placeCleared
          (s.wrapEvent r) [] } := by
  have hturn : (fun (s : State) p => if (s.port p).slot.ring = some r then s.clearFetch p else s) =
      State.dropIf fun q => decide (q.slot.ring = some r) := by
    funext s p
    rw [State.clearFetch_eq]
    unfold State.dropIf
    by_cases h : (s.port p).slot.ring = some r <;> simp [h]
  have hslot : ∀ (ps : Ports) p, ((ps.all (·.wrapped r)).get p).slot = (ps.get p).slot :=
    fun ps p => by rw [Ports.get_all]; rfl
  have hport : ∀ q : Port, (if decide ((q.wrapped r).slot.ring = some r) then (q.wrapped r).dropped else q.wrapped r) =
      if q.slot.ring = some r then (q.wrapped r).dropped else q.wrapped r := fun q => by
    simp only [decide_eq_true_eq]
    rfl
  unfold State.wrapRing
  dsimp only
  rw [hturn, State.forPorts_dropIf]
  refine congrArg₂ (fun ps a => { s with
    ports := ps
    store := { s.store with rings := put s.store.rings r { oldest := 1, next := 1, records := [] }
                            access := a }.placeCleared (s.wrapEvent r) [] }) ?_ ?_
  · exact congrArg (fun f => s.ports.all f) (funext hport)
  · refine congrArg s.store.access.abandonIf (funext fun p => ?_)
    exact congrArg (fun x : Slot => decide (x.ring = some r)) (hslot s.ports p)

/-! ### The end of a write (R133, R141, R142) -/

/-- Where the cursors of a port stand after a write into a ring (R141). -/
theorem Port.written_cursor (q : Port) (r i : Fin 9) (removed : Option Nat) (size next : Nat) :
    (nth (q.written r removed size next).cursors i).cursor =
      if r = i ∧ removed = some (nth q.cursors r).cursor then (nth q.cursors r).cursor + 1
      else (nth q.cursors i).cursor := by
  unfold Port.written
  rw [Port.judgeHalf_cursor]
  by_cases h : removed = some (nth q.cursors r).cursor
  · rw [if_pos h]
    dsimp only
    rw [nth_upd]
    by_cases hr : r = i <;> simp [h, hr]
  · simp [h]

/-- A ring after a write (R133). -/
theorem Ring.write_eq (r : Ring) (size : Nat) (record : Record) :
    r.write size record =
      ({ oldest := if r.next - r.oldest = size then r.oldest + 1 else r.oldest
         next := r.next + 1
         records := (if r.next - r.oldest = size then r.records.tail else r.records) ++ [{ seq := r.next, record }] },
       if r.next - r.oldest = size then some r.oldest else none) := by
  unfold Ring.write
  by_cases h : r.next - r.oldest = size <;> simp [h]

theorem State.finishWrite_of_noSlots {s : State} {q : QueuedRecord} (h : s.settings.ringSize q.ring = 0) :
    s.finishWrite q = s := if_pos h

/-- The ring that a record goes to, as its write leaves it, with the sequence number that is removed (R133). -/
def State.afterWrite (s : State) (q : QueuedRecord) : Ring × Option Nat :=
  (nth s.store.rings q.ring).write (s.settings.ringSize q.ring) q.record

/-- The end of a write into a ring that has slots. -/
theorem State.finishWrite_of_slots {s : State} {q : QueuedRecord} (h : s.settings.ringSize q.ring ≠ 0) :
    s.finishWrite q = { s with
      store := { s.store with rings := put s.store.rings q.ring (s.afterWrite q).1 }
      ports := s.ports.all fun p =>
        p.written q.ring (s.afterWrite q).2 (s.settings.ringSize q.ring) (s.afterWrite q).1.next } := if_neg h

/-! ### A grant to the writer (R121, R133) -/

theorem State.grantWrite_of_noSlots {s : State} {q : QueuedRecord} {rest : List QueuedRecord}
    (h : s.settings.ringSize q.ring = 0) : s.grantWrite q rest = { s with store := { s.store with queue := rest } } :=
  if_pos h

theorem State.grantWrite_of_room {s : State} {q : QueuedRecord} {rest : List QueuedRecord}
    (h : s.settings.ringSize q.ring ≠ 0) (hnext : (nth s.store.rings q.ring).next < topSequence) :
    s.grantWrite q rest = { s with store := { s.store with queue := rest, access := .write q } } := by
  refine (if_neg h).trans ?_
  dsimp only
  rw [if_neg (Nat.not_le.mpr hnext)]

/-- A ring whose numbers are used up is wrapped before the write into it begins (R121). -/
theorem State.grantWrite_of_wrap {s : State} {q : QueuedRecord} {rest : List QueuedRecord}
    (h : s.settings.ringSize q.ring ≠ 0) (hnext : topSequence ≤ (nth s.store.rings q.ring).next) :
    s.grantWrite q rest =
      let u := { s with store := { s.store with queue := rest } }.wrapRing q.ring
      { u with store := { u.store with access := .write q } } := by
  refine (if_neg h).trans ?_
  dsimp only
  rw [if_pos hnext]

end Sys2Proof.Machine
end

section
/-! ## What leaves the rings, and every cursor within its ring

Most of what a step does reaches no ring, begins no write and takes no cursor out of its ring. What such an operation
leaves of the History Store is described once here. -/

namespace Sys2Proof.Machine

/-- The cursor of a port lies within oldest..next of a ring (R140). -/
def State.placed (s : State) (p : PortId) (r : Fin 9) : Prop :=
  (nth s.store.rings r).oldest ≤ (nth (s.port p).cursors r).cursor ∧
    (nth (s.port p).cursors r).cursor ≤ (nth s.store.rings r).next

/-- `t` holds the rings of `s`, no write in progress but one that `s` holds, cursors in place where those of `s` are, and
a write queue within its bounds where that of `s` is. -/
structure State.Retains (s t : State) : Prop where
  rings : t.store.rings = s.store.rings
  write : ∀ q, t.store.access = .write q → s.store.access = .write q
  placed : ∀ p r, (nth s.store.rings r).oldest ≤ (nth s.store.rings r).next → s.placed p r → t.placed p r
  queue : s.queueBounded → t.queueBounded

namespace State.Retains

/-- Where no cursor moves. -/
theorem of_cursors {s t : State} (hr : t.store.rings = s.store.rings)
    (hw : ∀ q, t.store.access = .write q → s.store.access = .write q)
    (hc : ∀ p, (t.port p).cursors = (s.port p).cursors) (hq : s.queueBounded → t.queueBounded) : s.Retains t :=
  ⟨hr, hw, fun p r _ h => by rw [State.placed, hr, hc]; exact h, hq⟩

/-- Where the store and the ports stand. -/
theorem of_parts {s t : State} (hs : t.store = s.store) (hp : t.ports = s.ports) : s.Retains t :=
  of_cursors (by rw [hs]) (fun q h => by rwa [hs] at h) (fun p => by rw [State.port, State.port, hp])
    fun h => by rwa [State.queueBounded, hs]

theorem refl (s : State) : s.Retains s := of_parts rfl rfl

theorem trans {s t u : State} (h : s.Retains t) (g : t.Retains u) : s.Retains u where
  rings := g.rings.trans h.rings
  write q hq := h.write q (g.write q hq)
  placed p r hr hp := g.placed p r (by rw [h.rings]; exact hr) (h.placed p r hr hp)
  queue hq := g.queue (h.queue hq)

theorem of_tells {s t : State} (h : s.Tells t) : s.Retains t :=
  of_cursors (by rw [h.store]) (fun q hq => by rwa [h.store] at hq)
    (fun p => by obtain ⟨n, hn, -⟩ := h.port p; rw [hn]) fun hq => by rwa [State.queueBounded, h.store]

end State.Retains

open State (Retains)

/-- The records of a step that join the queue keep it within its bounds (R131, R132). -/
theorem Work.join_retains (w : Work) : w.st.Retains w.join :=
  .of_cursors w.join_store_rings (fun q h => by rwa [Work.join_store_access] at h) (fun _ => rfl) Work.join_queueBounded

/-- What a step tells, and then the records that it has handed over. -/
theorem Work.retains_of_tells {s : State} {w : Work} (h : s.Tells w.st) : s.Retains w.join :=
  (Retains.of_tells h).trans w.join_retains

/-! ### Ports and cursors -/

/-- A change of one port that moves no cursor. -/
theorem State.updPort_retains (s : State) (p : PortId) {f : Port → Port} (hf : (f (s.port p)).cursors = (s.port p).cursors) :
    s.Retains (s.updPort p f) :=
  .of_cursors rfl (fun _ => id) (fun q => by
    by_cases h : p = q
    · subst h
      rw [State.port_updPort_self, hf]
    · rw [State.port_updPort_ne s f h]) id

theorem State.notifyOthers_retains (s : State) (p : PortId) (f : Notices → Notices) : s.Retains (s.notifyOthers p f) :=
  .of_cursors rfl (fun _ => id) (fun q => by
    by_cases h : p = q
    · subst h
      rw [State.port_notifyOthers_self]
    · rw [State.port_notifyOthers_ne s f h]) id

/-- A cursor movement that stays within the ring (R140). -/
theorem State.moveCursor_retains (s : State) (p : PortId) (r : Fin 9) {f : Cursor → Cursor}
    (hf : (nth s.store.rings r).oldest ≤ (nth s.store.rings r).next → s.placed p r →
      (nth s.store.rings r).oldest ≤ (f (nth (s.port p).cursors r)).cursor ∧
        (f (nth (s.port p).cursors r)).cursor ≤ (nth s.store.rings r).next) : s.Retains (s.moveCursor p r f) where
  rings := rfl
  write _ := id
  placed q i hi h := by
    unfold State.placed
    rw [State.moveCursor_store]
    by_cases hq : p = q
    · subst hq
      by_cases hr : i = r
      · subst hr
        rw [State.moveCursor_cursor]
        exact hf hi h
      · obtain ⟨cs, n, hport, hcs⟩ := s.port_moveCursor p r f
        rw [hport]
        dsimp only
        rw [hcs i hr]
        exact h
    · rw [State.moveCursor_others s r f hq]
      exact h
  queue := id

theorem clampNat_within {lo hi : Nat} (h : lo ≤ hi) (v : Nat) : lo ≤ clampNat lo hi v ∧ clampNat lo hi v ≤ hi := by
  unfold clampNat
  split
  · exact ⟨Nat.le_refl lo, h⟩
  · split <;> omega

/-- A delivery leaves the cursor within its ring (R151). -/
theorem State.deliver_retains (s : State) (p : PortId) : s.Retains (s.deliver p) := by
  unfold State.deliver
  split
  · next b _ _ =>
    refine s.moveCursor_retains p b.ring fun hr hp => ?_
    dsimp only
    split
    · exact hp
    · exact clampNat_within hr _
  · exact .refl s

/-- A request that retains the store retains it to the end of its transfer. -/
theorem State.endTransfer_retains (s : State) (p : PortId) {take : State → State × Reply}
    (h : ∀ u : State, u.Retains (take u).1) : s.Retains (s.endTransfer p take) := by
  rcases s.endTransfer_cases p take with ⟨-, e⟩ | ⟨-, e⟩
  · rw [e]
    exact s.updPort_retains p rfl
  · rw [e]
    exact ((s.deliver_retains p).trans (h _)).trans (State.updPort_retains _ p rfl)

/-! ### Requests -/

theorem State.takeAcknowledge_retains (s : State) (p : PortId) (selector : Byte) (mask : BitVec 32) :
    s.Retains (s.takeAcknowledge p selector mask).1 := by
  have hturns : ∀ changed, s.Tells ((Work.start s).forEach (Work.acknowledge p changed)).st := fun changed =>
    (Work.start s).forEach_tells fun i w => by
      unfold Work.acknowledge
      split
      · exact w.moveEntry_tells ..
      · exact .refl _
  unfold State.takeAcknowledge
  split
  · exact .refl s
  · next named _ =>
    dsimp only
    split
    · exact .refl s
    · have h := hturns (s.acknowledgeable named)
      generalize (Work.start s).forEach (Work.acknowledge p (s.acknowledgeable named)) = w at h ⊢
      exact (Work.retains_of_tells (w := w.event ..) h).trans (.of_parts rfl rfl)

theorem State.takeSetTime_retains (s : State) (p : PortId) (time : Time) : s.Retains (s.takeSetTime p time).1 := by
  unfold State.takeSetTime
  extract_lets _ u w
  have htold : s.Retains u :=
    .trans (t := { s with timebase := { s.timebase with time } }) (.of_parts rfl rfl) (State.notifyOthers_retains _ p _)
  exact htold.trans (Work.retains_of_tells (w.forEach_tells fun c x => x.closeInterval_tells c true))

theorem State.takeHeadCommand_retains (s : State) (input code : Byte) : s.Retains (s.takeHeadCommand input code).1 := by
  unfold State.takeHeadCommand
  split
  · dsimp only
    split
    · exact .refl s
    · split
      · exact .refl s
      · split
        · exact .refl s
        · exact .of_parts rfl rfl
  · exact .refl s

theorem State.takeStopTest_retains (s : State) (p : PortId) : s.Retains (s.takeStopTest p).1 := by
  unfold State.takeStopTest
  split
  · exact Work.retains_of_tells ((Work.start s).endTest_tells .stopped (.port p))
  · exact .refl s

/-- SEEK and REWIND put the cursor within its ring (R143, R144). -/
theorem State.placeCursor_retains (s : State) (p : PortId) (code ring : Byte) {f : Ring → Nat}
    (hf : ∀ r : Ring, r.oldest ≤ r.next → r.oldest ≤ f r ∧ f r ≤ r.next) : s.Retains (s.placeCursor p code ring f).1 := by
  unfold State.placeCursor
  split
  · exact .refl s
  · next r _ =>
    split
    · exact .refl s
    · exact s.moveCursor_retains p r fun hr _ => hf _ hr

theorem State.takeFetch_retains (s : State) (p : PortId) (ring count : Byte) :
    s.Retains (s.takeFetch p ring count).1 := by
  unfold State.takeFetch
  split
  · exact .refl s
  · split
    · exact s.updPort_retains p rfl
    all_goals exact .refl s

theorem State.takeCollect_retains (s : State) (p : PortId) : s.Retains (s.takeCollect p).1 := by
  unfold State.takeCollect
  dsimp only
  split <;> exact s.updPort_retains p rfl

theorem Access.abandon_write {a : Access} {p : PortId} {q : QueuedRecord} (h : a.abandon p = .write q) : a = .write q := by
  unfold Access.abandon at h
  split at h
  · split at h <;> cases h
  · cases h
  · exact h

theorem State.dropFetch_retains (s : State) (p : PortId) : s.Retains (s.dropFetch p) :=
  (s.updPort_retains p (f := fun q => { q with slot := .idle, timer := 0 }) rfl).trans
    (.of_cursors rfl (fun _ => Access.abandon_write) (fun _ => rfl) id)

theorem State.takeCancel_retains (s : State) (p : PortId) : s.Retains (s.takeCancel p).1 := by
  unfold State.takeCancel
  split
  · exact s.dropFetch_retains p
  · exact s.dropFetch_retains p
  · exact .refl s

theorem State.takeDraftItem_retains (s : State) (p : PortId) (kind index : Byte) (fields : List Byte) :
    s.Retains (s.takeDraftItem p kind index fields).1 := by
  unfold State.takeDraftItem
  split
  · split
    · exact .refl s
    · exact .of_parts rfl rfl
  · split
    · exact .refl s
    · split
      · exact .refl s
      · exact .of_parts rfl rfl
  · exact .refl s
  · exact .refl s

theorem State.takePost_retains (s : State) (p : PortId) : s.Retains (s.takePost p).1 := by
  unfold State.takePost
  split
  · split
    · exact .refl s
    · split
      · exact .refl s
      · have hposted : ∀ u : State, s.Retains u → s.Retains (u.notifyOthers p (·.addSettings 0)) := fun u h =>
          h.trans (u.notifyOthers_retains p _)
        dsimp only
        split
        · exact .of_parts rfl rfl
        · exact hposted _ (.of_parts rfl rfl)
  all_goals exact .refl s

theorem State.takeConfirm_retains (s : State) (p : PortId) (number : BitVec 16) :
    s.Retains (s.takeConfirm p number).1 := by
  unfold State.takeConfirm
  split
  · split
    · exact .refl s
    · exact .of_parts rfl rfl
  all_goals exact .refl s

theorem State.withdrawn_retains (s : State) (p : PortId) (cause : EndCause) : s.Retains (s.withdrawn p cause) := by
  unfold State.withdrawn
  extract_lets w
  have htold : s.Tells w.st := .of_parts rfl rfl
  exact (Work.retains_of_tells htold).trans (State.notifyOthers_retains _ p _)

theorem State.takeWithdraw_retains (s : State) (p : PortId) : s.Retains (s.takeWithdraw p).1 := by
  unfold State.takeWithdraw
  split
  · split
    · exact s.withdrawn_retains p _
    · exact .refl s
  · split
    · exact s.withdrawn_retains p _
    · exact .refl s
  all_goals exact .refl s

theorem State.takeOptions_retains (s : State) (p : PortId) (option : Byte) : s.Retains (s.takeOptions p option).1 := by
  unfold State.takeOptions
  split
  · exact s.updPort_retains p rfl
  · exact .refl s

theorem State.judgeAll_retains (s : State) (p : PortId) : s.Retains (s.judgeAll p) := by
  unfold State.judgeAll
  generalize List.finRange 9 = l
  induction l generalizing s with
  | nil => exact .refl s
  | cons r l ih => exact (s.moveCursor_retains p r (f := id) fun _ hp => hp).trans (ih _)

/-- The cursors of a port put at the oldest record of each ring (R146). -/
theorem State.rewindAll_retains (s : State) (p : PortId) :
    s.Retains (s.updPort p fun q => q.rewindAll s.store.rings) where
  rings := rfl
  write _ := id
  placed q r hr h := by
    unfold State.placed
    rw [State.updPort_store]
    by_cases hq : p = q
    · subst hq
      rw [State.port_updPort_self, Port.rewindAll]
      dsimp only
      rw [nth_tab]
      exact ⟨Nat.le_refl _, hr⟩
    · rw [State.port_updPort_ne s _ hq]
      exact h
  queue := id

theorem State.restartedPort_retains (s : State) (p : PortId) : s.Retains (s.restartedPort p) := by
  unfold State.restartedPort
  extract_lets u
  have hdropped : s.Retains u := (s.dropFetch_retains p).trans (State.updPort_retains _ p rfl)
  exact (hdropped.trans (u.rewindAll_retains p)).trans (State.judgeAll_retains _ p)

theorem State.takeRestart_retains (s : State) (p : PortId) : s.Retains (s.takeRestart p).1 := by
  have hport := s.restartedPort_retains p
  unfold State.takeRestart
  dsimp only
  split
  · split
    · exact hport.trans (State.withdrawn_retains _ p _)
    · exact hport
  all_goals exact hport

/-! ### Copies, the clock and the frame tick -/

theorem State.finishFetch_retains (s : State) (p : PortId) (f : Fetch) : s.Retains (s.finishFetch p f) :=
  s.updPort_retains p rfl

theorem State.grantCopy_retains (s : State) (p : PortId) (f : Fetch) : s.Retains (s.grantCopy p f) := by
  unfold State.grantCopy
  extract_lets r g _ u v
  have hturn : s.Retains u := .of_cursors rfl (fun _ => id) (fun _ => rfl) id
  split
  · exact hturn.trans (u.finishFetch_retains p g)
  · exact (hturn.trans (u.updPort_retains p rfl)).trans (.of_cursors rfl nofun (fun _ => rfl) id)

theorem State.copied_retains (s : State) (p : PortId) (r : StoredRecord) : s.Retains (s.copied p r) := by
  unfold State.copied
  split
  · dsimp only
    split
    · exact s.finishFetch_retains p _
    · exact s.updPort_retains p rfl
  all_goals exact .refl s

/-- The access in progress comes to its end. -/
theorem State.endAccess_retains (s : State) : s.Retains { s with store := { s.store with access := .idle } } :=
  .of_cursors rfl nofun (fun _ => rfl) id

theorem State.idle_retains (s : State) : s.Retains s.idle :=
  .of_cursors rfl (fun _ => id) (fun p => by
    have hport : s.idle.port p = (s.port p).clock := s.clock_port p
    rw [hport]
    unfold Port.clock
    split <;> rfl) id

theorem State.arrival_retains (s : State) (n : Fin 8) (frame : BitVec 32) : s.Retains (s.arrival n frame) :=
  Work.retains_of_tells ((Work.start s).arrive_tells n frame)

theorem frameTick_retains (s : State) : s.Retains (frameTick s) := by
  have hsettled : s.Retains (settled s) :=
    Work.retains_of_tells ((Work.start s).forEach_tells fun n w => w.arrive_tells n _)
  have htick : ∀ u : State, u.Retains (tickFrame u) := fun u => by
    have h := u.requests_tells
    rw [tickFrame_eq]
    generalize u.requests = w at h ⊢
    exact Work.retains_of_tells (h.trans (w.map_tells rfl rfl))
  exact hsettled.trans (htick _)

/-! ### The second tick -/

theorem State.closeCommit_retains (s : State) : s.Retains s.closeCommit := by
  unfold State.closeCommit
  split
  · next owner confirmer items _ =>
    have htold : s.Tells ({ s with generation := s.generation + 1, proposal := .empty }.notifyAll (·.addSettings 3)) :=
      .of_told (f := (·.addSettings 3)) rfl rfl fun _ => rfl
    exact Work.retains_of_tells (w := (Work.start _).event ..) htold
  all_goals exact .refl s

/-- After its commit, a second tick reaches the store through its records alone. -/
theorem secondTick_retains (pulled : Bool) (s : State) : s.commitStages.Retains (secondTick pulled s) := by
  have hjoined := Work.retains_of_tells (tickCounted_tells pulled s)
  unfold secondTick
  generalize (tickCounted pulled s).join = j at hjoined ⊢
  exact (hjoined.trans j.closeCommit_retains).trans (.of_parts rfl rfl)

theorem State.commitChannels_retains (s : State) (items : List Item) : s.Retains (s.commitChannels items) :=
  .trans (t := { s with settings := s.settings.applyAll items }) (.of_parts rfl rfl)
    (Work.retains_of_tells ((Work.start _).forEach_tells (Work.commitChannel_tells s.settings items)))

theorem State.commitBlocks_retains (s : State) (old : Settings) (items : List Item) :
    s.Retains (s.commitBlocks old items) := by
  have hlinks : s.Retains ((Work.start s).forEach (Work.commitLink old items)).join :=
    Work.retains_of_tells ((Work.start s).forEach_tells (Work.commitLink_tells old items))
  have hdivider : ∀ u : State, u.Retains (u.commitDivider old) := fun u => by
    unfold State.commitDivider
    split
    · exact .refl u
    · exact .of_parts rfl rfl
  have hstation : ∀ u : State, u.Retains (u.commitStation items) := fun u => by
    unfold State.commitStation
    split
    · exact .of_parts rfl rfl
    · exact .refl u
  unfold State.commitBlocks
  generalize ((Work.start s).forEach (Work.commitLink old items)).join = u at hlinks ⊢
  exact ((hlinks.trans (hdivider u)).trans (hstation _)).trans (.of_parts rfl rfl)

theorem State.commitTest_retains (s : State) (items : List Item) : s.Retains (s.commitTest items) := by
  unfold State.commitTest
  split
  · exact Work.retains_of_tells ((Work.start s).startTest_tells _)
  · exact .refl s

/-- With no PARTITION item, a commit leaves the partition. -/
theorem Settings.applyAll_partition {items : List Item} (h : ∀ sizes, .partition sizes ∉ items) (v : Settings) :
    (v.applyAll items).partition = v.partition := by
  induction items generalizing v with
  | nil => rfl
  | cons i l ih =>
    refine (ih (fun sizes hm => h sizes (List.mem_cons_of_mem _ hm)) (v.apply i)).trans ?_
    cases i with
    | partition sizes => exact absurd List.mem_cons_self (h sizes)
    | _ => rfl

/-- What stage 4 of a commit does: a clear, or nothing where the partition stands (R137, R138). -/
theorem State.commitStore_cases (s : State) (items : List Item) :
    (∃ cause, s.commitStore items = s.clearStore cause) ∨
      s.commitStore items = s ∧ ∀ sizes, .partition sizes ∉ items := by
  unfold State.commitStore
  split
  · exact .inl ⟨_, rfl⟩
  · next hp =>
    split
    · exact .inl ⟨_, rfl⟩
    · exact .inr ⟨rfl, fun sizes hm => hp (List.any_eq_true.mpr ⟨_, hm, rfl⟩)⟩

/-- What a commit can do to the History Store: nothing, with the partition as it was, or one clear. -/
theorem State.commitStages_store (s : State) :
    (s.Retains s.commitStages ∧ s.commitStages.settings.partition = s.settings.partition) ∨
      ∃ u cause, s.Retains u ∧ (u.clearStore cause).Retains s.commitStages := by
  rcases s.uncommitted_or_committing with h | ⟨_, _, items, h⟩
  · rw [State.commitStages_of_uncommitted h]
    exact .inl ⟨.refl s, rfl⟩
  · have hsettings : s.commitStages.settings = s.settings.applyAll items := by
      obtain ⟨_, _, _, _, _, _, _, _, _, _, _, _, _, he, -, -⟩ := s.applyItems_frame items
      rw [State.commitStages_of_committing h, he]
    rw [hsettings, State.commitStages_of_committing h, State.applyItems]
    have hblocks := (s.commitChannels_retains items).trans (State.commitBlocks_retains _ s.settings items)
    generalize (s.commitChannels items).commitBlocks s.settings items = u at hblocks ⊢
    rcases u.commitStore_cases items with ⟨cause, hc⟩ | ⟨hc, hp⟩
    · rw [hc]
      exact .inr ⟨u, cause, hblocks, State.commitTest_retains _ items⟩
    · rw [hc]
      exact .inl ⟨hblocks.trans (u.commitTest_retains items), Settings.applyAll_partition hp _⟩

/-! ### Every command -/

/-- What a command can do to the History Store. -/
inductive StoreMove (s t : State) : Prop where
  /-- No ring is written or cleared. -/
  | stand (h : s.Retains t)
  /-- The writer is granted the store (R121, R133). -/
  | granted (q : QueuedRecord) (rest : List QueuedRecord) (hidle : s.store.access = .idle)
      (hq : s.store.queue = q :: rest) (h : t = s.grantWrite q rest)
  /-- A write ends (R133). -/
  | written (q : QueuedRecord) (hq : s.store.access = .write q)
      (h : t = { s with store := { s.store with access := .idle } }.finishWrite q)
  /-- A second tick, which may clear the store (R137). -/
  | second (pulled : Bool) (h : t = secondTick pulled s)

/-- The outcome of a command goes on to a state whose store has moved from `s` in one of these ways. -/
def StoreMoved (s : State) (o : Host.Outcome State Fault Refusal) : Prop := LeadsTo (StoreMove s) o

namespace StoreMoved

variable {s : State}

theorem of_retains {t : State} (h : s.Retains t) : StoreMoved s (.next t) := .of_next (.stand h)

theorem of_request {p : PortId} {take : State → State × Reply} (h : ∀ u : State, u.Retains (take u).1) :
    StoreMoved s (.next (s.endTransfer p take)) := of_retains (s.endTransfer_retains p h)

/-- A request that only reads. -/
theorem of_reading {p : PortId} {take : State → State × Reply} (h : ∀ u : State, (take u).1 = u) :
    StoreMoved s (.next (s.endTransfer p take)) := of_request fun u => by rw [h u]; exact .refl u

/-- A second tick that may not be due. -/
theorem of_second (pulled b : Bool) : StoreMoved s (.next (if b then secondTick pulled s else s)) := by
  cases b
  · exact of_retains (.refl s)
  · exact .of_next (.second pulled rfl)

/-- A frame tick that may not be due. -/
theorem of_frame (b : Bool) : StoreMoved s (.next (if b then frameTick s else s)) := by
  cases b
  · exact of_retains (.refl s)
  · exact of_retains (frameTick_retains s)

/-- A grant with no access in progress (R135). -/
theorem of_grant (hidle : s.store.access = .idle) : StoreMoved s (.next s.grant) := by
  unfold State.grant
  split
  · next q rest hq => exact .of_next (.granted q rest hidle hq rfl)
  · split
    · exact of_retains (s.grantCopy_retains _ _)
    · exact of_retains (.refl s)

end StoreMoved

/-- Every command but power-on moves the store in one of the listed ways. -/
theorem exec_store (i : Instr) (s : State) (hi : ∀ solo, i ≠ .powerOnReset solo) : StoreMoved s (exec i s) := by
  cases i with
  | powerOnReset solo => exact absurd rfl (hi solo)
  | frameTick => exact .of_frame true
  | frameArrival n frame => exact .of_retains (s.arrival_retains n frame)
  | headCmdStart n => exact .of_frame _
  | headCmdSent n => exact .of_frame _
  | secondTick pulled => exact .of_second pulled true
  | linkRetry n pulled => exact .of_second pulled _
  | staleEntry c pulled => exact .of_second pulled _
  | learningEnd c pulled => exact .of_second pulled _
  | tailEnd pulled => exact .of_second pulled _
  | testExpiry pulled => exact .of_second pulled _
  | draftExpiry pulled => exact .of_second pulled _
  | confirmExpiry pulled => exact .of_second pulled _
  | commit pulled => exact .of_second pulled _
  | storeGrant =>
    change StoreMoved s (execStoreGrant s)
    unfold execStoreGrant
    split
    · next h => exact .of_grant h
    all_goals exact .of_retains (.refl s)
  | writeComplete =>
    change StoreMoved s (execWriteComplete s)
    unfold execWriteComplete
    split
    · next q h => exact .of_next (.written q h rfl)
    all_goals exact .of_retains (.refl s)
  | copyComplete =>
    change StoreMoved s (execCopyComplete s)
    unfold execCopyComplete
    split
    · exact .of_retains (s.endAccess_retains.trans (State.copied_retains _ _ _))
    · exact .of_retains s.endAccess_retains
    all_goals exact .of_retains (.refl s)
  | discardTimerExpiry p =>
    refine .of_retains ?_
    split
    · exact s.updPort_retains p rfl
    all_goals exact .refl s
  | pwmPeriodStart o => exact .of_retains (.of_parts rfl rfl)
  | pwmPulseEnd o => exact .of_retains (.of_parts rfl rfl)
  | transferStart p =>
    refine .of_retains ?_
    split
    · exact s.updPort_retains p rfl
    all_goals exact .refl s
  | frameError p bits =>
    refine .of_retains ?_
    split
    · exact s.endTransfer_retains p Retains.refl
    · exact s.endTransfer_retains p Retains.refl
    · exact .refl s
  | nop p => exact .of_reading fun _ => rfl
  | getChannel p x => exact .of_reading fun _ => rfl
  | getHead p x => exact .of_reading fun _ => rfl
  | getAlarms p x => exact .of_reading fun _ => rfl
  | getStation p => exact .of_request fun _ => .of_parts rfl rfl
  | getSetting p k x => exact .of_reading fun _ => rfl
  | getProposal p x => exact .of_reading fun _ => rfl
  | acknowledge p x m => exact .of_request fun u => u.takeAcknowledge_retains p x m
  | setTime p x => exact .of_request fun u => u.takeSetTime_retains p x
  | sendHeadCommand p input code => exact .of_request fun u => u.takeHeadCommand_retains input code
  | stopTest p => exact .of_request fun u => u.takeStopTest_retains p
  | seek p r q => exact .of_request fun u => u.placeCursor_retains p _ r fun _ h => clampNat_within h _
  | rewind p r => exact .of_request fun u => u.placeCursor_retains p _ r fun _ h => ⟨Nat.le_refl _, h⟩
  | fetch p r n => exact .of_request fun u => u.takeFetch_retains p r n
  | collect p => exact .of_request fun u => u.takeCollect_retains p
  | cancel p => exact .of_request fun u => u.takeCancel_retains p
  | draftItem p k x fs =>
    refine .of_request fun u => ?_
    split
    · exact u.takeDraftItem_retains p k x fs
    · exact .refl u
  | post p =>
    exact .of_request fun u => .trans (t := u.strapAt p.solo) (.of_parts rfl rfl) ((u.strapAt p.solo).takePost_retains p.port)
  | confirm p n => exact .of_request fun u => u.takeConfirm_retains p n
  | withdraw p => exact .of_request fun u => u.takeWithdraw_retains p
  | getNotices p => exact .of_request fun u => u.updPort_retains p rfl
  | setNoticeMask p m => exact .of_request fun u => u.updPort_retains p rfl
  | setPortOptions p o => exact .of_request fun u => u.takeOptions_retains p o
  | restartPort p => exact .of_request fun u => u.takeRestart_retains p

end Sys2Proof.Machine
end

section
/-! ## What every step keeps of the History Store (R119, R131, R132, R140) -/

namespace Sys2Proof.Machine

open State (Retains)

/-! ### The write queue -/

theorem State.clearStore_queueBounded (s : State) (cause : ClearCause) : (s.clearStore cause).queueBounded := by
  rw [State.clearStore_eq]
  exact ⟨Store.placeCleared_length .., Nat.zero_le _⟩

theorem State.commitStages_queueBounded {s : State} (h : s.queueBounded) : s.commitStages.queueBounded := by
  rcases s.commitStages_store with ⟨hkept, -⟩ | ⟨u, cause, -, hkept⟩
  · exact hkept.queue h
  · exact hkept.queue (u.clearStore_queueBounded cause)

/-- The record that the writer takes leaves the queue, and the event of a wrap counts the records it displaces (R132). -/
theorem State.grantWrite_queueBounded {s : State} {q : QueuedRecord} {rest : List QueuedRecord} (h : s.queueBounded)
    (hq : s.store.queue = q :: rest) : (s.grantWrite q rest).queueBounded := by
  obtain ⟨hlength, hloss⟩ := h
  have hrest : rest.length ≤ 64 := by
    rw [hq, List.length_cons] at hlength
    omega
  by_cases hsize : s.settings.ringSize q.ring = 0
  · rw [State.grantWrite_of_noSlots hsize]
    exact ⟨hrest, hloss⟩
  by_cases hnext : (nth s.store.rings q.ring).next < topSequence
  · rw [State.grantWrite_of_room hsize hnext]
    exact ⟨hrest, hloss⟩
  · rw [State.grantWrite_of_wrap hsize (Nat.not_lt.mp hnext), State.wrapRing_eq]
    exact ⟨Store.placeCleared_length .., Nat.zero_le _⟩

theorem State.finishWrite_queueBounded {s : State} (h : s.queueBounded) (q : QueuedRecord) :
    (s.finishWrite q).queueBounded := by
  by_cases hsize : s.settings.ringSize q.ring = 0
  · rwa [State.finishWrite_of_noSlots hsize]
  · rw [State.finishWrite_of_slots hsize]
    exact h

theorem StoreMove.queueBounded {s t : State} (m : StoreMove s t) (h : s.queueBounded) : t.queueBounded := by
  cases m with
  | stand hkept => exact hkept.queue h
  | granted q rest _ hq ht =>
    subst ht
    exact State.grantWrite_queueBounded h hq
  | written q hq ht =>
    subst ht
    exact State.finishWrite_queueBounded (s := { s with store := { s.store with access := .idle } }) h q
  | second pulled ht =>
    subst ht
    exact (secondTick_retains pulled s).queue (State.commitStages_queueBounded h)

/-- Settles O53: records join a queue within its bounds, the writer takes one away, and the event of a clear makes its
own room. -/
theorem queueStaysBounded : Obligations.QueueStaysBounded := by
  intro s t h ht
  unfold step at ht
  split at ht
  · next c rest _ =>
    by_cases hc : ∃ solo, c = .powerOnReset solo
    · obtain ⟨solo, rfl⟩ := hc
      cases ht
      obtain ⟨hqueue, -⟩ := resetIsSound
      exact hqueue
    · exact (exec_store c { s with pending := rest } (fun solo e => hc ⟨solo, e⟩) t ht).queueBounded h
  · cases ht
    exact s.idle_retains.queue h

/-! ### Rings and cursors -/

/-- The rings sound for the sizes given, a write in progress into a ring whose numbers are not used up, and every cursor
within its ring (R119, R121, R140). -/
structure State.StoreSound (s : State) (size : Fin 9 → Nat) : Prop where
  rings : ∀ r, (nth s.store.rings r).sound (size r)
  write : ∀ q, s.store.access = .write q → (nth s.store.rings q.ring).next < topSequence
  cursors : s.cursorsWithin

namespace State.StoreSound

theorem iff_sound {s : State} : s.StoreSound s.settings.ringSize ↔ s.ringsSound ∧ s.cursorsWithin :=
  ⟨fun h => ⟨⟨h.rings, h.write⟩, h.cursors⟩, fun ⟨⟨hrings, hwrite⟩, hcursors⟩ => ⟨hrings, hwrite, hcursors⟩⟩

/-- A ring's oldest is at most its next (R119). -/
theorem ordered {s : State} {size : Fin 9 → Nat} (h : s.StoreSound size) (r : Fin 9) :
    (nth s.store.rings r).oldest ≤ (nth s.store.rings r).next := by
  obtain ⟨-, hordered, -⟩ := h.rings r
  exact hordered

theorem of_retains {s t : State} {size : Fin 9 → Nat} (h : s.StoreSound size) (hkept : s.Retains t) :
    t.StoreSound size where
  rings r := by rw [hkept.rings]; exact h.rings r
  write q hq := by rw [hkept.rings]; exact h.write q (hkept.write q hq)
  cursors p r := hkept.placed p r (h.ordered r) (h.cursors p r)

end State.StoreSound

theorem Port.dropIf_cursors (q : Port) (c : Prop) [Decidable c] : (if c then q.dropped else q).cursors = q.cursors := by
  split <;> rfl

/-- An emptied ring is sound whatever its size (R119, R137). -/
theorem Ring.sound.emptied {r : Ring} {size : Nat} (h : r.sound size) (size' : Nat) : r.emptied.sound size' := by
  obtain ⟨holdest, hordered, htop, -, -⟩ := h
  refine ⟨holdest.trans hordered, Nat.le_refl _, htop, ?_, ?_⟩
  · simp [Ring.emptied]
  · simp [Ring.emptied]

/-- A clear leaves rings that are sound for any partition (R137, R138). -/
theorem State.StoreSound.clearStore {s : State} {size : Fin 9 → Nat} (h : s.StoreSound size) (cause : ClearCause)
    (size' : Fin 9 → Nat) : (s.clearStore cause).StoreSound size' := by
  have hring : ∀ r, nth (s.clearStore cause).store.rings r = (nth s.store.rings r).emptied := fun r => by
    rw [State.clearStore_eq]
    exact nth_tab _ r
  refine ⟨fun r => ?_, fun q hq => ?_, fun p r => ?_⟩
  · rw [hring]
    exact (h.rings r).emptied _
  · rw [State.clearStore_eq] at hq
    dsimp only at hq
    rw [Store.placeCleared_access] at hq
    unfold Access.cleared at hq
    split at hq <;> cases hq
  · have hcursor : (nth ((s.clearStore cause).port p).cursors r).cursor = (nth s.store.rings r).next := by
      rw [State.clearStore_eq, State.port, Ports.get_all, Port.cleared, Port.dropIf_cursors, Port.clearCursors, nth_tab,
        nth_tab]
      rfl
    rw [hring, hcursor]
    exact ⟨Nat.le_refl _, Nat.le_refl _⟩

/-- A wrapped ring restarts at 1, and every port's place in it with it (R121). -/
theorem State.StoreSound.wrapRing {s : State} {size : Fin 9 → Nat} (h : s.StoreSound size) (hidle : s.store.access = .idle)
    (r : Fin 9) : (s.wrapRing r).StoreSound size := by
  have hring : ∀ i, nth (s.wrapRing r).store.rings i = if r = i then ⟨1, 1, []⟩ else nth s.store.rings i := fun i => by
    rw [State.wrapRing_eq]
    exact nth_put _ r i _
  refine ⟨fun i => ?_, fun q hq => ?_, fun p i => ?_⟩
  · rw [hring]
    split
    · exact ⟨Nat.le_refl _, Nat.le_refl _, by decide, Nat.zero_le _, rfl⟩
    · exact h.rings i
  · rw [State.wrapRing_eq] at hq
    dsimp only at hq
    rw [Store.placeCleared_access, hidle] at hq
    cases hq
  · have hcursors : ((s.wrapRing r).port p).cursors = put (s.port p).cursors r ⟨1, 0, true⟩ := by
      rw [State.wrapRing_eq, State.port, Ports.get_all, Port.dropIf_cursors]
      rfl
    rw [hring, hcursors, nth_put]
    split
    · exact ⟨Nat.le_refl _, Nat.le_refl _⟩
    · exact h.cursors p i

theorem State.wrapRing_next (s : State) (r : Fin 9) : (nth (s.wrapRing r).store.rings r).next = 1 := by
  rw [State.wrapRing_eq]
  exact congrArg Ring.next (nth_put_self s.store.rings r _)

/-- A write begins only into a ring that still has a number to give (R121, R133). -/
theorem State.StoreSound.grantWrite {s : State} {size : Fin 9 → Nat} (h : s.StoreSound size) (hidle : s.store.access = .idle)
    (q : QueuedRecord) (rest : List QueuedRecord) : (s.grantWrite q rest).StoreSound size := by
  have htaken : State.StoreSound { s with store := { s.store with queue := rest } } size := ⟨h.rings, h.write, h.cursors⟩
  have hbegun : ∀ u : State, u.StoreSound size → (nth u.store.rings q.ring).next < topSequence →
      State.StoreSound { u with store := { u.store with access := .write q } } size := fun u hu hnext =>
    ⟨hu.rings, fun x hx => by cases hx; exact hnext, hu.cursors⟩
  by_cases hsize : s.settings.ringSize q.ring = 0
  · rw [State.grantWrite_of_noSlots hsize]
    exact htaken
  by_cases hnext : (nth s.store.rings q.ring).next < topSequence
  · rw [State.grantWrite_of_room hsize hnext]
    exact hbegun _ htaken hnext
  · rw [State.grantWrite_of_wrap hsize (Nat.not_lt.mp hnext)]
    refine hbegun _ (htaken.wrapRing hidle q.ring) ?_
    rw [State.wrapRing_next]
    decide

/-- A write keeps its ring sound: it drops the oldest record where the ring is full, and adds the number next (R133). -/
theorem Ring.sound.write {r : Ring} {size : Nat} (h : r.sound size) (hsize : size ≠ 0) (hnext : r.next < topSequence)
    (record : Record) : (r.write size record).1.sound size := by
  obtain ⟨holdest, hordered, -, hfits, hseqs⟩ := h
  rw [Ring.write_eq]
  dsimp only
  by_cases hfull : r.next - r.oldest = size
  · simp only [hfull, if_true]
    refine ⟨by simp, by dsimp only; omega, hnext, by dsimp only; omega, ?_⟩
    have hspan : r.next + 1 - (r.oldest + 1) = size - 1 + 1 := by omega
    have hlast : r.oldest + 1 + (size - 1) = r.next := by omega
    dsimp only
    rw [hspan, List.range'_1_concat, List.map_append, List.map_tail, hseqs, hfull, List.tail_range', hlast]
    rfl
  · simp only [hfull, if_false]
    refine ⟨holdest, by dsimp only; omega, hnext, by dsimp only; omega, ?_⟩
    have hspan : r.next + 1 - r.oldest = r.next - r.oldest + 1 := by omega
    have hlast : r.oldest + (r.next - r.oldest) = r.next := by omega
    dsimp only
    rw [hspan, List.range'_1_concat, List.map_append, hseqs, hlast]
    rfl

/-- The end of a write keeps every cursor within its ring: the one at the removed record is pushed on (R141). -/
theorem State.StoreSound.finishWrite {s : State} (h : s.StoreSound s.settings.ringSize) (hidle : s.store.access = .idle)
    {q : QueuedRecord} (hnext : (nth s.store.rings q.ring).next < topSequence) :
    (s.finishWrite q).StoreSound s.settings.ringSize := by
  by_cases hsize : s.settings.ringSize q.ring = 0
  · rwa [State.finishWrite_of_noSlots hsize]
  rw [State.finishWrite_of_slots hsize]
  refine ⟨fun r => ?_, fun x hx => absurd (hidle.symm.trans hx) nofun, fun p r => ?_⟩
  · dsimp only
    rw [nth_put]
    split
    · next hr =>
      subst hr
      exact (h.rings q.ring).write hsize hnext q.record
    · exact h.rings r
  · obtain ⟨hlow, hhigh⟩ := h.cursors p r
    obtain ⟨-, hordered, -⟩ := h.rings r
    dsimp only
    rw [State.port, Ports.get_all, Port.written_cursor, nth_put]
    by_cases hr : q.ring = r
    · subst hr
      rw [State.afterWrite, Ring.write_eq]
      dsimp only
      rw [if_pos rfl]
      unfold State.port at hlow hhigh
      by_cases hfull : (nth s.store.rings q.ring).next - (nth s.store.rings q.ring).oldest = s.settings.ringSize q.ring
      · simp only [hfull, if_true, true_and, Option.some.injEq]
        split <;> omega
      · simp only [hfull, if_false, true_and, reduceCtorEq]
        omega
    · simp only [hr, if_false, false_and]
      exact ⟨hlow, hhigh⟩

theorem Settings.ringSize_of_partition {u v : Settings} (h : u.partition = v.partition) : u.ringSize = v.ringSize := by
  funext r
  unfold Settings.ringSize
  rw [h]

/-- A second tick keeps the store sound: a new partition comes with a clear (R138). -/
theorem secondTick_storeSound (pulled : Bool) {s : State} (h : s.StoreSound s.settings.ringSize) :
    (secondTick pulled s).StoreSound (secondTick pulled s).settings.ringSize := by
  obtain ⟨-, -, hsettings, -⟩ := secondTick_spec pulled s
  rw [hsettings]
  refine State.StoreSound.of_retains ?_ (secondTick_retains pulled s)
  rcases s.commitStages_store with ⟨hkept, hpartition⟩ | ⟨u, cause, hbefore, hafter⟩
  · rw [Settings.ringSize_of_partition hpartition]
    exact h.of_retains hkept
  · exact ((h.of_retains hbefore).clearStore cause _).of_retains hafter

/-- The ports of a power-on keep their cursors of reset (R134). -/
theorem resetStoreSound (s : State) (solo : Bool) :
    ({ State.reset with pending := s.pending, solo, ports := s.ports.all Port.acrossReset, free := s.free } :
      State).ringsSound ∧
    ({ State.reset with pending := s.pending, solo, ports := s.ports.all Port.acrossReset, free := s.free } :
      State).cursorsWithin := by
  obtain ⟨-, hrings, hwithin, -⟩ := resetIsSound
  refine ⟨hrings, fun p r => ?_⟩
  have hcursors := hwithin p r
  have hport : (State.reset.port p).cursors = ((s.ports.all Port.acrossReset).get p).cursors := by
    rw [Ports.get_all]
    cases p <;> rfl
  rw [hport] at hcursors
  exact hcursors

/-- Every command but power-on keeps the rings sound and the cursors within them. -/
theorem exec_storeSound {i : Instr} {s t : State} (hi : ∀ solo, i ≠ .powerOnReset solo) (ht : exec i s = .next t)
    (h : s.StoreSound s.settings.ringSize) : t.StoreSound t.settings.ringSize := by
  rcases exec_exposures i s hi t ht with hconfines | ⟨pulled, rfl⟩
  · rw [hconfines.settings]
    cases exec_store i s hi t ht with
    | stand hkept => exact h.of_retains hkept
    | granted q rest hidle _ ht =>
      subst ht
      exact h.grantWrite hidle q rest
    | written q hq ht =>
      subst ht
      exact State.StoreSound.finishWrite (s := { s with store := { s.store with access := .idle } })
        ⟨h.rings, nofun, h.cursors⟩ rfl (h.write q hq)
    | second pulled ht =>
      subst ht
      rw [← hconfines.settings]
      exact secondTick_storeSound pulled h
  · exact secondTick_storeSound pulled h

/-- Settles O54: the ring operations keep every ring sound and every cursor within its ring, and nothing else moves a
ring. -/
theorem ringsAndCursorsStaySound : Obligations.RingsAndCursorsStaySound := by
  intro s t hrings hcursors ht
  have h : s.StoreSound s.settings.ringSize := State.StoreSound.iff_sound.mpr ⟨hrings, hcursors⟩
  unfold step at ht
  split at ht
  · next c rest _ =>
    by_cases hc : ∃ solo, c = .powerOnReset solo
    · obtain ⟨solo, rfl⟩ := hc
      cases ht
      exact resetStoreSound { s with pending := rest } solo
    · exact State.StoreSound.iff_sound.mp (exec_storeSound (fun solo e => hc ⟨solo, e⟩) ht
        (s := { s with pending := rest }) ⟨h.rings, h.write, h.cursors⟩)
  · cases ht
    exact State.StoreSound.iff_sound.mp (h.of_retains s.idle_retains)

end Sys2Proof.Machine
end

section
/-! ## The accesses of the store and the deferred slot (R121, R133, R135, R141, R142, R147 to R153) -/

namespace Sys2Proof.Machine

/-! ### The end of a write -/

/-- A judgement of the half-unread mark moves no place (R142). -/
theorem Port.judgeHalf_eq (q : Port) (size next : Nat) (r : Fin 9) :
    q.judgeHalf size next r = q.movedTo r (nth q.cursors r).cursor (nth q.cursors r).skip size next := by
  unfold Port.judgeHalf Port.movedTo halfUnread
  by_cases hsize : size = 0
  · simp [hsize]
  · by_cases hhalf : size ≤ 2 * (next - (nth q.cursors r).cursor) <;> simp [hsize, hhalf]

/-- A cursor that is written and then judged. -/
theorem Port.movedTo_of_put (q : Port) (r : Fin 9) (cursor skip cursor' skip' size next : Nat) :
    ({ q with cursors := put q.cursors r { cursor, skip, armed := (nth q.cursors r).armed } } : Port).movedTo r cursor'
      skip' size next = q.movedTo r cursor' skip' size next := by
  unfold Port.movedTo
  simp only [put_put, nth_put_self]

/-- What a write into a ring does to a port (R141, R142). -/
theorem Port.written_eq (q : Port) (r : Fin 9) (removed : Option Nat) (size next : Nat) :
    q.written r removed size next =
      let cu := nth q.cursors r
      if removed = some cu.cursor then
        { q with notices := q.notices.addOverwrite r }.movedTo r (cu.cursor + 1)
          (if 65535 ≤ cu.skip then 65535 else cu.skip + 1) size next
      else q.movedTo r cu.cursor cu.skip size next := by
  unfold Port.written
  dsimp only
  rw [Port.judgeHalf_eq]
  split
  · simp only [nth_upd_self]
    exact Port.movedTo_of_put { q with notices := q.notices.addOverwrite r } r _ _ _ _ size next
  · rfl

/-- Settles O31: the ring written is R133's, and each port is told of it as R141 and R142 have it. -/
theorem writeEnds : Obligations.WriteEnds := by
  intro s q hq
  have hexec : exec .writeComplete s = .next ({ s with store := { s.store with access := .idle } }.finishWrite q) := by
    change execWriteComplete s = _
    rw [execWriteComplete, hq]
  by_cases hsize : s.settings.ringSize q.ring = 0
  · refine ⟨_, hexec.trans (congrArg _ (State.finishWrite_of_noSlots hsize)), ?_⟩
    dsimp only
    rw [if_pos hsize]
  · refine ⟨_, hexec.trans (congrArg _ (State.finishWrite_of_slots hsize)), ?_⟩
    rw [State.afterWrite, Ring.write_eq]
    dsimp only
    rw [if_neg hsize]
    refine ⟨rfl, rfl, fun p => ?_⟩
    rw [State.port, Ports.get_all, Port.written_eq]
    have hremoved : ∀ c : Nat,
        ((if (nth s.store.rings q.ring).next - (nth s.store.rings q.ring).oldest = s.settings.ringSize q.ring then
          some (nth s.store.rings q.ring).oldest else none) = some c) ↔
        (nth s.store.rings q.ring).next - (nth s.store.rings q.ring).oldest = s.settings.ringSize q.ring ∧
          c = (nth s.store.rings q.ring).oldest := fun c => by
      split
      · next hfull => simp [hfull, eq_comm]
      · next hfull => simp [hfull]
    dsimp only
    simp only [hremoved]
    rfl

/-! ### A grant -/

theorem exec_storeGrant {s : State} (h : s.store.access = .idle) : exec .storeGrant s = .next s.grant := by
  change execStoreGrant s = _
  rw [execStoreGrant, h]

/-- The first port of a list that is in WORKING, with its FETCH. -/
theorem State.findSome_working (s : State) {p : PortId} {f : Fetch} {before after : List PortId}
    (hbefore : ∀ q ∈ before, ∀ g, (s.port q).slot ≠ .working g) (hp : (s.port p).slot = .working f) :
    (before ++ p :: after).findSome? (fun p => (s.port p).slot.fetch.map fun f => (p, f)) = some (p, f) := by
  have hskipped : before.findSome? (fun p => (s.port p).slot.fetch.map fun f => (p, f)) = none := by
    rw [List.findSome?_eq_none_iff]
    intro q hq
    cases hslot : (s.port q).slot with
    | idle => rfl
    | working g => exact absurd hslot (hbefore q hq g)
    | ready b => rfl
  rw [List.findSome?_append, hskipped, Option.none_or, List.findSome?_cons, hp]
  rfl

theorem State.nextWorking_of_none {s : State} (h : ∀ p g, (s.port p).slot ≠ .working g) : s.nextWorking = none := by
  unfold State.nextWorking
  rw [List.findSome?_eq_none_iff]
  intro q _
  cases hslot : (s.port q).slot with
  | idle => rfl
  | working g => exact absurd hslot (h q g)
  | ready b => rfl

/-- Settles O30: the writer goes first, then the ports in their turn; each grant does what R121, R133 and R148 say. -/
theorem storeGranted : Obligations.StoreGranted := by
  refine ⟨fun s q rest hidle hq => ⟨s.grant, exec_storeGrant hidle, ?_⟩,
    fun s p f before after hidle hq hports hbefore hp => ⟨s.grant, exec_storeGrant hidle, ?_⟩, fun s hidle hq hslots => ?_⟩
  · have hgrant : s.grant = s.grantWrite q rest := by rw [State.grant, hq]
    rw [hgrant]
    split
    · next hsize => exact State.grantWrite_of_noSlots hsize
    · next hsize =>
      split
      · next hnext => exact State.grantWrite_of_room hsize hnext
      · next hnext =>
        rw [State.grantWrite_of_wrap hsize (Nat.not_lt.mp hnext), State.wrapRing_eq]
        refine ⟨rfl, rfl, nth_put_self .., fun r hr => nth_put_ne _ _ (Ne.symm hr), rfl, fun p => ?_⟩
        rw [State.port, Ports.get_all]
        refine ⟨fun r => ?_, ?_⟩
        · rw [Port.dropIf_cursors, Port.wrapped, nth_put]
          simp only [eq_comm]
          rfl
        · simp only [State.port]
          split
          · exact ⟨rfl, rfl, rfl, rfl⟩
          · exact ⟨rfl, rfl, rfl, rfl⟩
  · have hnext : s.nextWorking = some (p, f) := by
      have hlist : portsAfter s.store.turn = before ++ p :: after := hports
      rw [State.nextWorking, hlist]
      exact s.findSome_working hbefore hp
    rw [State.grant, hq, hnext]
    dsimp only
    have hgranted : f.granted (nth s.store.rings f.ring) =
        if f.wanted < (nth s.store.rings f.ring).oldest then
          { f with held := [], wanted := (nth s.store.rings f.ring).oldest, start := (nth s.store.rings f.ring).oldest,
                   gap := true, atGrant := ((nth s.store.rings f.ring).oldest, (nth s.store.rings f.ring).next) }
        else { f with atGrant := ((nth s.store.rings f.ring).oldest, (nth s.store.rings f.ring).next) } := rfl
    have hheads : (f.granted (nth s.store.rings f.ring)).ring = f.ring ∧
        (f.granted (nth s.store.rings f.ring)).atGrant =
          ((nth s.store.rings f.ring).oldest, (nth s.store.rings f.ring).next) := by
      rw [hgranted]
      split <;> exact ⟨rfl, rfl⟩
    rw [← hgranted]
    obtain ⟨hring, hat⟩ := hheads
    unfold State.grantCopy
    dsimp only
    split
    · rw [State.finishFetch, hring, hat]
      rfl
    · rfl
  · rw [exec_storeGrant hidle, State.grant, hq, State.nextWorking_of_none hslots]

/-! ### The deferred slot -/

/-- A request of a plain transfer: what it does, and its reply due (R166). -/
theorem State.next_of_take {s : State} {p : PortId} (hplain : s.plain p) {take : State → State × Reply} {t : State}
    {reply : Reply} (h : take s = (t, reply)) :
    (.next (s.endTransfer p take) : Host.Outcome State Fault Refusal) = .next (t.answered p reply) := by
  rw [State.endTransfer_of_plain hplain, h]
  rfl

theorem State.takeFetch_of_outside (s : State) (p : PortId) {x : Byte} (hx : 9 ≤ x.toNat) (count : Byte) :
    s.takeFetch p x count = (s, bare .badArgument 19) := by
  rw [State.takeFetch, nameOf_of_le hx]

theorem State.takeFetch_of_occupied {s : State} {p : PortId} {x : Byte} {r : Fin 9} (hr : x.toNat = r.val) (count : Byte)
    (hslot : (s.port p).slot ≠ .idle) : s.takeFetch p x count = (s, bare .busy 19) := by
  rw [State.takeFetch, nameOf_of_lt hr]
  dsimp only
  split
  · next h => exact absurd h hslot
  · rfl
  · rfl

theorem State.takeFetch_of_idle {s : State} {p : PortId} {x : Byte} {r : Fin 9} (hr : x.toNat = r.val) (count : Byte)
    (hslot : (s.port p).slot = .idle) :
    s.takeFetch p x count =
      let n := clampNat 1 4 count.toNat
      let start := (nth (s.port p).cursors r).cursor
      let f : Fetch :=
        { ring := r, count := n, wanted := start, start, gap := false, held := []
          atGrant := ((nth s.store.rings r).oldest, (nth s.store.rings r).next) }
      (s.updPort p fun q => { q with slot := .working f },
       { status := .queued, code := 19, body := .queued r n start }) := by
  rw [State.takeFetch, nameOf_of_lt hr]
  dsimp only
  rw [hslot]

theorem State.takeCollect_of_ready {s : State} {p : PortId} {b : Batch} (hslot : (s.port p).slot = .ready b) :
    s.takeCollect p =
      (s.updPort p fun q => { q with slot := .idle, timer := 0, discarded := false },
       { status := .done, code := 11, body := .batch b (nth (s.port p).cursors b.ring).skip }) := by
  unfold State.takeCollect
  dsimp only
  rw [hslot]

theorem State.takeCollect_of_working {s : State} {p : PortId} {f : Fetch} (hslot : (s.port p).slot = .working f) :
    s.takeCollect p =
      (s.updPort p fun q => { q with discarded := false },
       { status := .pending, code := 11, body := .cursors (s.port p).cursors }) := by
  unfold State.takeCollect
  dsimp only
  rw [hslot]

theorem State.takeCollect_of_idle {s : State} {p : PortId} (hslot : (s.port p).slot = .idle) :
    s.takeCollect p =
      (s.updPort p fun q => { q with discarded := false },
       { status := if (s.port p).discarded then .discarded else .emptySlot, code := 11
         body := .cursors (s.port p).cursors }) := by
  unfold State.takeCollect
  dsimp only
  rw [hslot]

theorem State.takeCancel_of_occupied {s : State} {p : PortId} (hslot : (s.port p).slot ≠ .idle) :
    s.takeCancel p = (s.dropFetch p, bare .done 12) := by
  unfold State.takeCancel
  split
  · rfl
  · rfl
  · next h => exact absurd h hslot

theorem State.takeCancel_of_idle {s : State} {p : PortId} (hslot : (s.port p).slot = .idle) :
    s.takeCancel p = (s, bare .emptySlot 12) := by
  rw [State.takeCancel, hslot]

/-- The end of a copy for a FETCH that is still in WORKING (R148). -/
theorem State.copied_of_working {s : State} {p : PortId} {f : Fetch} (r : StoredRecord)
    (hslot : (s.port p).slot = .working f) :
    s.copied p r =
      if f.count ≤ f.held.length + 1 then s.finishFetch p { f with held := f.held ++ [r] }
      else s.updPort p fun q => { q with slot := .working { f with held := f.held ++ [r] } } := by
  rw [State.copied, hslot]
  dsimp only
  rw [List.length_append, List.length_singleton]

/-- The parts of a state that a CANCEL answered leaves (R135, R153). -/
theorem State.dropFetch_answered (s : State) (p : PortId) (reply : Reply) :
    ((s.dropFetch p).answered p reply).port p =
        { s.port p with slot := .idle, timer := 0, transfer := .idle, due := reply } ∧
      ∀ q, q ≠ p → ((s.dropFetch p).answered p reply).port q = s.port q := by
  refine ⟨?_, fun q hq => ?_⟩
  · rw [State.answered, State.port_updPort_self]
    exact congrArg (fun u : Port => { u with transfer := .idle, due := reply }) (s.port_updPort_self p _)
  · rw [State.answered, State.port_updPort_ne _ _ (Ne.symm hq)]
    exact s.port_updPort_ne _ (Ne.symm hq)

/-- Settles O34: each command in each state of the slot. -/
theorem deferredSlot : Obligations.DeferredSlot := by
  refine ⟨fun s p x count hplain => ⟨fun hx => State.next_of_take hplain (s.takeFetch_of_outside p hx count),
      fun r hr => ⟨fun hslot => State.next_of_take hplain (State.takeFetch_of_occupied hr count hslot),
        fun hslot => State.next_of_take hplain (State.takeFetch_of_idle hr count hslot)⟩,
      fun b hslot => State.next_of_take hplain (State.takeCollect_of_ready hslot),
      fun f hslot => State.next_of_take hplain (State.takeCollect_of_working hslot),
      fun hslot => State.next_of_take hplain (State.takeCollect_of_idle hslot), fun hslot => ?_,
      fun hslot => State.next_of_take hplain (State.takeCancel_of_idle hslot)⟩,
    fun s p r f hcopy hslot => ?_, fun s p hcopy => ?_, fun s p b hslot => ?_⟩
  · obtain ⟨hself, hothers⟩ := s.dropFetch_answered p (bare .done 12)
    exact ⟨_, State.next_of_take hplain (State.takeCancel_of_occupied hslot), hself, hothers, rfl, rfl⟩
  · have hexec : exec .copyComplete s = .next ({ s with store := { s.store with access := .idle } }.copied p r) := by
      change execCopyComplete s = _
      rw [execCopyComplete, hcopy]
    rw [hexec, State.copied_of_working (s := { s with store := { s.store with access := .idle } }) r hslot]
    split
    · rfl
    · rfl
  · change execCopyComplete s = _
    rw [execCopyComplete, hcopy]
  · change execDiscardTimerExpiry p s = _
    rw [execDiscardTimerExpiry, hslot]

end Sys2Proof.Machine
end

section
/-! ## The bytes of a record (R127, R129, R130, R196) -/

namespace Sys2Proof.Machine

theorem fillSlot_of_le {bs : List Byte} (h : bs.length ≤ 48) : fillSlot bs = bs ++ List.replicate (48 - bs.length) 0#8 := by
  rw [fillSlot, List.take_append, List.take_of_length_le h, List.take_replicate, Nat.min_eq_left (by omega)]

/-- A record of an event whose body takes at most 36 bytes. -/
theorem StoredRecord.bytes_event (seq : Nat) (time : Time) (source : EventSource) (loss : Nat) {body : EventBody}
    {code : Byte} {bytes : List Byte} (hcode : BitVec.ofNat 8 source.byte = code) (hbytes : body.bytes = bytes)
    (hlength : bytes.length ≤ 36) :
    StoredRecord.bytes { seq, record := .event { time, source, body, loss } } =
      [BitVec.ofNat 8 body.type, code] ++ bytes4 (BitVec.ofNat 32 seq) ++ bytes4 time ++ bytes2 (BitVec.ofNat 16 loss) ++
        bytes ++ List.replicate (36 - bytes.length) 0#8 := by
  have hhead : ∀ l : List Byte, (b1 body.type ++ b1 source.byte ++ b4 seq ++ bytes4 time ++ b2 loss ++ l).length =
      12 + l.length := fun l => by
    rw [List.length_append]
    rfl
  rw [StoredRecord.bytes]
  dsimp only
  rw [fillSlot_of_le (by rw [hhead, hbytes]; omega), hhead, hbytes, ← hcode, Nat.sub_add_eq]
  rfl

/-- Settles O35: each field is R196's, and what a record does not use is 0. -/
theorem recordBytes : Obligations.RecordBytes := by
  refine ⟨fun seq v => fillSlot_of_le (Nat.le_of_ble_eq_true rfl), fun seq time source loss => ?_⟩
  intro sourceCode laid alarmCode linkCode stormCode portCode commandCode formCode linkCauses
  have hsource : BitVec.ofNat 8 source.byte = sourceCode := by
    cases source with
    | port p => cases p <;> rfl
    | _ => rfl
  have halarm : ∀ a : AlarmState, BitVec.ofNat 8 a.byte = alarmCode a := fun a => by cases a <;> rfl
  have hlink : ∀ l : LinkState, BitVec.ofNat 8 l.byte = linkCode l := fun l => by cases l <;> rfl
  have hstorm : ∀ x : StormState, BitVec.ofNat 8 x.byte = stormCode x := fun x => by cases x <;> rfl
  have hport : ∀ p, BitVec.ofNat 8 (portByte p) = portCode p := fun p => by cases p <;> rfl
  have hcommand : ∀ x : HeadCommand, BitVec.ofNat 8 x.byte = commandCode x := fun x => by cases x <;> rfl
  have hform : ∀ x : TestForm, BitVec.ofNat 8 x.byte = formCode x := fun x => by cases x <;> rfl
  have hconfirmer : ∀ c : Option PortId, BitVec.ofNat 8 ((c.map portByte).getD 0) = (c.map portCode).getD 0 := fun c => by
    cases c with
    | none => rfl
    | some p => exact hport p
  have halarmCause : ∀ x ∈ [(AlarmCause.condition, (0 : Byte)), (.acknowledge, 1), (.reset, 2)],
      BitVec.ofNat 8 x.1.byte = x.2 := by decide
  have hlinkCause : ∀ x ∈ linkCauses, BitVec.ofNat 8 x.1.byte = x.2 := by decide
  have hendCause : ∀ x ∈ [(EndCause.withdrawn, (0 : Byte)), (.draftExpired, 1), (.confirmExpired, 2), (.portRestart, 3)],
      BitVec.ofNat 8 x.1.byte = x.2 := by decide
  have htestCause : ∀ x ∈ [(TestCause.commit, (0 : Byte)), (.expired, 1), (.stopped, 2)],
      BitVec.ofNat 8 x.1.byte = x.2 := by decide
  have hclearCause : ∀ x ∈ [(ClearCause.clear, (0 : Byte)), (.partition, 1), (.wrap, 2)],
      BitVec.ofNat 8 x.1.byte = x.2 := by decide
  have hlaid : ∀ {body : EventBody} {bytes : List Byte}, body.bytes = bytes → bytes.length ≤ 36 →
      laid body (BitVec.ofNat 8 body.type) bytes :=
    fun hbytes hlength => StoredRecord.bytes_event seq time source loss hsource hbytes hlength
  have short : ∀ {bytes : List Byte}, bytes.length.ble 36 = true → bytes.length ≤ 36 := Nat.le_of_ble_eq_true
  refine ⟨fun i was now value cause code h => hlaid ?_ (short rfl), fun p count entries => hlaid ?_ (short rfl),
    fun n was now cause code h => hlaid ?_ (short rfl), fun was now count => hlaid ?_ (short rfl),
    fun generation poster confirmer items h => hlaid ?_ ?_, fun number cause code h => hlaid ?_ (short rfl),
    fun ended inputs form cause code h => hlaid ?_ (short rfl), fun old new p => hlaid ?_ (short rfl),
    fun n command dropped => hlaid ?_ (short rfl), fun n channels => hlaid rfl (short rfl), hlaid rfl (short rfl),
    fun cause code rings h => hlaid ?_ (short rfl)⟩
  · rw [EventBody.bytes, b1, b1, b1, b1, halarm, halarm, halarmCause _ h]
    rfl
  · rw [EventBody.bytes, b1, hport]
    rfl
  · rw [EventBody.bytes, b1, b1, b1, b1, hlink, hlink, hlinkCause _ h]
    rfl
  · rw [EventBody.bytes, b1, b1, hstorm, hstorm]
    rfl
  · rw [EventBody.bytes, b1, b1, hport, hconfirmer, List.map_eq_flatMap]
    rfl
  · simp only [List.length_append, List.length_map, List.length_cons, List.length_nil, bytes2]
    omega
  · rw [EventBody.bytes, b1, hendCause _ h]
  · rw [EventBody.bytes, b1, b1, flagByte_eq, hform, htestCause _ h]
    rfl
  · rw [EventBody.bytes, b1, hport]
  · rw [EventBody.bytes, b1, b1, flagByte_eq, hcommand]
    rfl
  · rw [EventBody.bytes, b1, hclearCause _ h]

end Sys2Proof.Machine
end

section
/-! ## The windows of a proposal (R185, R189) -/

namespace Sys2Proof.Machine

/-- The SETTINGS notice of a cause, as it stands once added. -/
theorem Notices.addSettings_bits (a : Notices) (cause : Fin 4) :
    (a.addSettings cause).flags.getLsbD 3 = true ∧ (a.addSettings cause).settings.getLsbD cause.val = true :=
  ⟨getLsbD_or_right rfl, getLsbD_or_right (getLsbD_bitOf 8 cause (by omega))⟩

theorem Work.port_endSecond_join (w : Work) (p : PortId) : w.join.endSecond.port p = w.st.port p := rfl

theorem Work.proposal_endSecond_join (w : Work) : w.join.endSecond.proposal = w.st.proposal := rfl

theorem State.closeCommit_of_other {s : State} (h : ∀ o c i, s.proposal ≠ .committing o c i) : s.closeCommit = s := by
  unfold State.closeCommit
  split
  · next hp => exact absurd hp (h _ _ _)
  all_goals rfl

/-- What the windows are counted from: the buffer, the proposal number and the station time of the tick's start. -/
theorem tickTested_frame (pulled : Bool) {s : State} (hu : s.uncommitted) :
    (tickHanded pulled s).countTest.st.proposal = s.proposal ∧ (tickHanded pulled s).countTest.st.number = s.number ∧
      (tickHanded pulled s).countTest.st.timebase = s.timebase := by
  obtain ⟨_, _, _, _, _, _, ht⟩ := (tickHanded pulled s).countTest_frame
  obtain ⟨_, _, _, _, _, _, hh⟩ := tickHanded_frame pulled s
  obtain ⟨_, _, hd⟩ := tickDecided_frame pulled s
  obtain ⟨_, _, hi, -⟩ := tickInputs_spec s
  refine ⟨by rw [ht, tickHanded_proposal], ?_, ?_⟩
  · rw [ht, hh, hd, tickJudged, Work.map_st, State.judgeChannels_number, hi, State.commitStages_of_uncommitted hu]
  · rw [ht, hh, hd, tickJudged, Work.map_st, State.judgeChannels_timebase, hi, State.commitStages_of_uncommitted hu]

/-- The end of a proposal whose window has run out (R185, R189). -/
def Work.expire (w : Work) (cause : EndCause) : Work :=
  (w.endProposal cause .station).map fun s => s.notifyAll (·.addSettings 2)

theorem Work.expire_port (w : Work) (cause : EndCause) (p : PortId) :
    (w.expire cause).st.port p = { w.st.port p with notices := (w.st.port p).notices.addSettings 2 } :=
  State.port_notifyAll { w.st with proposal := .empty } (·.addSettings 2) p

theorem Work.countWindows_of_draft {w : Work} {o : PortId} {items : List Item} {left : Nat}
    (h : w.st.proposal = .draft o items left) :
    w.countWindows = if left ≤ 1 then w.expire .draftExpired
      else w.map fun s => { s with proposal := .draft o items (left - 1) } := by
  rw [Work.countWindows, h]
  rfl

theorem Work.countWindows_of_posted {w : Work} {o : PortId} {items : List Item} {left : Nat}
    (h : w.st.proposal = .posted o items left) :
    w.countWindows = if left ≤ 1 then w.expire .confirmExpired
      else w.map fun s => { s with proposal := .posted o items (left - 1) } := by
  rw [Work.countWindows, h]
  rfl

/-- A tick at which nothing commits closes no commit. -/
theorem secondTick_of_notClosing (pulled : Bool) {s : State}
    (h : ∀ o c i, (tickCounted pulled s).st.proposal ≠ .committing o c i) :
    secondTick pulled s = (tickCounted pulled s).join.endSecond := by
  have hjoined : ∀ o c i, (tickCounted pulled s).join.proposal ≠ .committing o c i := fun o c i => by
    rw [Work.join_proposal]
    exact h o c i
  rw [secondTick, State.closeCommit_of_other hjoined]

/-- A tick at which the buffer runs out. -/
theorem secondTick_expires {pulled : Bool} {s : State} {cause : EndCause} (hu : s.uncommitted)
    (h : tickCounted pulled s = (tickHanded pulled s).countTest.expire cause) :
    (secondTick pulled s).proposal = .empty ∧
      (∀ p, ((secondTick pulled s).port p).notices.flags.getLsbD 3 = true ∧
        ((secondTick pulled s).port p).notices.settings.getLsbD 2 = true) ∧
      (s.testGoesOn → s.store.queue = [] → s.store.loss = 0 →
        s.eventRecord .station (.proposalEnded s.number cause) ∈ (secondTick pulled s).store.queue) := by
  obtain ⟨-, hnumber, htime⟩ := tickTested_frame pulled hu
  have hend : secondTick pulled s = (tickCounted pulled s).join.endSecond := secondTick_of_notClosing pulled (by
    rw [h]
    nofun)
  rw [hend]
  refine ⟨by rw [h]; rfl, fun p => ?_, fun htest hqueue hloss => ?_⟩
  · have hport : (((tickCounted pulled s).join.endSecond.port p).notices) =
        (((tickHanded pulled s).countTest.st.port p).notices.addSettings 2) := by
      rw [Work.port_endSecond_join, h, Work.expire_port]
    rw [hport]
    exact Notices.addSettings_bits _ 2
  · have hands := hands_tickCounted_of_goesOn pulled hu htest
    have hout : ⟨.proposal, s.followingRecord .station (.proposalEnded s.number cause)⟩ ∈ (tickCounted pulled s).out := by
      rw [h, Work.expire, Work.map, Work.endProposal, Work.event_out, State.followingRecord, Work.map_st, hnumber, htime]
      exact List.mem_append_right _ List.mem_cons_self
    have hstore : (tickCounted pulled s).st.store = s.store := hands.store
    have hjoined := Work.mem_join hout (by rw [hstore, hloss]) (by
      rw [hstore, hqueue]
      exact (Nat.zero_add _).le.trans (hands.length_le.trans (by decide)))
    rw [State.followingRecord_carrying, ← hloss] at hjoined
    exact hjoined

/-- A tick whose buffer counts down a window either ends the proposal or leaves it with one second less. -/
theorem secondTick_counts {pulled : Bool} {s : State} {cause : EndCause} {left : Nat} {next : Proposal}
    (hu : s.uncommitted) (hnext : ∀ o c i, next ≠ .committing o c i)
    (h : tickCounted pulled s = if left ≤ 1 then (tickHanded pulled s).countTest.expire cause
      else (tickHanded pulled s).countTest.map fun s => { s with proposal := next }) :
    if left ≤ 1 then
      (secondTick pulled s).proposal = .empty ∧
        (∀ p, ((secondTick pulled s).port p).notices.flags.getLsbD 3 = true ∧
          ((secondTick pulled s).port p).notices.settings.getLsbD 2 = true) ∧
        (s.testGoesOn → s.store.queue = [] → s.store.loss = 0 →
          s.eventRecord .station (.proposalEnded s.number cause) ∈ (secondTick pulled s).store.queue)
    else (secondTick pulled s).proposal = next := by
  split
  · next hleft =>
    rw [if_pos hleft] at h
    exact secondTick_expires hu h
  · next hleft =>
    rw [if_neg hleft] at h
    have hproposal : (tickCounted pulled s).st.proposal = next := by
      rw [h]
      rfl
    rw [secondTick_of_notClosing pulled (by rw [hproposal]; exact hnext), Work.proposal_endSecond_join, hproposal]

theorem exec_draftExpiry {s : State} {o : PortId} {items : List Item} {left : Nat} (pulled : Bool)
    (hp : s.proposal = .draft o items left) (hleft : left ≤ 1) :
    exec (.draftExpiry pulled) s = .next (secondTick pulled s) := by
  have hdue : expiresDraft s = true := by
    rw [expiresDraft, hp]
    exact decide_eq_true hleft
  change Host.Outcome.next (if expiresDraft s = true then secondTick pulled s else s) = _
  rw [if_pos hdue]

theorem exec_confirmExpiry {s : State} {o : PortId} {items : List Item} {left : Nat} (pulled : Bool)
    (hp : s.proposal = .posted o items left) (hleft : left ≤ 1) :
    exec (.confirmExpiry pulled) s = .next (secondTick pulled s) := by
  have hdue : expiresConfirm s = true := by
    rw [expiresConfirm, hp]
    exact decide_eq_true hleft
  change Host.Outcome.next (if expiresConfirm s = true then secondTick pulled s else s) = _
  rw [if_pos hdue]

/-- Settles O21: the stage that counts the windows either counts one down or ends the proposal. -/
theorem proposalWindows : Obligations.ProposalWindows := by
  intro s pulled owner items left
  refine ⟨fun hp => ⟨secondTick pulled s, rfl, ?_⟩, fun hp => ⟨secondTick pulled s, rfl, ?_⟩⟩
  · have hu : s.uncommitted := by rw [State.uncommitted, commits, hp]
    obtain ⟨hproposal, -, -⟩ := tickTested_frame pulled hu
    have hcounts := secondTick_counts hu (fun _ _ _ => by nofun) (Work.countWindows_of_draft (hproposal.trans hp))
    split
    · next hleft =>
      rw [if_pos hleft] at hcounts
      exact ⟨exec_draftExpiry pulled hp hleft, hcounts⟩
    · next hleft => rwa [if_neg hleft] at hcounts
  · have hu : s.uncommitted := by rw [State.uncommitted, commits, hp]
    obtain ⟨hproposal, -, -⟩ := tickTested_frame pulled hu
    have hcounts := secondTick_counts hu (fun _ _ _ => by nofun) (Work.countWindows_of_posted (hproposal.trans hp))
    split
    · next hleft =>
      rw [if_pos hleft] at hcounts
      exact ⟨exec_confirmExpiry pulled hp hleft, hcounts⟩
    · next hleft => rwa [if_neg hleft] at hcounts

end Sys2Proof.Machine
end

section
/-! ## The commit of CLEAR and PARTITION (R137, R138, R145, R154) -/

namespace Sys2Proof.Machine

open State (Tells)

/-! ### What a second tick keeps of the store and of the ports -/

/-- Of a port, `t` holds all but the notices, among which no REPLY detail is new; of the store, who is granted it. -/
structure State.Spares (s t : State) : Prop where
  turn : t.store.turn = s.store.turn
  access : t.store.access = s.store.access
  port : ∀ p, ∃ n, t.port p = { s.port p with notices := n } ∧ n.reply = (s.port p).notices.reply

namespace State.Spares

theorem of_tells {s t : State} (h : s.Tells t) : s.Spares t := ⟨by rw [h.store], by rw [h.store], h.port⟩

theorem trans {s t u : State} (h : s.Spares t) (g : t.Spares u) : s.Spares u where
  turn := g.turn.trans h.turn
  access := g.access.trans h.access
  port p := by
    obtain ⟨n, hn, hr⟩ := h.port p
    obtain ⟨m, hm, hq⟩ := g.port p
    exact ⟨m, by rw [hm, hn], by rw [hq, hn, hr]⟩

theorem of_join (w : Work) : w.st.Spares w.join :=
  ⟨w.join_store_turn, w.join_store_access, fun p => ⟨(w.st.port p).notices, rfl, rfl⟩⟩

end State.Spares

theorem State.closeCommit_spares (s : State) : s.Spares s.closeCommit := by
  unfold State.closeCommit
  split
  · next owner confirmer items _ =>
    have htold : s.Tells ({ s with generation := s.generation + 1, proposal := .empty }.notifyAll (·.addSettings 3)) :=
      .of_told (f := (·.addSettings 3)) rfl rfl fun _ => rfl
    exact (State.Spares.of_tells htold).trans (.of_join (Work.event (Work.start _) ..))
  all_goals exact .of_tells (.refl s)

/-- After its commit, a second tick grants the store to nobody, and tells a port of no reply. -/
theorem secondTick_spares (pulled : Bool) (s : State) : s.commitStages.Spares (secondTick pulled s) := by
  have hcounted := State.Spares.of_tells (tickCounted_tells pulled s)
  unfold secondTick
  generalize tickCounted pulled s = w at hcounted ⊢
  exact ((hcounted.trans (.of_join w)).trans w.join.closeCommit_spares).trans (.of_tells (.of_parts rfl rfl))

/-! ### Items that clear -/

/-- The items CLEAR and PARTITION. -/
def Item.clears (i : Item) : Prop := i = .clear ∨ ∃ sizes, i = .partition sizes

/-- Items of which none is of a kind that a stage looks for. -/
theorem any_of_clears {items : List Item} (h : ∀ i ∈ items, i.clears) {f : Item → Bool} (hclear : f .clear = false)
    (hpartition : ∀ sizes, f (.partition sizes) = false) : items.any f = false := by
  rw [List.any_eq_false]
  intro i hi
  rcases h i hi with rfl | ⟨sizes, rfl⟩
  · simp [hclear]
  · simp [hpartition]

theorem findSome_of_clears {β : Type} {items : List Item} (h : ∀ i ∈ items, i.clears) {f : Item → Option β}
    (hclear : f .clear = none) (hpartition : ∀ sizes, f (.partition sizes) = none) : items.findSome? f = none := by
  rw [List.findSome?_eq_none_iff]
  intro i hi
  rcases h i hi with rfl | ⟨sizes, rfl⟩
  · exact hclear
  · exact hpartition sizes

/-- Such items reach the partition alone of the settings. -/
theorem Settings.applyAll_of_clears {items : List Item} (h : ∀ i ∈ items, i.clears) (v : Settings) :
    ∃ sizes, v.applyAll items = { v with partition := sizes } := by
  induction items generalizing v with
  | nil => exact ⟨v.partition, rfl⟩
  | cons i l ih =>
    obtain ⟨sizes, hl⟩ := ih (fun j hj => h j (List.mem_cons_of_mem i hj)) (v.apply i)
    refine ⟨sizes, hl.trans ?_⟩
    rcases h i List.mem_cons_self with rfl | ⟨_, rfl⟩
    · rfl
    · rfl

/-- With one PARTITION item at most, its sizes are in force (R138). -/
theorem Settings.applyAll_partition_of_mem {items : List Item} (hnames : (items.map Item.name).Nodup)
    {sizes : Tab 8 Nat} (h : .partition sizes ∈ items) (v : Settings) : (v.applyAll items).partition = sizes := by
  induction items generalizing v with
  | nil => cases h
  | cons i l ih =>
    rw [List.map_cons, List.nodup_cons] at hnames
    obtain ⟨hname, hnames⟩ := hnames
    rcases List.mem_cons.mp h with rfl | hl
    · refine Settings.applyAll_partition (fun other hm => hname ?_) (v.apply (.partition sizes))
      exact List.mem_map.mpr ⟨_, hm, rfl⟩
    · exact ih hnames hl (v.apply i)

/-- Stage 4 of such a commit (R137, R138). -/
theorem State.commitStore_of_clears (s : State) {items : List Item} {cause : ClearCause}
    (h : (∃ sizes, .partition sizes ∈ items) ∧ cause = .partition ∨
      (∀ sizes, .partition sizes ∉ items) ∧ .clear ∈ items ∧ cause = .clear) :
    s.commitStore items = s.clearStore cause := by
  unfold State.commitStore
  rcases h with ⟨⟨sizes, hm⟩, rfl⟩ | ⟨hnone, hm, rfl⟩
  · rw [if_pos (List.any_eq_true.mpr ⟨_, hm, rfl⟩)]
  · rw [if_neg, if_pos (List.any_eq_true.mpr ⟨_, hm, rfl⟩)]
    rw [Bool.not_eq_true, List.any_eq_false]
    intro i hi
    cases i with
    | partition sizes => exact absurd hi (hnone sizes)
    | _ => exact Bool.false_ne_true

/-- Such items put the partition in force and clear the store, and do nothing more. -/
theorem State.applyItems_of_clears (s : State) {items : List Item} {cause : ClearCause} (hitems : ∀ i ∈ items, i.clears)
    (hcause : (∃ sizes, .partition sizes ∈ items) ∧ cause = .partition ∨
      (∀ sizes, .partition sizes ∉ items) ∧ .clear ∈ items ∧ cause = .clear) :
    s.applyItems items = ({ s with settings := s.settings.applyAll items } : State).clearStore cause := by
  obtain ⟨sizes, hsettings⟩ := Settings.applyAll_of_clears hitems s.settings
  have hchannels : s.commitChannels items = { s with settings := s.settings.applyAll items } :=
    State.commitChannels_of_quiet (by rw [hsettings]) (fun c => any_of_clears hitems rfl fun _ => rfl) (by rw [hsettings])
  have hdivider : s.settings.divider = (s.settings.applyAll items).divider := by rw [hsettings]
  have htest : testItem items = none := findSome_of_clears hitems rfl fun _ => rfl
  have hstation : ∀ u : State, u.commitStation items = u := fun u => if_neg fun h => by
    rw [any_of_clears hitems rfl fun _ => rfl] at h
    exact Bool.false_ne_true h.2
  have hlines : ∀ u : State, u.commitLines items = u := fun u => by
    refine congrArg (fun lines => { u with lines }) (tab_ext fun l => ?_)
    rw [nth_tab, any_of_clears hitems rfl fun _ => rfl]
    rfl
  have houtputs : ∀ u : State, u.commitOutputs items = u := fun u => by
    refine congrArg (fun outputs => { u with outputs }) (tab_ext fun o => ?_)
    rw [nth_tab, any_of_clears hitems rfl fun _ => rfl]
    rfl
  rw [State.applyItems, hchannels, State.commitBlocks_of_noLink _ _ fun n => findSome_of_clears hitems rfl fun _ => rfl,
    State.commitDivider_of_same hdivider, hstation, hlines, houtputs, State.commitStore_of_clears _ hcause,
    State.commitTest, htest]

/-! ### The tick of such a commit -/

theorem Slot.ring_isSome_iff {sl : Slot} : sl.ring.isSome = true ↔ sl ≠ .idle := by
  cases sl <;> simp [Slot.ring]

/-- What a clear does to a port, by the state of its slot (R145, R154). -/
theorem Port.cleared_eq (q : Port) (rings : Tab 9 Ring) :
    { q.cleared rings with notices := q.notices } =
        { q with
          cursors := tab fun r => { cursor := (nth rings r).next, skip := 0, armed := true }
          slot := .idle
          timer := if q.slot = .idle then q.timer else 0
          discarded := if q.slot = .idle then q.discarded else true } ∧
      (q.slot ≠ .idle → (q.cleared rings).notices = q.notices.addReply 2) := by
  unfold Port.cleared
  by_cases h : q.slot = .idle
  · have hring : ¬ q.slot.ring.isSome = true := by simp [h, Slot.ring]
    rw [if_neg hring, if_pos h, if_pos h]
    refine ⟨?_, fun hn => absurd h hn⟩
    rw [Port.clearCursors, ← h]
  · rw [if_pos (Slot.ring_isSome_iff.mpr h), if_neg h, if_neg h]
    exact ⟨rfl, fun _ => rfl⟩

theorem State.clearStore_port (s : State) (cause : ClearCause) (p : PortId) :
    (s.clearStore cause).port p = (s.port p).cleared (tab fun r => (nth s.store.rings r).emptied) := by
  rw [State.clearStore_eq]
  exact Ports.get_all s.ports _ p

/-- The REPLY notice of a cause, as it stands once added. -/
theorem Notices.addReply_bits (a : Notices) (cause : Fin 3) :
    (a.addReply cause).flags.getLsbD 6 = true ∧ (a.addReply cause).reply.getLsbD cause.val = true :=
  ⟨getLsbD_or_right rfl, getLsbD_or_right (getLsbD_bitOf 8 cause (by omega))⟩

/-- Settles O32: the items come to one clear, and the second that follows reaches the store through its records alone. -/
theorem storeCleared : Obligations.StoreCleared := by
  intro s pulled owner confirmer items cause hp hnames hitems hcause
  obtain ⟨sizes, hsettings⟩ := Settings.applyAll_of_clears hitems s.settings
  have happlied := s.applyItems_of_clears hitems hcause
  have hlike : (s.applyItems items).like { s with settings := s.settings.applyAll items } := by
    obtain ⟨_, _, hclear⟩ := ({ s with settings := s.settings.applyAll items } : State).clearStore_frame cause
    rw [happlied, hclear]
    exact ⟨_, _, _, _, _, rfl⟩
  obtain ⟨hexec, w, hw, hagrees⟩ := State.commit_leaves pulled hp hlike
  have hstages : s.commitStages = ({ s with settings := s.settings.applyAll items } : State).clearStore cause :=
    (State.commitStages_of_committing hp).trans happlied
  have hcleared : ∀ p, s.commitStages.port p = (s.port p).cleared (tab fun r => (nth s.store.rings r).emptied) := fun p => by
    rw [hstages]
    exact State.clearStore_port _ cause p
  have hspares := secondTick_spares pulled s
  have hrings := (secondTick_retains pulled s).rings
  have hgrows := secondTick_grows pulled s
  have hturn := hspares.turn
  have haccess := hspares.access
  have hqueued := hgrows.queue
  rw [hstages, State.clearStore_eq] at hturn haccess hrings hqueued
  refine ⟨_, w, _, hexec, hw, hagrees, rfl, ?_, fun sizes hm => Settings.applyAll_partition_of_mem hnames hm _,
    fun hc => ?_, fun r => ?_, hturn, haccess.trans ?_, ?_, fun p => ?_⟩
  · dsimp only
    rw [hsettings]
  · rcases hcause with ⟨-, rfl⟩ | ⟨hnone, -, -⟩
    · cases hc
    · exact Settings.applyAll_partition hnone _
  · rw [hrings]
    exact nth_tab _ r
  · dsimp only
    rw [Store.placeCleared_access]
    cases s.store.access with
    | idle => rfl
    | write q => rfl
    | copy p r =>
      refine congrArg (Access.copy p) ?_
      by_cases h : (s.port p).slot = .idle
      · rw [if_pos h, if_neg]
        exact fun hs => Slot.ring_isSome_iff.mp hs h
      · rw [if_neg h, if_pos]
        exact Slot.ring_isSome_iff.mpr h
  · obtain ⟨later, hqueue⟩ := hqueued
    exact ⟨later, hqueue.symm⟩
  · obtain ⟨n, hport, hreply⟩ := hspares.port p
    obtain ⟨hflags, -, -⟩ := hgrows.told p
    obtain ⟨hparts, hnotices⟩ := (s.port p).cleared_eq (tab fun r => (nth s.store.rings r).emptied)
    rw [hcleared] at hport hreply hflags
    refine ⟨?_, fun hslot => ?_⟩
    · rw [hport]
      refine hparts.trans ?_
      simp only [nth_tab]
      rfl
    · obtain ⟨hf, hr⟩ := (s.port p).notices.addReply_bits 2
      rw [hnotices hslot] at hflags hreply
      rw [hport]
      rw [hport] at hflags
      exact ⟨hflags _ hf, by rw [hreply]; exact hr⟩

end Sys2Proof.Machine
end

section
/-! ## The open intervals at a second tick (R123 to R127) -/

namespace Sys2Proof.Machine

open Work (Hands)

/-! ### One second in one interval -/

/-- The interval that a second joins: an empty one where the storm class has changed (R125). -/
def Interval.joined (v : Interval) (cls : StormClass) : Interval :=
  if v.first.any fun f => f.1 ≠ cls then .opened else v

/-- The class of an interval is that of the second that joins it (R125). -/
theorem Interval.joined_class (v : Interval) (cls : StormClass) (stamp : Time) :
    ((v.joined cls).first.getD (cls, stamp)).1 = cls := by
  unfold Interval.joined
  split
  · rfl
  · next h =>
    cases hf : v.first with
    | none => rfl
    | some f => simpa [hf] using h

/-- The length in force for the interval that a second has joined (R124). -/
theorem RecordingItem.lengthFor_joined (r : RecordingItem) (v : Interval) (stamp : Time) (st : StormState) (ch : Channel)
    (d : Option Int) :
    r.lengthFor ((v.joined st.class).add stamp st ch d) = if st.class = .quiet then r.normal else r.storm := by
  have hclass := v.joined_class st.class stamp
  unfold RecordingItem.lengthFor Interval.add
  dsimp only
  generalize (v.joined st.class).first.getD (st.class, stamp) = f at hclass ⊢
  obtain ⟨cls, start⟩ := f
  dsimp only at hclass
  rw [← hclass]
  cases cls <;> rfl

/-- A second of a channel, written out (R123). -/
theorem Interval.add_eq (v : Interval) (stamp : Time) (st : StormState) (ch : Channel) (d : Option Int) :
    v.add stamp st ch d =
      { first := some (v.first.getD (st.class, stamp))
        length := v.length + 1
        dataSeconds := v.dataSeconds + (if d.isSome then 1 else 0)
        sumD := v.sumD + d.getD 0
        dRange := d.elim v.dRange fun d => some (v.dRange.elim (d, d) fun r => (min r.1 d, max r.2 d))
        peakE := max v.peakE (ch.eAcc / 256)
        last := some (roundDiv ch.bAcc 65536, ch.x)
        flags :=
          v.flags ||| (if st = .quiet then 0#16 else 0x01#16) ||| (if ch.state = .test then 0x02#16 else 0#16) |||
            (if ch.state = .stale then 0x04#16 else 0#16) ||| (if ch.state = .learning then 0x08#16 else 0#16) |||
            (if ch.conds.excursion = true then 0x10#16 else 0#16) |||
            (if ch.conds.warn = true then 0x20#16 else 0#16) |||
            (if ch.conds.alarm = true then 0x40#16 else 0#16) |||
            if ch.conds.exposure = true then 0x80#16 else 0#16
        timeSet := v.timeSet } := by
  unfold Interval.add
  congr 1
  · cases d with
    | none => rfl
    | some d => cases v.dRange <;> rfl
  · unfold secondFlags
    simp only [BitVec.or_assoc]
    rfl

/-! ### One channel -/

/-- An interval record of a channel, as it is handed over. -/
def Interval.handed (v : Interval) (c : Fin 8) : Handed :=
  ⟨.interval c, { ring := c.castSucc, record := .interval (v.record c false) }⟩

theorem Work.closeInterval_handed_mem {w : Work} {c : Fin 8} {v : Interval} (hv : nth w.st.intervals c = some v)
    (hlength : v.length ≠ 0) (hring : w.st.settings.ringSize c.castSucc ≠ 0) :
    v.handed c ∈ (w.closeInterval c false).out := by
  rw [Work.closeInterval_out false hv hlength hring, ← Interval.record_eq]
  exact List.mem_append_right _ List.mem_cons_self

/-- A channel's open interval, its second added, and whether the boundary test closes it (R123, R124). -/
structure Work.Gathers (w w' : Work) (c : Fin 8) (v next : Interval) (closes : Prop) : Prop where
  closed : closes → nth w'.st.intervals c = some .opened
  goesOn : ¬ closes → nth w'.st.intervals c = some next
  changed : w.st.settings.ringSize c.castSucc ≠ 0 → v.first.any (fun f => f.1 ≠ w.st.storm.state.class) = true →
    v.length ≠ 0 → v.handed c ∈ w'.out
  full : w.st.settings.ringSize c.castSucc ≠ 0 → closes → next.handed c ∈ w'.out

/-- What the Record Writer does with a channel's second. -/
theorem Work.addSecond_gathers {w : Work} {c : Fin 8} {v : Interval} (hv : nth w.st.intervals c = some v)
    (d : Option Int) :
    let next := (v.joined w.st.storm.state.class).add w.st.timebase.time w.st.storm.state (nth w.st.channels c) d
    w.Gathers (w.addSecond c d) c v next
      ((w.st.timebase.time + 1).toNat % w.st.settings.recording.lengthFor next = 0) := by
  intro next
  have hstart : ∃ u : Work,
      (if v.first.any (fun f => f.1 ≠ w.st.storm.state.class) then w.closeInterval c false else w) = u ∧
      u.st = { w.st with intervals := put w.st.intervals c (some (v.joined w.st.storm.state.class)) } ∧
      (w.st.settings.ringSize c.castSucc ≠ 0 → v.first.any (fun f => f.1 ≠ w.st.storm.state.class) = true →
        v.length ≠ 0 → v.handed c ∈ u.out) := by
    refine ⟨_, rfl, ?_⟩
    unfold Interval.joined
    by_cases h : v.first.any (fun f => f.1 ≠ w.st.storm.state.class) = true
    · rw [if_pos h, if_pos h, w.closeInterval_st, hv]
      exact ⟨rfl, fun hring _ hlength => Work.closeInterval_handed_mem hv hlength hring⟩
    · rw [if_neg h, if_neg h, ← hv, put_nth]
      exact ⟨rfl, fun _ h' => absurd h' h⟩
  obtain ⟨u, hu, hst, hchanged⟩ := hstart
  have hadd : w.addSecond c d =
      if (w.st.timebase.time + 1).toNat % w.st.settings.recording.lengthFor next = 0 then
        (u.map fun s => { s with intervals := put s.intervals c (some next) }).closeInterval c false
      else u.map fun s => { s with intervals := put s.intervals c (some next) } := by
    unfold Work.addSecond
    rw [hv]
    dsimp only
    rw [hu, hst]
    dsimp only
    rw [nth_put_self, Option.getD_some, Work.map_st, hst]
  have hnext : nth (u.map fun s => { s with intervals := put s.intervals c (some next) }).st.intervals c = some next :=
    nth_put_self ..
  have hsettings : (u.map fun s => { s with intervals := put s.intervals c (some next) }).st.settings = w.st.settings := by
    rw [Work.map_st, hst]
  rw [hadd]
  refine ⟨fun h => ?_, fun h => ?_, fun hring hany hlength => ?_, fun hring h => ?_⟩
  · rw [if_pos h, Work.closeInterval_st, nth_put_self, hnext]
    rfl
  · rw [if_neg h]
    exact hnext
  · have hmem := hchanged hring hany hlength
    split
    · exact (Work.hands_closeInterval _ c false).mem hmem
    · exact hmem
  · rw [if_pos h]
    exact Work.closeInterval_handed_mem hnext (Nat.succ_ne_zero _) (by rw [hsettings]; exact hring)

/-- The deviation of a channel's present second, which the Record Writer takes (R123). -/
def Channel.presentD (ch : Channel) : Option Int := (ch.latest.bind (·.value)).map (·.d)

/-- What the results of a channel's second make of its open interval. -/
theorem Work.handResults_gathers {w : Work} {c : Fin 8} {v : Interval} (before : Tab 8 Channel)
    (hlive : (nth w.st.channels c).state ≠ .disabled) (hv : nth w.st.intervals c = some v) :
    let ch := nth w.st.channels c
    let next := (v.joined w.st.storm.state.class).add w.st.timebase.time w.st.storm.state ch ch.presentD
    w.Gathers (w.handResults before c) c v next
      ((w.st.timebase.time + 1).toNat % w.st.settings.recording.lengthFor next = 0) := by
  have hready : ∃ x : Work, w.handResults before c = x.addSecond c (nth w.st.channels c).presentD ∧
      ∃ a p, x.st = { w.st with alarms := a, ports := p } := by
    refine ⟨_, if_neg hlive, ?_⟩
    obtain ⟨a, p, hst⟩ := w.handChanges_frame c (nth before c) (nth w.st.channels c)
    generalize w.handChanges c (nth before c) (nth w.st.channels c) = u at hst ⊢
    obtain ⟨a', hpeaks⟩ := u.st.raisePeaks_frame c (nth before c) (nth w.st.channels c)
    exact ⟨a', p, by rw [Work.map_st, hpeaks, hst]⟩
  obtain ⟨x, hx, a, p, hst⟩ := hready
  have hgathers := Work.addSecond_gathers (w := x) (v := v) (c := c) (by rw [hst]; exact hv) (nth w.st.channels c).presentD
  rw [← hx] at hgathers
  obtain ⟨hclosed, hgoesOn, hchanged, hfull⟩ := hgathers
  rw [hst] at hclosed hgoesOn hchanged hfull
  exact ⟨hclosed, hgoesOn, hchanged, hfull⟩

/-! ### The tick -/

/-- The turn of one channel among the results: no other turn reaches its interval, and what it hands over stands. -/
theorem Work.handAll_gathers {w : Work} {c : Fin 8} {v : Interval} (before : Tab 8 Channel)
    (hlive : (nth w.st.channels c).state ≠ .disabled) (hv : nth w.st.intervals c = some v) :
    let ch := nth w.st.channels c
    let next := (v.joined w.st.storm.state.class).add w.st.timebase.time w.st.storm.state ch ch.presentD
    w.Gathers (w.forEach (Work.handResults before)) c v next
      ((w.st.timebase.time + 1).toNat % w.st.settings.recording.lengthFor next = 0) := by
  intro ch next
  obtain ⟨m, x, ⟨hch, hset, hstorm, htime⟩, hbefore, hafter, hands⟩ := Work.foldl_turn
    (f := fun w c => w.handResults before c)
    (fun x => x.st.channels = w.st.channels ∧ x.st.settings = w.st.settings ∧ x.st.storm = w.st.storm ∧
      x.st.timebase = w.st.timebase)
    (fun x c => nth x.st.intervals c) (fun x c => x.hands_handResults before c)
    (fun x c h => by
      obtain ⟨_, _, _, hst⟩ := x.handResults_frame before c
      rwa [hst])
    (fun x i j _ hj => by
      obtain ⟨_, _, _, hst, -⟩ := x.handResults_local before i
      rw [hst]
      exact nth_put_ne _ _ (Ne.symm hj))
    (List.nodup_finRange 8) (List.mem_finRange c) (w := w) ⟨rfl, rfl, rfl, rfl⟩
  unfold Work.forEach
  generalize (List.finRange 8).foldl (fun w c => w.handResults before c) w = y at hafter hands ⊢
  have hgathers := Work.handResults_gathers (w := x) before (by rw [hch]; exact hlive) (hbefore.trans hv)
  rw [hch, hstorm, htime, hset] at hgathers
  obtain ⟨hclosed, hgoesOn, hchanged, hfull⟩ := hgathers
  rw [hset, hstorm] at hchanged
  rw [hset] at hfull
  exact ⟨fun h => hafter.trans (hclosed h), fun h => hafter.trans (hgoesOn h),
    fun hring hany hlength => hands.mem (hchanged hring hany hlength), fun hring h => hands.mem (hfull hring h)⟩

/-- An interval record joins a queue that has room for all the records of the step. -/
theorem Store.foldl_join_mem_interval {l : List QueuedRecord} {st : Store} (hroom : st.queue.length + l.length ≤ 64)
    {q : QueuedRecord} {v : IntervalRecord} (hq : q.record = .interval v) (hmem : q ∈ l) :
    q ∈ (l.foldl Store.join st).queue := by
  have hlater : ∀ (l : List QueuedRecord) (st : Store), st.queue <+: (l.foldl Store.join st).queue := fun l st =>
    Store.foldl_join (fun x => st.queue <+: x.queue) (fun x q hx => hx.trans (x.join_prefix q)) l st (List.prefix_refl _)
  induction l generalizing st with
  | nil => cases hmem
  | cons a l ih =>
    rw [List.length_cons] at hroom
    rcases List.mem_cons.mp hmem with rfl | hl
    · refine (hlater l _).subset ?_
      rw [Store.join_interval (by omega) hq]
      exact List.mem_append_right _ List.mem_cons_self
    · refine ih ?_ hl
      rcases st.join_cases a with ⟨hfull, -⟩ | ⟨_, _, _, e⟩ | ⟨_, _, e⟩
      · omega
      all_goals
        rw [e]
        simp only [List.length_append, List.length_singleton]
        omega

theorem Work.mem_join_interval {w : Work} {c : Fin 8} {v : Interval} (h : v.handed c ∈ w.out)
    (hroom : w.st.store.queue.length + w.out.length ≤ 64) : (v.handed c).queued ∈ w.join.store.queue := by
  obtain ⟨l, hperm, hjoin⟩ := w.join_store
  have hlength : l.length = w.out.length := by rw [hperm.length_eq, List.length_map]
  rw [hjoin]
  exact Store.foldl_join_mem_interval (by omega) rfl (hperm.mem_iff.mpr (List.mem_map.mpr ⟨_, h, rfl⟩))

/-- A test that goes on reaches no open interval at its count. -/
theorem Work.countTest_intervals {w : Work} (h : w.st.testGoesOn) : w.countTest.st.intervals = w.st.intervals := by
  rcases w.countTest_cases with ⟨-, e⟩ | ⟨-, -, e⟩ | ⟨hplan, hremaining, -⟩
  · rw [e]
  · rw [e]
    rfl
  · rcases h with h | h
    · rw [h] at hplan
      cases hplan
    · omega

/-- The lines and the outputs reach no open interval and hand nothing over. -/
theorem tickHanded_results (pulled : Bool) (s : State) :
    (tickHanded pulled s).st.intervals =
        ((tickMoved pulled s).forEach (Work.handResults (tickInputs s).st.channels)).st.intervals ∧
      (tickHanded pulled s).out = ((tickMoved pulled s).forEach (Work.handResults (tickInputs s).st.channels)).out := by
  unfold tickHanded
  generalize (tickMoved pulled s).forEach (Work.handResults (tickInputs s).st.channels) = w
  exact ⟨rfl, rfl⟩

theorem secondTick_intervals (pulled : Bool) (s : State) :
    (secondTick pulled s).intervals = (tickHanded pulled s).countTest.st.intervals := by
  obtain ⟨_, _, _, _, _, _, h⟩ := secondTick_of_counted pulled s
  rw [h]

/-- What a second tick makes of the open interval of a channel that is not DISABLED. -/
theorem secondTick_gathers (pulled : Bool) {s : State} {c : Fin 8} {v : Interval} (hu : s.uncommitted)
    (ht : s.testGoesOn) (hlive : (nth s.channels c).state ≠ .disabled) (hv : nth s.intervals c = some v) :
    let t := secondTick pulled s
    let st := t.storm.state
    let ch := nth t.channels c
    let next := (v.joined st.class).add s.timebase.time st ch ch.presentD
    let closes := (s.timebase.time + 1).toNat % s.settings.recording.lengthFor next = 0
    nth t.intervals c = some (if closes then .opened else next) ∧
      (s.store.queue = [] → s.settings.ringSize c.castSucc ≠ 0 →
        (v.first.any (fun f => f.1 ≠ st.class) = true → v.length ≠ 0 → (v.handed c).queued ∈ t.store.queue) ∧
        (closes → (next.handed c).queued ∈ t.store.queue)) := by
  intro t st ch next closes
  obtain ⟨_, _, _, _, hframe⟩ := tickMoved_frame pulled hu
  have hsettings : (tickMoved pulled s).st.settings = s.settings := by rw [hframe]
  have htime : (tickMoved pulled s).st.timebase = s.timebase := by rw [hframe]
  have hopen : nth (tickMoved pulled s).st.intervals c = some v := by rw [hframe]; exact hv
  have hchannels : (tickMoved pulled s).st.channels = t.channels := (secondTick_channels pulled hu ht).symm
  have hstorm : (tickMoved pulled s).st.storm = t.storm := by
    obtain ⟨h, -⟩ := secondTick_fields pulled s
    rw [h, tickMoved, Work.map_st, State.moveChannels_storm]
  have hgathers := Work.handAll_gathers (w := tickMoved pulled s) (tickInputs s).st.channels
    (fun h => hlive ((tickMoved_state pulled hu c).1.mp h)) hopen
  rw [hchannels, hstorm, htime, hsettings] at hgathers
  obtain ⟨hclosed, hgoesOn, hchanged, hfull⟩ := hgathers
  rw [hsettings, hstorm] at hchanged
  rw [hsettings] at hfull
  obtain ⟨hresults, hout⟩ := tickHanded_results pulled s
  have hintervals : t.intervals =
      ((tickMoved pulled s).forEach (Work.handResults (tickInputs s).st.channels)).st.intervals := by
    change (secondTick pulled s).intervals = _
    rw [secondTick_intervals, Work.countTest_intervals (tickHanded_testGoesOn pulled hu ht), hresults]
  have hlater : Hands 1 (tickHanded pulled s) (tickCounted pulled s) :=
    ((Work.hands_countTest_of_goesOn (tickHanded_testGoesOn pulled hu ht)).trans (Work.hands_countWindows _)).mono
      (Nat.le_refl 1)
  have hands := hands_tickCounted_of_goesOn pulled hu ht
  have hqueued : ∀ {x : Interval}, s.store.queue = [] →
      x.handed c ∈ ((tickMoved pulled s).forEach (Work.handResults (tickInputs s).st.channels)).out →
      (x.handed c).queued ∈ t.store.queue := fun {x} hqueue hx => by
    have hstore : (tickCounted pulled s).st.store = s.store := hands.store
    refine (tickCounted_grows pulled s).queue.subset (Work.mem_join_interval (hlater.mem (by rw [hout]; exact hx)) ?_)
    rw [hstore, hqueue]
    exact (Nat.zero_add _).le.trans (hands.length_le.trans (by decide))
  refine ⟨?_, fun hqueue hring => ⟨fun hany hlength => hqueued hqueue (hchanged hring hany hlength),
    fun h => hqueued hqueue (hfull hring h)⟩⟩
  rw [hintervals]
  split
  · next h => exact hclosed h
  · next h => exact hgoesOn h

/-- Settles O28: the turn of the channel in stage 9 of the tick. -/
theorem intervalGathers : Obligations.IntervalGathers := by
  intro s pulled c v hu ht hlive hv
  refine ⟨secondTick pulled s, rfl, ?_⟩
  obtain ⟨hinterval, hrecords⟩ := secondTick_gathers pulled hu ht hlive hv
  generalize secondTick pulled s = t at hinterval hrecords ⊢
  have hclass : t.storm.state.class = if t.storm.state = .quiet then StormClass.quiet else .storm := by
    cases t.storm.state <;> rfl
  rw [RecordingItem.lengthFor_joined, Interval.add_eq] at hinterval hrecords
  simp only [hclass] at hinterval hrecords
  exact ⟨hinterval, hrecords⟩

end Sys2Proof.Machine
end

section
/-! ## SEEK and REWIND (R143, R144) -/

namespace Sys2Proof.Machine

/-! ### A cursor that is moved -/

theorem State.updPort_congr (s : State) {p : PortId} {f g : Port → Port} (h : f (s.port p) = g (s.port p)) :
    s.updPort p f = s.updPort p g := by
  unfold State.updPort
  congr 1
  refine Ports.ext_get fun q => ?_
  by_cases hq : p = q
  · subst hq
    rw [Ports.get_upd_self, Ports.get_upd_self]
    exact h
  · rw [Ports.get_upd_ne _ _ hq, Ports.get_upd_ne _ _ hq]

/-- A cursor movement that leaves the half-unread mark to the judgement (R142). -/
theorem State.moveCursor_eq (s : State) {p : PortId} {r : Fin 9} {f : Cursor → Cursor} {place skip : Nat}
    (h : f (nth (s.port p).cursors r) = { cursor := place, skip, armed := (nth (s.port p).cursors r).armed }) :
    s.moveCursor p r f =
      s.updPort p fun q => q.movedTo r place skip (s.settings.ringSize r) (nth s.store.rings r).next := by
  refine s.updPort_congr ?_
  rw [Port.judgeHalf_eq, upd, h, nth_put_self]
  exact Port.movedTo_of_put _ r place skip place skip _ _

/-! ### The requests -/

section

variable {s : State} {p : PortId} {code x : Byte} {r : Fin 9} {f : Ring → Nat}

theorem State.placeCursor_of_outside (hx : 9 ≤ x.toNat) : s.placeCursor p code x f = (s, bare .badArgument code) := by
  rw [State.placeCursor, nameOf_of_le hx]

theorem State.placeCursor_of_busy (hr : x.toNat = r.val) (hslot : (s.port p).slot.ring = some r) :
    s.placeCursor p code x f = (s, bare .busy code) := by
  rw [State.placeCursor, nameOf_of_lt hr]
  exact if_pos hslot

theorem State.placeCursor_of_free (hr : x.toNat = r.val) (hslot : (s.port p).slot.ring ≠ some r) :
    s.placeCursor p code x f =
      let ring := nth s.store.rings r
      let skip := (nth (s.port p).cursors r).skip
      (s.updPort p fun q => q.movedTo r (f ring) skip (s.settings.ringSize r) ring.next,
        { status := .done, code, body := .place r (f ring) ring.oldest ring.next skip }) := by
  rw [State.placeCursor, nameOf_of_lt hr]
  dsimp only
  rw [if_neg hslot, s.moveCursor_eq rfl, State.placeReply, State.port_updPort_self, Port.movedTo, nth_put_self]
  rfl

end

/-- Settles O33: the three answers of the one operation behind SEEK and REWIND. -/
theorem cursorPlaced : Obligations.CursorPlaced := by
  intro s p x sequence hplain
  refine ⟨fun hx => ⟨?_, ?_⟩, fun r hr => ⟨fun hslot => ⟨?_, ?_⟩, fun hslot => ⟨?_, ?_⟩⟩⟩
  · exact State.next_of_take hplain (State.placeCursor_of_outside hx)
  · exact State.next_of_take hplain (State.placeCursor_of_outside hx)
  · exact State.next_of_take hplain (State.placeCursor_of_busy hr hslot)
  · exact State.next_of_take hplain (State.placeCursor_of_busy hr hslot)
  · exact State.next_of_take hplain (State.placeCursor_of_free hr hslot)
  · exact State.next_of_take hplain (State.placeCursor_of_free hr hslot)

end Sys2Proof.Machine
end

section
/-! ## The end of a transfer (R151, R166, R172) -/

namespace Sys2Proof.Machine

/-! ### The delivery of a batch (R151) -/

theorem State.deliver_of_batch {s : State} {p : PortId} {b : Batch} {k : Nat} (h : (s.port p).due.body = .batch b k) :
    s.deliver p =
      let ring := nth s.store.rings b.ring
      let cursor := (nth (s.port p).cursors b.ring).cursor
      let place := if b.records = [] then cursor
        else clampNat ring.oldest ring.next (max cursor (b.start + b.records.length))
      s.updPort p fun q => q.movedTo b.ring place 0 (s.settings.ringSize b.ring) ring.next := by
  rw [State.deliver, h]
  refine s.moveCursor_eq ?_
  simp only [List.isEmpty_iff]

/-! ### What a transfer's end leaves of its port -/

section

variable (s : State) (p : PortId) (due : Reply)

theorem State.port_answered : (s.answered p due).port p = { s.port p with transfer := .idle, due } :=
  s.port_updPort_self p _

theorem State.answered_others {q : PortId} (hq : q ≠ p) : (s.answered p due).port q = s.port q :=
  s.port_updPort_ne _ (Ne.symm hq)

theorem State.answered_store : (s.answered p due).store = s.store := rfl

theorem State.answered_proposal : (s.answered p due).proposal = s.proposal := rfl

/-- Of two answers the later stands. -/
theorem State.answered_answered (later : Reply) : (s.answered p due).answered p later = s.answered p later :=
  s.updPort_updPort p _ _

theorem State.answered_plain {reply : Reply} (h : ∀ b k, reply.body ≠ .batch b k) : (s.answered p reply).plain p := by
  rw [State.plain, State.port_answered]
  exact ⟨nofun, h⟩

/-- A change of a port that neither reads nor writes its transfer and its due reply. -/
theorem State.updPort_answered {f : Port → Port}
    (hf : ∀ q : Port, f { q with transfer := .idle, due } = { f q with transfer := .idle, due }) :
    (s.answered p due).updPort p f = (s.updPort p f).answered p due := by
  simp only [State.answered, State.updPort_updPort, hf]

end

/-! ### Steps that overlook the due reply -/

/-- A step's state with a port's transfer ended and another reply due. -/
def Work.answered (w : Work) (p : PortId) (due : Reply) : Work := w.map (·.answered p due)

section

variable (w : Work) (p : PortId) (due : Reply)

theorem Work.forEach_answered {n : Nat} {f : Fin n → Work → Work}
    (hf : ∀ i w, f i (Work.answered w p due) = (f i w).answered p due) :
    (w.answered p due).forEach f = (w.forEach f).answered p due :=
  List.foldl_hom (Work.answered · p due) fun x i => hf i x

theorem Work.join_answered : (w.answered p due).join = w.join.answered p due := rfl

theorem Work.event_answered (x : Sender) (source : EventSource) (body : EventBody) :
    (w.answered p due).event x source body = (w.event x source body).answered p due := rfl

theorem Work.moveEntry_answered (x : Sender) (i : Fin 32) (e : AlarmEntry) (value : Nat) (cause : AlarmCause) :
    (w.answered p due).moveEntry x i e value cause = (w.moveEntry x i e value cause).answered p due := by
  cases p <;> rfl

theorem Work.handCondition_answered (c : Fin 8) (k : AlarmKind) (was now : Bool) (value : Nat) (inTest : Bool) :
    (w.answered p due).handCondition c k was now value inTest =
      (w.handCondition c k was now value inTest).answered p due := by
  have halarms : (w.answered p due).st.alarms = w.st.alarms := rfl
  have hstamp : (w.answered p due).st.timebase = w.st.timebase := rfl
  have hpolicy : (w.answered p due).st.settings = w.st.settings := rfl
  simp only [Work.handCondition, halarms, hstamp, hpolicy, Work.moveEntry_answered]
  split_ifs <;> rfl

theorem Work.handChanges_answered (c : Fin 8) (old new : Channel) :
    (w.answered p due).handChanges c old new = (w.handChanges c old new).answered p due :=
  List.foldl_hom (Work.answered · p due) fun x k => x.handCondition_answered p due c k _ _ _ _

theorem Work.setChannel_answered (c : Fin 8) (new : Channel) :
    (w.answered p due).setChannel c new = (w.setChannel c new).answered p due :=
  (w.map fun s => { s with channels := put s.channels c new }).handChanges_answered p due c _ new

theorem Work.closeInterval_answered (c : Fin 8) (timeSet : Bool) :
    (w.answered p due).closeInterval c timeSet = (w.closeInterval c timeSet).answered p due := by
  have hintervals : (w.answered p due).st.intervals = w.st.intervals := rfl
  have hsettings : (w.answered p due).st.settings = w.st.settings := rfl
  unfold Work.closeInterval
  rw [hintervals, hsettings]
  split
  · rfl
  · dsimp only
    split <;> rfl

theorem Work.endTestOn_answered (c : Fin 8) :
    Work.endTestOn c (w.answered p due) = (Work.endTestOn c w).answered p due := by
  cases h : nth w.st.test.snapshots c with
  | none => rw [Work.endTestOn_of_none h, Work.endTestOn_of_none (w := w.answered p due) h]
  | some n =>
    have hrestored : (w.answered p due).setChannel c ((nth (w.answered p due).st.channels c).restore n) =
        (w.setChannel c ((nth w.st.channels c).restore n)).answered p due := w.setChannel_answered p due c _
    rw [Work.endTestOn_of_some h, Work.endTestOn_of_some (w := w.answered p due) h, hrestored]
    generalize w.setChannel c ((nth w.st.channels c).restore n) = x
    let u := x.map fun s => { s with test := { s.test with snapshots := put s.test.snapshots c none } }
    exact u.closeInterval_answered p due c false

theorem Work.endTest_answered (cause : TestCause) (source : EventSource) :
    (w.answered p due).endTest cause source = (w.endTest cause source).answered p due := by
  have htest : (w.answered p due).st.test = w.st.test := rfl
  unfold Work.endTest
  rw [htest]
  split
  · rfl
  · rw [w.forEach_answered p due fun c x => x.endTestOn_answered p due c]
    generalize w.forEach Work.endTestOn = x
    cases p <;> rfl

end

/-! ### Requests that overlook the due reply -/

/-- A request of port `p` that does the same whatever transfer carries it and whatever reply is due. -/
def Overlooks (p : PortId) (take : State → State × Reply) : Prop :=
  ∀ s due, take (s.answered p due) = ((take s).1.answered p due, (take s).2)

/-- Such a request is taken on the state that the delivery leaves (R151, R166). -/
theorem Overlooks.endTransfer {p : PortId} {take : State → State × Reply} (h : Overlooks p take) {s : State}
    (hs : (s.port p).transfer ≠ .ignored) {due : Reply} (hdue : ∀ b k, due.body ≠ .batch b k) :
    s.endTransfer p take = ((s.deliver p).answered p due).endTransfer p take := by
  rcases s.endTransfer_cases p take with ⟨hi, -⟩ | ⟨-, e⟩
  · exact absurd hi hs
  · rw [e, State.endTransfer_of_plain (State.answered_plain _ p hdue), h]
    exact (State.answered_answered _ p due _).symm

section

variable (p : PortId)

theorem overlooks_read {f : State → Reply} (h : ∀ s due, f (s.answered p due) = f s) :
    Overlooks p fun s => (s, f s) := fun s due => by
  dsimp only
  rw [h]

theorem overlooks_takeStation (solo : Bool) : Overlooks p fun s => (s.strapAt solo).takeStation := fun _ _ => rfl

theorem overlooks_takeAcknowledge (selector : Byte) (mask : BitVec 32) :
    Overlooks p fun s => s.takeAcknowledge p selector mask := by
  intro s due
  have hentries : ∀ changed,
      (Work.start (s.answered p due)).forEach (Work.acknowledge p changed) =
        ((Work.start s).forEach (Work.acknowledge p changed)).answered p due := fun changed =>
    Work.forEach_answered (Work.start s) p due fun i w => by
      unfold Work.acknowledge
      split
      · exact w.moveEntry_answered p due _ _ _ _ _
      · rfl
  have hnamed : ∀ named, (s.answered p due).acknowledgeable named = s.acknowledgeable named := fun _ => rfl
  unfold State.takeAcknowledge
  cases namedEntries selector mask with
  | none => rfl
  | some named =>
    simp only [hnamed, hentries]
    split <;> rfl

theorem overlooks_takeSetTime (time : Time) : Overlooks p fun s => s.takeSetTime p time := by
  intro s due
  have hstart :
      Work.start ({ s.answered p due with timebase := { s.timebase with time } }.notifyOthers p (·.addTime p)) =
        (Work.start ({ s with timebase := { s.timebase with time } }.notifyOthers p (·.addTime p))).answered p due := by
    cases p <;> rfl
  have hclosed := fun w : Work => w.forEach_answered p due (f := fun c w => w.closeInterval c true) fun c x =>
    x.closeInterval_answered p due c true
  have htime : (s.answered p due).timebase = s.timebase := rfl
  unfold State.takeSetTime
  dsimp only
  rw [htime, hstart, Work.event_answered, hclosed, Work.join_answered]

theorem overlooks_takeHeadCommand (input code : Byte) : Overlooks p fun s => s.takeHeadCommand input code := by
  intro s due
  have hlinks : (s.answered p due).links = s.links := rfl
  have hrefused : ∀ n, (s.answered p due).zeroRefused n = s.zeroRefused n := fun _ => rfl
  unfold State.takeHeadCommand
  simp only [hlinks, hrefused]
  split
  · split_ifs <;> rfl
  · rfl

theorem overlooks_takeStopTest : Overlooks p fun s => s.takeStopTest p := by
  intro s due
  have htest : (s.answered p due).test = s.test := rfl
  have hend : (Work.start (s.answered p due)).endTest .stopped (.port p) = _ :=
    (Work.start s).endTest_answered p due .stopped (.port p)
  unfold State.takeStopTest
  dsimp only
  rw [htest, hend]
  split <;> rfl

theorem overlooks_placeCursor (code ring : Byte) (f : Ring → Nat) :
    Overlooks p fun s => s.placeCursor p code ring f := by
  intro s due
  cases hring : nameOf 9 ring with
  | none => simp only [State.placeCursor, hring]
  | some r =>
    have hmoved : ∀ g : Cursor → Cursor,
        (s.answered p due).moveCursor p r g = (s.moveCursor p r g).answered p due := fun _ =>
      s.updPort_answered p due fun _ => rfl
    simp only [State.placeCursor, hring, State.port_answered, State.answered_store, hmoved]
    split
    · rfl
    · rw [State.placeReply, State.port_answered]
      rfl

theorem overlooks_takeFetch (ring count : Byte) : Overlooks p fun s => s.takeFetch p ring count := by
  intro s due
  cases hring : nameOf 9 ring with
  | none => simp only [State.takeFetch, hring]
  | some r =>
    simp only [State.takeFetch, hring, State.port_answered, State.answered_store]
    split
    · rw [s.updPort_answered p due fun _ => rfl]
    all_goals rfl

theorem overlooks_takeCollect : Overlooks p fun s => s.takeCollect p := by
  intro s due
  simp only [State.takeCollect, State.port_answered]
  split
  all_goals rw [s.updPort_answered p due fun _ => rfl]

theorem State.dropFetch_of_answered (s : State) (due : Reply) :
    (s.answered p due).dropFetch p = (s.dropFetch p).answered p due := by cases p <;> rfl

theorem overlooks_takeCancel : Overlooks p fun s => s.takeCancel p := by
  intro s due
  simp only [State.takeCancel, State.port_answered, State.dropFetch_of_answered]
  split <;> rfl

theorem overlooks_takeDraftItem (kind index : Byte) (fields : List Byte) :
    Overlooks p fun s => s.takeDraftItem p kind index fields := by
  intro s due
  simp only [State.takeDraftItem, State.answered_proposal]
  split
  · split <;> rfl
  · split
    · rfl
    · split <;> rfl
  all_goals rfl

theorem overlooks_draftItem (kind index : Byte) (fields : List Byte) :
    Overlooks p fun s =>
      if lengthTaken 23 (kind :: index :: fields) then s.takeDraftItem p kind index fields
      else (s, bare .frameError 23) := by
  intro s due
  dsimp only
  split
  · exact overlooks_takeDraftItem p kind index fields s due
  · rfl

theorem overlooks_takePost (solo : Bool) : Overlooks p fun s => (s.strapAt solo).takePost p := by
  intro s due
  have hcheck : ∀ items, ((s.answered p due).strapAt solo).failedCheck items = (s.strapAt solo).failedCheck items :=
    fun _ => rfl
  simp only [State.takePost, State.strapAt_proposal, State.strapAt_solo, State.answered_proposal, hcheck]
  split
  · split
    · rfl
    · split
      · rfl
      · cases solo with
        | true => rfl
        | false => cases p <;> rfl
  all_goals rfl

theorem overlooks_takeConfirm (number : BitVec 16) : Overlooks p fun s => s.takeConfirm p number := by
  intro s due
  have hnumber : (s.answered p due).number = s.number := rfl
  simp only [State.takeConfirm, State.answered_proposal, hnumber]
  split
  · split <;> rfl
  all_goals rfl

theorem State.withdrawn_answered (s : State) (due : Reply) (cause : EndCause) :
    (s.answered p due).withdrawn p cause = (s.withdrawn p cause).answered p due := by
  cases p <;> rfl

theorem overlooks_takeWithdraw : Overlooks p fun s => s.takeWithdraw p := by
  intro s due
  simp only [State.takeWithdraw, State.answered_proposal, State.withdrawn_answered]
  split
  · split <;> rfl
  · split <;> rfl
  all_goals rfl

theorem overlooks_takeNotices : Overlooks p fun s => s.takeNotices p := by
  intro s due
  simp only [State.takeNotices, State.port_answered]
  rw [s.updPort_answered p due fun _ => rfl]

theorem overlooks_takeMask (mask : Byte) : Overlooks p fun s => s.takeMask p mask := by
  intro s due
  simp only [State.takeMask, State.port_answered]
  rw [s.updPort_answered p due fun _ => rfl]

theorem overlooks_takeOptions (option : Byte) : Overlooks p fun s => s.takeOptions p option := by
  intro s due
  dsimp only
  unfold State.takeOptions
  split
  · rw [s.updPort_answered p due fun _ => rfl]
  · rfl

theorem State.restartedPort_answered (s : State) (due : Reply) :
    (s.answered p due).restartedPort p = (s.restartedPort p).answered p due := by
  have hjudged : ∀ u : State, (u.answered p due).judgeAll p = (u.judgeAll p).answered p due := fun u =>
    List.foldl_hom (State.answered · p due) fun x r => x.updPort_answered p due fun _ => rfl
  unfold State.restartedPort
  rw [State.dropFetch_of_answered, State.updPort_answered _ p due fun _ => rfl]
  dsimp only
  rw [State.updPort_answered _ p due fun _ => rfl]
  exact hjudged _

theorem overlooks_takeRestart : Overlooks p fun s => s.takeRestart p := by
  intro s due
  simp only [State.takeRestart, State.restartedPort_answered, State.withdrawn_answered, State.answered_proposal]
  split
  · split <;> rfl
  all_goals rfl

end

/-- Every request of a port is a transfer's end, and overlooks the reply that is due (R166). -/
theorem exec_of_request {i : Instr} {p : PortId} (h : isRequestOf i p) :
    ∃ take, Overlooks p take ∧ ∀ s, exec i s = .next (s.endTransfer p take) := by
  obtain ⟨code, args, h⟩ := h
  cases i with
  | nop q => cases h; exact ⟨_, overlooks_read p fun _ _ => rfl, fun _ => rfl⟩
  | getChannel q x => cases h; exact ⟨_, overlooks_read p fun _ _ => rfl, fun _ => rfl⟩
  | getHead q x => cases h; exact ⟨_, overlooks_read p fun _ _ => rfl, fun _ => rfl⟩
  | getAlarms q x => cases h; exact ⟨_, overlooks_read p fun _ _ => rfl, fun _ => rfl⟩
  | getStation q => cases h; exact ⟨_, overlooks_takeStation _ q.solo, fun _ => rfl⟩
  | getSetting q k x => cases h; exact ⟨_, overlooks_read p fun _ _ => rfl, fun _ => rfl⟩
  | getProposal q x => cases h; exact ⟨_, overlooks_read p fun _ _ => rfl, fun _ => rfl⟩
  | acknowledge q x m => cases h; exact ⟨_, overlooks_takeAcknowledge p x m, fun _ => rfl⟩
  | setTime q x => cases h; exact ⟨_, overlooks_takeSetTime p x, fun _ => rfl⟩
  | sendHeadCommand q n x => cases h; exact ⟨_, overlooks_takeHeadCommand p n x, fun _ => rfl⟩
  | stopTest q => cases h; exact ⟨_, overlooks_takeStopTest p, fun _ => rfl⟩
  | seek q r x => cases h; exact ⟨_, overlooks_placeCursor p _ r _, fun _ => rfl⟩
  | rewind q r => cases h; exact ⟨_, overlooks_placeCursor p _ r _, fun _ => rfl⟩
  | fetch q r n => cases h; exact ⟨_, overlooks_takeFetch p r n, fun _ => rfl⟩
  | collect q => cases h; exact ⟨_, overlooks_takeCollect p, fun _ => rfl⟩
  | cancel q => cases h; exact ⟨_, overlooks_takeCancel p, fun _ => rfl⟩
  | draftItem q k x fs => cases h; exact ⟨_, overlooks_draftItem p k x fs, fun _ => rfl⟩
  | post q => cases h; exact ⟨_, overlooks_takePost _ q.solo, fun _ => rfl⟩
  | confirm q n => cases h; exact ⟨_, overlooks_takeConfirm p n, fun _ => rfl⟩
  | withdraw q => cases h; exact ⟨_, overlooks_takeWithdraw p, fun _ => rfl⟩
  | getNotices q => cases h; exact ⟨_, overlooks_takeNotices p, fun _ => rfl⟩
  | setNoticeMask q m => cases h; exact ⟨_, overlooks_takeMask p m, fun _ => rfl⟩
  | setPortOptions q o => cases h; exact ⟨_, overlooks_takeOptions p o, fun _ => rfl⟩
  | restartPort q => cases h; exact ⟨_, overlooks_takeRestart p, fun _ => rfl⟩
  | _ => cases h

/-- A frame that carries no request is a transfer's end as well, with an error for its reply (R168). -/
theorem exec_frameError_of_none {p : PortId} {bits : List Bool} {solo : Bool}
    (h : ∀ i, judgeTransfer p solo bits ≠ .request i) :
    ∃ reply, ∀ s : State, s.solo = solo →
      exec (.frameError p bits) s = .next (s.endTransfer p fun s => (s, reply)) := by
  cases hj : judgeTransfer p solo bits with
  | request i => exact absurd hj (h i)
  | frameError =>
    refine ⟨errorReply .frameError (wholeBytes bits), fun s hsolo => ?_⟩
    change execFrameError p bits s = _
    rw [execFrameError, hsolo, hj]
  | unknownRequest =>
    refine ⟨errorReply .unknownRequest (wholeBytes bits), fun s hsolo => ?_⟩
    change execFrameError p bits s = _
    rw [execFrameError, hsolo, hj]

/-- Settles O45: a request overlooks the reply that is due, as a damaged frame does, so that on the state which the
delivery leaves it does what it does behind the delivery. -/
theorem transferEnds : Obligations.TransferEnds := by
  refine ⟨fun s p b k hs hb => ?_, fun s p hs => ⟨fun i hi => ?_, fun bits hbits => ?_⟩⟩
  · have hempty : ∀ b k, (bare .done 0).body ≠ .batch b k := fun _ _ => nofun
    have hnop : exec (.nop p) s = .next ((s.deliver p).answered p (bare .done 0)) := by
      change Host.Outcome.next (s.endTransfer p fun s => (s, bare .done 0)) = _
      rw [(overlooks_read p fun _ _ => rfl).endTransfer hs hempty,
        State.endTransfer_of_plain (State.answered_plain _ p hempty)]
      exact congrArg _ (State.answered_answered _ p _ _)
    refine ⟨_, hnop, ?_, fun i hi => ?_, fun bits hbits => ?_⟩
    · rw [State.deliver_of_batch hb]
      rfl
    · obtain ⟨take, htake, hexec⟩ := exec_of_request hi
      rw [hexec, hexec, htake.endTransfer hs hempty]
    · obtain ⟨reply, hexec⟩ := exec_frameError_of_none (hbits s.solo)
      rw [hexec s rfl, hexec ((s.deliver p).answered p (bare .done 0)) (s.deliver_solo p),
        (overlooks_read p fun _ _ => rfl).endTransfer hs hempty]
  · obtain ⟨take, -, hexec⟩ := exec_of_request hi
    rw [hexec, State.endTransfer_of_ignored hs]
  · obtain ⟨reply, hexec⟩ := exec_frameError_of_none (hbits s.solo)
    rw [hexec s rfl, State.endTransfer_of_ignored hs]

end Sys2Proof.Machine
end

section
/-! ## The notices, the mask, the option and RESTART PORT (R146, R176 to R180) -/

namespace Sys2Proof.Machine

/-! ### Masks -/

/-- Two masks meet exactly when a bit is set in both. -/
theorem and_ne_zero_iff {w : Nat} (a b : BitVec w) :
    a &&& b ≠ 0 ↔ ∃ k : Fin w, a.getLsbD k.val = true ∧ b.getLsbD k.val = true := by
  refine ⟨fun h => ?_, fun ⟨k, ha, hb⟩ h => ?_⟩
  · by_contra hnone
    refine h (BitVec.eq_of_getLsbD_eq fun i hi => ?_)
    have hi := fun ha hb => hnone ⟨⟨i, hi⟩, ha, hb⟩
    simpa using hi
  · have hk : (a &&& b).getLsbD k.val = true := by rw [BitVec.getLsbD_and, ha, hb, Bool.and_true]
    rw [h] at hk
    exact absurd (BitVec.getLsbD_zero.symm.trans hk) Bool.false_ne_true

theorem maskOf_eq_zero_iff {n w : Nat} (hn : n ≤ w) (f : Fin n → Bool) : maskOf w f = 0 ↔ ∀ i, f i = false := by
  refine ⟨fun h i => ?_, fun h => BitVec.eq_of_getLsbD_eq fun j hj => ?_⟩
  · rw [← getLsbD_maskOf w f i (i.isLt.trans_le hn), h]
    exact BitVec.getLsbD_zero
  · rw [maskOf, getLsbD_maskFold w f _ _ _ hj]
    simp [h]

theorem Port.attnActive_iff (q : Port) :
    q.attnActive = true ↔ ∃ k : Fin 8, q.notices.flags.getLsbD k.val = true ∧ q.mask.getLsbD k.val = true := by
  rw [Port.attnActive, bne_iff_ne]
  exact and_ne_zero_iff _ _

/-! ### SET PORT OPTIONS (R179) -/

section

variable {s : State} {p : PortId} {x : Byte}

theorem State.takeOptions_of_some {on : Bool} (h : yesNo x = some on) :
    s.takeOptions p x =
      (s.updPort p fun q => { q with shortDiscard := on }, { status := .done, code := 22, body := .option on }) := by
  rw [State.takeOptions, h]

theorem State.takeOptions_of_none (h : yesNo x = none) : s.takeOptions p x = (s, bare .badArgument 22) := by
  rw [State.takeOptions, h]

theorem exec_setPortOptions_of_plain (hplain : s.plain p) :
    exec (.setPortOptions p x) s = .next
      (if x = 0 then (s.updPort p fun q => { q with shortDiscard := false }).answered p
          { status := .done, code := 22, body := .option false }
      else if x = 1 then (s.updPort p fun q => { q with shortDiscard := true }).answered p
          { status := .done, code := 22, body := .option true }
      else s.answered p (bare .badArgument 22)) := by
  have hexec := fun {t reply} =>
    State.next_of_take hplain (take := fun s => s.takeOptions p x) (t := t) (reply := reply)
  by_cases h0 : x = 0
  · rw [if_pos h0]
    exact hexec (State.takeOptions_of_some (yesNo_iff.mpr h0))
  · rw [if_neg h0]
    by_cases h1 : x = 1
    · rw [if_pos h1]
      exact hexec (State.takeOptions_of_some (yesNo_iff.mpr h1))
    · rw [if_neg h1]
      exact hexec (State.takeOptions_of_none ((if_neg h0).trans (if_neg h1)))

end

/-! ### The half-unread marks of a port, judged ring by ring (R142, R146) -/

/-- Notices joined by a HALF notice for each ring of a list that is in a set. -/
def Notices.addHalves (n : Notices) (half : Fin 9 → Bool) (l : List (Fin 9)) : Notices :=
  l.foldl (fun n r => if half r then n.addHalf r else n) n

theorem Notices.addHalves_eq (n : Notices) (half : Fin 9 → Bool) (l : List (Fin 9)) :
    n.addHalves half l =
      { n with flags := if l.any half then n.flags ||| 2 else n.flags
               half := l.foldl (fun m r => if half r then m ||| bitOf 16 r else m) n.half } := by
  induction l generalizing n with
  | nil => rfl
  | cons r l ih =>
    rw [Notices.addHalves, List.foldl_cons]
    refine (ih _).trans ?_
    cases h : half r
    · simp [h]
    · simp [h, Notices.addHalf, BitVec.or_assoc]

/-- The notices that the judgement of every ring makes of none. -/
theorem Notices.none_addHalves (half : Fin 9 → Bool) :
    Notices.none.addHalves half (List.finRange 9) =
      { Notices.none with flags := if maskOf 16 half = 0 then 0 else 2, half := maskOf 16 half } := by
  have hany : (List.finRange 9).any half = true ↔ maskOf 16 half ≠ 0 := by
    rw [ne_eq, maskOf_eq_zero_iff (by decide)]
    simp
  rw [Notices.addHalves_eq]
  simp only [hany, ne_eq, ite_not]
  rfl

/-- The armed marks of different rings judged in turn: each ring of which half is unread disarms its own, with a HALF
notice. -/
theorem Port.foldl_judgeHalf {size next : Fin 9 → Nat} {half : Fin 9 → Bool} {l : List (Fin 9)} (hl : l.Nodup)
    {q : Port} (harmed : ∀ r ∈ l, (nth q.cursors r).armed = true)
    (hhalf : ∀ r ∈ l, half r = decide (size r ≠ 0 ∧ size r ≤ 2 * (next r - (nth q.cursors r).cursor))) :
    l.foldl (fun q r => q.judgeHalf (size r) (next r) r) q =
      { q with
        cursors := tab fun i => if i ∈ l then { nth q.cursors i with armed := !half i } else nth q.cursors i
        notices := q.notices.addHalves half l } := by
  induction l generalizing q with
  | nil => simp [Notices.addHalves]
  | cons r l ih =>
    obtain ⟨hr, hl⟩ := List.nodup_cons.mp hl
    have hjudged : q.judgeHalf (size r) (next r) r =
        { q with
          cursors := put q.cursors r { nth q.cursors r with armed := !half r }
          notices := if half r then q.notices.addHalf r else q.notices } := by
      rw [Port.judgeHalf_eq, Port.movedTo, harmed r (List.mem_cons_self ..), hhalf r (List.mem_cons_self ..)]
      simp only [Bool.and_true]
    have hother : ∀ i ∈ l, nth (q.judgeHalf (size r) (next r) r).cursors i = nth q.cursors i := fun i hi => by
      rw [hjudged]
      exact nth_put_ne _ _ fun h => hr (h ▸ hi)
    rw [List.foldl_cons, ih hl (fun i hi => by rw [hother i hi]; exact harmed i (List.mem_cons_of_mem _ hi))
      (fun i hi => by rw [hother i hi]; exact hhalf i (List.mem_cons_of_mem _ hi)), hjudged]
    have hcursors : ∀ i, (if i ∈ l then
          { nth (put q.cursors r { nth q.cursors r with armed := !half r }) i with armed := !half i }
          else nth (put q.cursors r { nth q.cursors r with armed := !half r }) i) =
        if i ∈ r :: l then { nth q.cursors i with armed := !half i } else nth q.cursors i := fun i => by
      by_cases hi : r = i
      · subst hi
        simp [hr]
      · simp [nth_put_ne _ _ hi, List.mem_cons, Ne.symm hi]
    simp only [hcursors]
    rfl

theorem State.judgeAll_eq (s : State) (p : PortId) :
    s.judgeAll p = s.updPort p fun q =>
      (List.finRange 9).foldl (fun q r => q.judgeHalf (s.settings.ringSize r) (nth s.store.rings r).next r) q := by
  unfold State.judgeAll
  generalize List.finRange 9 = l
  induction l generalizing s with
  | nil => cases p <;> rfl
  | cons r l ih =>
    have hmoved : s.moveCursor p r id =
        s.updPort p fun q => q.judgeHalf (s.settings.ringSize r) (nth s.store.rings r).next r := by
      simp only [State.moveCursor, upd, id, put_nth]
    rw [List.foldl_cons, ih, hmoved, State.updPort_updPort]
    rfl

/-! ### The port's own state after RESTART PORT (R146, R180) -/

/-- Whether a cursor at the oldest record of a ring leaves half of the ring unread (R142). -/
def State.halfFull (s : State) (r : Fin 9) : Bool :=
  decide (s.settings.ringSize r ≠ 0 ∧
    s.settings.ringSize r ≤ 2 * ((nth s.store.rings r).next - (nth s.store.rings r).oldest))

/-- A port that RESTART PORT has put back in state `s`, its transfer and its due reply apart (R146, R180). -/
def Port.restarted (q : Port) (s : State) : Port where
  transfer := q.transfer
  due := q.due
  notices := { Notices.none with
    flags := if maskOf 16 s.halfFull = 0 then 0 else 2, half := maskOf 16 s.halfFull }
  mask := 0xFF
  shortDiscard := false
  slot := .idle
  timer := 0
  discarded := false
  cursors := tab fun r => { cursor := (nth s.store.rings r).oldest, skip := 0, armed := !s.halfFull r }

/-- A port rewound, with no notice set, once its marks are judged. -/
theorem Port.rewound_judged (q : Port) (s : State) (hnotices : q.notices = .none) :
    (List.finRange 9).foldl (fun q r => q.judgeHalf (s.settings.ringSize r) (nth s.store.rings r).next r)
        (q.rewindAll s.store.rings) =
      { q with cursors := (q.restarted s).cursors, notices := (q.restarted s).notices } := by
  rw [Port.foldl_judgeHalf (half := s.halfFull) (List.nodup_finRange 9)]
  · simp only [Port.rewindAll, hnotices, Notices.none_addHalves, nth_tab, List.mem_finRange, if_true]
    rfl
  · intro r _
    simp only [Port.rewindAll, nth_tab]
  · intro r _
    simp only [Port.rewindAll, nth_tab]
    rfl

theorem State.restartedPort_eq (s : State) (p : PortId) :
    s.restartedPort p =
      { s.updPort p (·.restarted s) with store := { s.store with access := s.store.access.abandon p } } := by
  have hdropped : ∀ f : Port → Port, (s.dropFetch p).updPort p f =
      { s.updPort p (fun q => f { q with slot := .idle, timer := 0 }) with
        store := { s.store with access := s.store.access.abandon p } } := fun f => by cases p <;> rfl
  unfold State.restartedPort
  rw [State.judgeAll_eq]
  simp only [State.updPort_updPort]
  refine (hdropped _).trans (congrArg (fun f => { s.updPort p f with
    store := { s.store with access := s.store.access.abandon p } }) (funext fun q => ?_))
  exact Port.rewound_judged
    { q with slot := .idle, timer := 0, discarded := false, notices := .none, mask := 0xFF, shortDiscard := false }
    s rfl

section

variable (s : State) (p : PortId)

/-- Nothing of the part but the ports and the store is reached. -/
theorem State.restartedPort_frame : ∃ ps st, s.restartedPort p = { s with ports := ps, store := st } :=
  ⟨_, _, s.restartedPort_eq p⟩

theorem State.restartedPort_store :
    (s.restartedPort p).store = { s.store with access := s.store.access.abandon p } := by
  rw [State.restartedPort_eq]

theorem State.restartedPort_port : (s.restartedPort p).port p = (s.port p).restarted s := by
  rw [State.restartedPort_eq]
  exact s.port_updPort_self p _

theorem State.restartedPort_others {q : PortId} (hq : q ≠ p) : (s.restartedPort p).port q = s.port q := by
  rw [State.restartedPort_eq]
  exact s.port_updPort_ne _ (Ne.symm hq)

end

/-! ### The end of the port's own draft (R180, step 4) -/

section

variable (s : State) (p : PortId) (cause : EndCause)

theorem State.withdrawn_frame : ∃ ps st,
    s.withdrawn p cause = { s with ports := ps, store := st, proposal := .empty, free := s.free + 1 } := ⟨_, _, rfl⟩

theorem State.withdrawn_store :
    (s.withdrawn p cause).store = s.store.join (s.followingRecord (.port p) (.proposalEnded s.number cause)) := rfl

theorem State.withdrawn_port : (s.withdrawn p cause).port p = s.port p := State.port_notifyOthers_self _ p _

theorem State.withdrawn_others {q : PortId} (hq : q ≠ p) :
    (s.withdrawn p cause).port q = { s.port q with notices := (s.port q).notices.addSettings 1 } :=
  State.port_notifyOthers_ne _ _ (Ne.symm hq)

end

/-- A draft of the port's own ends with the restart, and no other proposal does (R180). -/
theorem State.takeRestart_of_draft {s : State} {p : PortId} {items : List Item} {left : Nat}
    (h : s.proposal = .draft p items left) :
    s.takeRestart p =
      ((s.restartedPort p).withdrawn p .portRestart,
        { status := .restarted, code := 16, body := .restarted true }) := by
  have hproposal : (s.restartedPort p).proposal = .draft p items left := by rw [State.restartedPort_eq]; exact h
  unfold State.takeRestart
  dsimp only
  rw [hproposal]
  exact if_pos rfl

theorem State.takeRestart_of_other {s : State} {p : PortId} (h : ∀ items left, s.proposal ≠ .draft p items left) :
    s.takeRestart p = (s.restartedPort p, { status := .restarted, code := 16, body := .restarted true }) := by
  have hproposal : (s.restartedPort p).proposal = s.proposal := by rw [State.restartedPort_eq]; rfl
  unfold State.takeRestart
  dsimp only
  rw [hproposal]
  split
  · next owner items left hdraft =>
    refine if_neg fun howner => ?_
    subst howner
    exact h items left hdraft
  all_goals rfl

/-- Settles O44: RESTART PORT ends in the restarted port, and behind it in the end of the port's own draft. -/
theorem portRestarted : Obligations.PortRestarted := by
  refine ⟨Port.attnActive_iff, fun s p x hplain => ⟨State.next_of_take hplain rfl, State.next_of_take hplain rfl,
    exec_setPortOptions_of_plain hplain⟩, fun s p hplain => ?_⟩
  obtain ⟨ps, st, hframe⟩ := s.restartedPort_frame p
  by_cases hdraft : ∃ items left, s.proposal = .draft p items left
  · obtain ⟨items, left, hdraft⟩ := hdraft
    refine ⟨_, State.next_of_take hplain (State.takeRestart_of_draft hdraft), ?_, ?_, ?_, ?_,
      fun _ _ _ => ⟨rfl, fun q hq => ?_, fun hroom => ?_⟩,
      fun hnone => absurd hdraft (hnone items left), ?_⟩
    · rw [State.port_answered, State.withdrawn_port, State.restartedPort_port]
      rfl
    · rw [State.answered_store, State.withdrawn_store, Store.join_rings, State.restartedPort_store]
    · rw [State.answered_store, State.withdrawn_store, Store.join_turn, State.restartedPort_store]
    · rw [State.answered_store, State.withdrawn_store, Store.join_access, State.restartedPort_store]
      rfl
    · rw [State.answered_others _ p _ hq, State.withdrawn_others _ p _ hq, State.restartedPort_others s p hq]
    · have hrecord :
          (s.restartedPort p).followingRecord (.port p) (.proposalEnded (s.restartedPort p).number .portRestart) =
            s.followingRecord (.port p) (.proposalEnded s.number .portRestart) := by
        rw [hframe]
        rfl
      rw [State.answered_store, State.withdrawn_store, hrecord,
        Store.join_event (by rw [State.restartedPort_store]; exact hroom) rfl, State.restartedPort_store]
      rfl
    · obtain ⟨ps', st', hended⟩ := (s.restartedPort p).withdrawn_frame p .portRestart
      rw [hended, hframe]
      rfl
  · simp only [not_exists] at hdraft
    refine ⟨_, State.next_of_take hplain (State.takeRestart_of_other hdraft), ?_, ?_, ?_, ?_,
      fun items left h => absurd h (hdraft items left), fun _ => ⟨?_, ?_, fun q hq => ?_⟩, ?_⟩
    · rw [State.port_answered, State.restartedPort_port]
      rfl
    · rw [State.answered_store, State.restartedPort_store]
    · rw [State.answered_store, State.restartedPort_store]
    · rw [State.answered_store, State.restartedPort_store]
      rfl
    · rw [hframe]
      rfl
    · rw [State.answered_store, State.restartedPort_store]
    · rw [State.answered_others _ p _ hq, State.restartedPort_others s p hq]
    · rw [hframe]
      rfl

end Sys2Proof.Machine
end

section
/-! ## The waveform of the retransmit outputs (R162, R163) -/

namespace Sys2Proof.Machine

/-! ### The pulse of a period (R163) -/

/-- A period's pulse under OFFSET: pin A first, and its length from the code. -/
theorem PwmPeriod.pulse_of_offset {d : PwmPeriod} (hmode : d.mode = .offset) (hfault : d.fault = false) :
    d.pulse = some (64 + d.code.tdiv 2).toNat ∧ d.startPins = (true, false) := by
  unfold PwmPeriod.pulse PwmPeriod.startPins
  rw [hmode, hfault]
  exact ⟨rfl, rfl⟩

/-- A period's pulse under SPLIT: the pin that the sign of the code names. -/
theorem PwmPeriod.pulse_of_split {d : PwmPeriod} (hmode : d.mode = .split) (hfault : d.fault = false)
    (hcode : d.code ≠ 0) :
    d.pulse = some d.code.natAbs ∧ d.startPins = (decide (0 < d.code), decide (d.code < 0)) := by
  unfold PwmPeriod.pulse PwmPeriod.startPins
  rw [hmode, hfault]
  exact ⟨if_neg hcode, rfl⟩

theorem PwmPeriod.endPins_of_offset {d : PwmPeriod} (hmode : d.mode = .offset) : d.endPins = (false, true) := by
  rw [PwmPeriod.endPins, hmode]
  rfl

theorem PwmPeriod.endPins_of_split {d : PwmPeriod} (hmode : d.mode = .split) : d.endPins = (false, false) := by
  rw [PwmPeriod.endPins, hmode]
  rfl

/-- A pulse that is running ends after its segments. -/
theorem Retransmit.endPulse_of_running {u : Retransmit} {n : Nat} {starts ends : Bool × Bool}
    (hpulse : u.period.pulse = some n ∧ u.period.startPins = starts) (hends : u.period.endPins = ends)
    (hA : u.pinA = starts.1) (hB : u.pinB = starts.2) :
    u.endPulse = { u with counter := n * u.period.prescale, pinA := ends.1, pinB := ends.2 } := by
  obtain ⟨hn, hstarts⟩ := hpulse
  have hpins : (u.pinA, u.pinB) = u.period.startPins := by rw [hstarts, hA, hB]
  unfold Retransmit.endPulse
  rw [hn]
  dsimp only
  rw [if_pos hpins, hends]

/-! ### The commands -/

theorem exec_pwmPulseEnd (o : Fin 2) (s : State) :
    exec (.pwmPulseEnd o) s = .next { s with outputs := put s.outputs o (nth s.outputs o).endPulse } := rfl

/-- Settles O36: a period begins with what stands, and its pulse, where it has one that runs, ends once. -/
theorem pwmWaveform : Obligations.PwmWaveform := by
  intro s o
  refine ⟨⟨_, rfl, rfl, fun i hi => nth_upd_ne _ _ (Ne.symm hi), nth_upd_self _ _ _⟩, ?_, fun h => ?_⟩
  · rintro _ rfl hfault
    refine ⟨fun hmode hA hB => ?_, fun hmode hcode hA hB => ?_⟩
    · rw [exec_pwmPulseEnd, Retransmit.endPulse_of_running (PwmPeriod.pulse_of_offset hmode hfault)
        (PwmPeriod.endPins_of_offset hmode) hA hB]
    · rw [exec_pwmPulseEnd, Retransmit.endPulse_of_running (PwmPeriod.pulse_of_split hmode hfault hcode)
        (PwmPeriod.endPins_of_split hmode) hA hB]
  · have hnone : (nth s.outputs o).endPulse = nth s.outputs o := by
      refine Retransmit.endPulse_of_notDue _ ?_
      rcases h with hoff | hfault | ⟨hmode, hcode⟩
      · exact .inl hoff
      · exact .inr (.inl hfault)
      · exact .inr (.inr (.inr ⟨hmode, .inl hcode⟩))
    rw [exec_pwmPulseEnd, hnone, put_nth]

end Sys2Proof.Machine
end

section
/-! ## The retransmit codes at a second tick (R158 to R161) -/

namespace Sys2Proof.Machine

/-! ### The channel of STATION PEAK (R159) -/

theorem ChannelState.eligible_iff (st : ChannelState) :
    st = .armed ∨ st = .stale ∨ st = .test ↔ st ≠ .disabled ∧ st ≠ .learning := by
  cases st <;> decide

/-- The second that a channel offers to STATION PEAK: a present one, in ARMED, STALE or TEST. -/
def Channel.offered (c : Channel) : Option SecondValue :=
  if c.state ≠ .disabled ∧ c.state ≠ .learning then c.latest.bind (·.value) else none

theorem Channel.offered_eq_some {c : Channel} {u : SecondValue} :
    c.offered = some u ↔ c.state ≠ .disabled ∧ c.state ≠ .learning ∧ c.latest.bind (·.value) = some u := by
  rw [Channel.offered, Option.ite_none_right_eq_some, and_assoc]

theorem Channel.offered_eq_none {c : Channel} :
    c.offered = none ↔ c.state = .disabled ∨ c.state = .learning ∨ c.latest.bind (·.value) = none := by
  rw [Channel.offered, ite_eq_right_iff]
  tauto

/-- The choice between the channel chosen so far and one that follows it. -/
def peakStep (channels : Tab 8 Channel) (best : Option (Fin 8 × SecondValue)) (i : Fin 8) :
    Option (Fin 8 × SecondValue) :=
  match (nth channels i).offered with
  | none => best
  | some v =>
    match best with
    | none => some (i, v)
    | some (j, u) => if u.m < v.m then some (i, v) else some (j, u)

theorem stationPeak_eq_foldl (channels : Tab 8 Channel) :
    stationPeak channels = (List.finRange 8).foldl (peakStep channels) none := by
  unfold stationPeak
  congr 1
  funext best i
  unfold peakStep Channel.offered
  simp only [ChannelState.eligible_iff]
  cases (nth channels i).latest.bind (·.value) with
  | none => rw [ite_self]
  | some v =>
    by_cases h : (nth channels i).state ≠ .disabled ∧ (nth channels i).state ≠ .learning
    · rw [if_pos h]
      cases best <;> exact if_pos h
    · rw [if_neg h]
      exact if_neg h

/-- What is chosen among the channels of a list: none where none of them offers a second, or else one of them whose m no
other's exceeds, the lowest of those with that m. -/
def PeakOf (channels : Tab 8 Channel) (l : List (Fin 8)) : Option (Fin 8 × SecondValue) → Prop
  | none => ∀ i ∈ l, (nth channels i).offered = none
  | some (i, u) => i ∈ l ∧ (nth channels i).offered = some u ∧
      ∀ j ∈ l, ∀ w, (nth channels j).offered = some w → w.m < u.m ∨ w.m = u.m ∧ i ≤ j

/-- A channel that follows those judged takes the peak only with a larger m. -/
theorem PeakOf.step {channels : Tab 8 Channel} {l : List (Fin 8)} {best : Option (Fin 8 × SecondValue)} {i : Fin 8}
    (h : PeakOf channels l best) (hi : ∀ j ∈ l, j < i) :
    PeakOf channels (l ++ [i]) (peakStep channels best i) := by
  have hlast : ∀ {P : Fin 8 → Prop}, (∀ j ∈ l, P j) → P i → ∀ j ∈ l ++ [i], P j :=
    fun hl hP => List.forall_mem_append.2 ⟨hl, List.forall_mem_singleton.2 hP⟩
  have hmem : i ∈ l ++ [i] := List.mem_append_right _ List.mem_cons_self
  unfold peakStep
  cases hoffer : (nth channels i).offered with
  | none =>
    cases best with
    | none => exact hlast h hoffer
    | some b =>
      obtain ⟨hb, hu, hbest⟩ := h
      exact ⟨List.mem_append_left _ hb, hu, hlast hbest (by simp [hoffer])⟩
  | some v =>
    have hself : ∀ w, (nth channels i).offered = some w → w = v := fun w hw => Option.some.inj (hw.symm.trans hoffer)
    cases best with
    | none =>
      refine ⟨hmem, hoffer, hlast (fun j hj w hw => ?_) fun w hw => .inr ⟨by rw [hself w hw], le_refl i⟩⟩
      rw [h j hj] at hw
      cases hw
    | some b =>
      obtain ⟨k, u⟩ := b
      obtain ⟨hk, hu, hbest⟩ := h
      dsimp only
      split
      · next hlt =>
        refine ⟨hmem, hoffer, hlast (fun j hj w hw => .inl ?_) fun w hw => .inr ⟨by rw [hself w hw], le_refl i⟩⟩
        rcases hbest j hj w hw with hm | ⟨hm, -⟩ <;> omega
      · next hle =>
        refine ⟨List.mem_append_left _ hk, hu, hlast hbest fun w hw => ?_⟩
        have hki : k ≤ i := (hi k hk).le
        rw [hself w hw]
        rcases Nat.lt_or_eq_of_le (Nat.le_of_not_lt hle) with hm | hm
        · exact .inl hm
        · exact .inr ⟨hm, hki⟩

theorem PeakOf.foldl {channels : Tab 8 Channel} (l : List (Fin 8)) {judged : List (Fin 8)}
    {best : Option (Fin 8 × SecondValue)} (h : PeakOf channels judged best) (hsorted : (judged ++ l).Pairwise (· < ·)) :
    PeakOf channels (judged ++ l) (l.foldl (peakStep channels) best) := by
  induction l generalizing judged best with
  | nil => rwa [List.append_nil]
  | cons i l ih =>
    have hlower : ∀ j ∈ judged, j < i := fun j hj =>
      (List.pairwise_append.1 hsorted).2.2 j hj i List.mem_cons_self
    rw [List.append_cons] at hsorted ⊢
    exact ih (h.step hlower) hsorted

theorem stationPeak_peakOf (channels : Tab 8 Channel) : PeakOf channels (List.finRange 8) (stationPeak channels) := by
  rw [stationPeak_eq_foldl]
  exact PeakOf.foldl (judged := []) _ (fun _ h => nomatch h) (List.sortedLT_finRange 8).pairwise

theorem stationPeak_eq_none {channels : Tab 8 Channel} (h : ∀ i, (nth channels i).offered = none) :
    stationPeak channels = none := by
  have hpeak := stationPeak_peakOf channels
  cases hchosen : stationPeak channels with
  | none => rfl
  | some b =>
    rw [hchosen] at hpeak
    obtain ⟨-, hu, -⟩ := hpeak
    rw [h] at hu
    cases hu

/-- Two channels with the largest m and the lowest number among those with it are one (R159). -/
theorem stationPeak_eq_some {channels : Tab 8 Channel} {i : Fin 8} {u : SecondValue}
    (hi : (nth channels i).offered = some u)
    (hmax : ∀ j w, (nth channels j).offered = some w → w.m < u.m ∨ w.m = u.m ∧ i ≤ j) :
    stationPeak channels = some (i, u) := by
  have hpeak := stationPeak_peakOf channels
  cases hchosen : stationPeak channels with
  | none =>
    rw [hchosen] at hpeak
    cases hi.symm.trans (hpeak i (List.mem_finRange i))
  | some b =>
    obtain ⟨k, v⟩ := b
    rw [hchosen] at hpeak
    obtain ⟨-, hk, hbest⟩ := hpeak
    have hki := hbest i (List.mem_finRange i) u hi
    have hik := hmax k v hk
    obtain rfl : k = i := by omega
    rw [hi] at hk
    rw [Option.some.inj hk]

/-! ### One output (R158 to R161) -/

theorem Retransmit.judge_of_off (u : Retransmit) {v : RetransmitItem} (h : v.mode = .off) (channels : Tab 8 Channel) :
    u.judge v channels = { u with sourceFault := false } := by
  rw [Retransmit.judge, h]

theorem Retransmit.judge_of_channel (u : Retransmit) {v : RetransmitItem} {i : Fin 8} (hmode : v.mode ≠ .off)
    (hsource : v.source = .channel i) (channels : Tab 8 Channel) :
    u.judge v channels =
      if (nth channels i).state = .disabled ∨ (nth channels i).state = .stale then u.fail v.signal
      else
        match (nth channels i).latest.bind (·.value) with
        | some w => u.show v none w.d
        | none => { u with faultShown := false, sourceFault := false, chosen := none } := by
  unfold Retransmit.judge
  rw [hsource]
  cases hm : v.mode with
  | off => exact absurd hm hmode
  | offset | split => rfl

theorem Retransmit.judge_of_stationPeak (u : Retransmit) {v : RetransmitItem} (hmode : v.mode ≠ .off)
    (hsource : v.source = .stationPeak) (channels : Tab 8 Channel) :
    u.judge v channels = (stationPeak channels).elim (u.fail v.signal) fun c => u.show v (some c.1) c.2.d := by
  unfold Retransmit.judge
  rw [hsource]
  cases hm : v.mode with
  | off => exact absurd hm hmode
  | offset | split => cases stationPeak channels <;> rfl

/-- Whatever its source, the judging of an output reaches neither its period nor its pins. -/
theorem Retransmit.judge_frame (u : Retransmit) (v : RetransmitItem) (channels : Tab 8 Channel) :
    ∃ code shown fault chosen, u.judge v channels =
      { u with code, faultShown := shown, sourceFault := fault, chosen } := by
  by_cases hmode : v.mode = .off
  · exact ⟨_, _, _, _, u.judge_of_off hmode channels⟩
  cases hsource : v.source with
  | channel i =>
    rw [u.judge_of_channel hmode hsource]
    split
    · exact ⟨_, _, _, _, rfl⟩
    · split <;> exact ⟨_, _, _, _, rfl⟩
  | stationPeak =>
    rw [u.judge_of_stationPeak hmode hsource]
    cases stationPeak channels <;> exact ⟨_, _, _, _, rfl⟩

/-! ### The tick -/

/-- The count of a test that goes on reaches the test alone (R44). -/
theorem Work.countTest_frame_of_goesOn {w : Work} (h : w.st.testGoesOn) :
    ∃ t, w.countTest.st = { w.st with test := t } := by
  rcases w.countTest_cases with ⟨-, e⟩ | ⟨-, -, e⟩ | ⟨hplan, hremaining, -⟩
  · exact ⟨w.st.test, by rw [e]⟩
  · exact ⟨_, by rw [e]; rfl⟩
  · rcases h with h | h
    · rw [h] at hplan
      cases hplan
    · omega

/-- Behind the results of the channels, each output is judged from them. -/
theorem tickHanded_output (pulled : Bool) {s : State} (hu : s.uncommitted) (o : Fin 2) :
    nth (tickHanded pulled s).st.outputs o =
      (nth s.outputs o).judge (nth s.settings.retransmit o) (tickMoved pulled s).st.channels := by
  obtain ⟨_, _, _, hh⟩ := (tickMoved pulled s).handAll_frame (tickInputs s).st.channels
  obtain ⟨_, _, _, _, hm⟩ := tickMoved_frame pulled hu
  rw [tickHanded, Work.map_st, Work.map_st, hh, State.judgeOutputs, nth_tab]
  generalize tickMoved pulled s = w at hm ⊢
  rw [hm]
  rfl

/-- After a tick at which nothing commits and no test ends, each output is as judged from the channels that the tick
leaves (log 11). -/
theorem secondTick_output (pulled : Bool) {s : State} (hu : s.uncommitted) (ht : s.testGoesOn) (o : Fin 2) :
    nth (secondTick pulled s).outputs o =
      (nth s.outputs o).judge (nth s.settings.retransmit o) (secondTick pulled s).channels := by
  obtain ⟨_, _, _, _, _, _, hcounted⟩ := secondTick_of_counted pulled s
  obtain ⟨_, htest⟩ := Work.countTest_frame_of_goesOn (tickHanded_testGoesOn pulled hu ht)
  have houtputs : (secondTick pulled s).outputs = (tickHanded pulled s).st.outputs := by rw [hcounted, htest]
  rw [houtputs, tickHanded_output pulled hu, secondTick_channels pulled hu ht]

/-- Settles O27: the output is judged once in the tick, by the rule of its source. -/
theorem outputCodes : Obligations.OutputCodes := by
  intro s pulled o hu ht
  refine ⟨secondTick pulled s, rfl, ?_⟩
  dsimp only
  rw [secondTick_output pulled hu ht o]
  generalize (secondTick pulled s).channels = channels
  generalize nth s.outputs o = old
  generalize nth s.settings.retransmit o = v
  refine ⟨?_, fun hoff => ?_, fun hmode i hsource => ?_, fun hmode hsource => ⟨fun hnone => ?_, ?_⟩⟩
  · obtain ⟨_, _, _, _, h⟩ := old.judge_frame v channels
    rw [h]
  · rw [old.judge_of_off hoff]
    exact ⟨rfl, rfl, rfl⟩
  · rw [old.judge_of_channel hmode hsource]
    split
    · exact ⟨rfl, rfl, rfl⟩
    · refine ⟨fun u hu => ?_, fun hnone => ?_⟩
      · rw [hu]
        exact ⟨rfl, rfl, rfl⟩
      · rw [hnone]
        exact ⟨rfl, rfl, rfl⟩
  · rw [old.judge_of_stationPeak hmode hsource,
      stationPeak_eq_none fun i => Channel.offered_eq_none.2 (hnone i)]
    exact ⟨rfl, rfl, rfl, rfl⟩
  · intro i u hu hlive hlearned hmax
    have hoffered := Channel.offered_eq_some.2 ⟨hlive, hlearned, hu⟩
    have hpeak : stationPeak channels = some (i, u) := stationPeak_eq_some hoffered fun j w hw => by
      obtain ⟨hlive, hlearned, hw⟩ := Channel.offered_eq_some.1 hw
      exact hmax j hlive hlearned w hw
    rw [old.judge_of_stationPeak hmode hsource, hpeak]
    exact ⟨rfl, rfl, rfl, rfl⟩

end Sys2Proof.Machine
end

section
/-! ## Frames on the wire (R166, R168, R169, R193, R195) -/

namespace Sys2Proof.Machine

/-! ### Bits that make up no byte (R166) -/

/-- Fewer than eight bits are a byte left incomplete. -/
theorem wholeBytes_of_short {bits : List Bool} (h : bits.length < 8) : wholeBytes bits = [] := by
  unfold wholeBytes
  split
  · simp only [List.length_cons] at h
    omega
  · rfl

/-! ### Frames that are not taken (R168) -/

section

variable {p : PortId} {solo : Bool} {code len hi lo : Byte} {args more : List Byte}

/-- A frame cut short: what follows the length byte is too short for the arguments and the CRC. -/
theorem judgeFrame_of_cut {rest : List Byte} (h : rest.length < len.toNat + 2) :
    judgeFrame p solo (code :: len :: rest) = .frameError := by
  have htail : (rest.drop len.toNat).length < 2 := by rw [List.length_drop]; omega
  unfold judgeFrame
  dsimp only
  generalize rest.drop len.toNat = tail at htail ⊢
  match tail with
  | [] => rfl
  | [_] => rfl
  | _ :: _ :: _ =>
    simp only [List.length_cons] at htail
    omega

/-- A frame of fewer than four bytes is cut short whatever its length byte says. -/
theorem judgeFrame_of_length_lt {bytes : List Byte} (h : bytes.length < 4) :
    judgeFrame p solo bytes = .frameError := by
  match bytes with
  | [] => rfl
  | [_] => rfl
  | _ :: _ :: rest =>
    refine judgeFrame_of_cut ?_
    simp only [List.length_cons] at h
    omega

/-- A frame that holds all its arguments and its CRC is judged by the checks behind the length alone. -/
theorem judgeFrame_of_whole (h : args.length = len.toNat) :
    judgeFrame p solo (code :: len :: (args ++ hi :: lo :: more)) =
      if word2 hi lo ≠ crc16 (code :: len :: args) then .frameError
      else if 23 < code.toNat then .unknownRequest
      else if 250 < len.toNat ∨ lengthTaken code args = false then .frameError
      else match requestOf p solo code args with
        | some i => .request i
        | none => .frameError := by
  unfold judgeFrame
  dsimp only
  rw [← h, List.drop_left, List.take_left]
  exact if_neg (Nat.lt_irrefl _)

end

/-- A transfer whose frame is not taken ends with an error reply for its bytes, which echoes the first of them. -/
theorem exec_frameError_of_frameError {s : State} {p : PortId} {bits : List Bool} (hp : s.plain p)
    (h : judgeTransfer p s.solo bits = .frameError) :
    exec (.frameError p bits) s = .next (s.answered p (bare .frameError ((wholeBytes bits).headD 0))) := by
  change execFrameError p bits s = _
  rw [execFrameError, h]
  exact congrArg _ (State.endTransfer_of_plain hp _)

theorem exec_frameError_of_unknownRequest {s : State} {p : PortId} {bits : List Bool} (hp : s.plain p)
    (h : judgeTransfer p s.solo bits = .unknownRequest) :
    exec (.frameError p bits) s = .next (s.answered p (bare .unknownRequest ((wholeBytes bits).headD 0))) := by
  change execFrameError p bits s = _
  rw [execFrameError, h]
  exact congrArg _ (State.endTransfer_of_plain hp _)

/-- Settles O38: the bits are taken as their whole bytes, and those are judged by the checks in their order. -/
theorem damagedFrames : Obligations.DamagedFrames := by
  intro s p odd hp hodd
  have hbytes : ∀ bytes, wholeBytes (bitsOf bytes ++ odd) = bytes := fun bytes => by
    rw [wholeBytes_bitsOf, wholeBytes_of_short hodd, List.append_nil]
  have herror : ∀ bytes, judgeFrame p s.solo bytes = .frameError →
      exec (.frameError p (bitsOf bytes ++ odd)) s = .next (s.answered p (bare .frameError (bytes.headD 0))) :=
    fun bytes h => by
      rw [exec_frameError_of_frameError hp (by rw [judgeTransfer, hbytes, h]), hbytes]
  have hunknown : ∀ bytes, judgeFrame p s.solo bytes = .unknownRequest →
      exec (.frameError p (bitsOf bytes ++ odd)) s = .next (s.answered p (bare .unknownRequest (bytes.headD 0))) :=
    fun bytes h => by
      rw [exec_frameError_of_unknownRequest hp (by rw [judgeTransfer, hbytes, h]), hbytes]
  refine ⟨fun bytes h => herror bytes (judgeFrame_of_length_lt h),
    fun code len rest h => herror _ (judgeFrame_of_cut h), fun code len hi lo args more hargs =>
    ⟨fun hcrc => herror _ ?_, fun hcrc hcode => hunknown _ ?_, fun hcrc hcode hlength => herror _ ?_⟩⟩
  · rw [judgeFrame_of_whole hargs, if_pos hcrc]
  · rw [judgeFrame_of_whole hargs, if_neg (not_not.mpr hcrc), if_pos (Nat.lt_of_succ_le hcode)]
  · rw [judgeFrame_of_whole hargs, if_neg (not_not.mpr hcrc), if_neg (Nat.not_lt.mpr hcode), if_pos hlength]

/-! ### Frames that carry a request (R195) -/

theorem itemLength_le {kind : Byte} {n : Nat} (h : itemLength kind = some n) : n ≤ 24 := by
  unfold itemLength at h
  have hmem := List.mem_of_getElem? h
  clear h
  revert n
  decide

/-- A code and arguments whose length is taken are within the ranges that the decoder checks apart from it. -/
theorem lengthTaken_bounds {code : Byte} {args : List Byte} (h : lengthTaken code args = true) :
    code.toNat ≤ 23 ∧ args.length ≤ 250 := by
  unfold lengthTaken at h
  split at h
  · next hcode =>
    refine ⟨by rw [hcode]; decide, ?_⟩
    split at h
    · next kind index fields =>
      split at h
      · next n hn =>
        have hkinds := itemLength_le hn
        have hlength : (kind :: index :: fields).length = n + 2 := beq_iff_eq.mp h
        omega
      · exact of_decide_eq_true h
    · cases h
  · have hlength : fixedLengths[code.toNat]? = some args.length := beq_iff_eq.mp h
    obtain ⟨hcode, -⟩ := List.getElem?_eq_some_iff.mp hlength
    have hcount : fixedLengths.length = 23 := rfl
    have hfixed : ∀ n ∈ fixedLengths, n ≤ 5 := by decide
    have hargs := hfixed _ (List.mem_of_getElem? hlength)
    omega

/-- The frame of a code and its arguments, and what follows it: the last two bytes of the frame are its CRC. -/
theorem frameOf_append (code : Byte) (args more : List Byte) :
    ∃ hi lo, word2 hi lo = crc16 (code :: BitVec.ofNat 8 args.length :: args) ∧
      frameOf code args ++ more = code :: BitVec.ofNat 8 args.length :: (args ++ hi :: lo :: more) :=
  ⟨_, _, word2_iff.mpr rfl, by simp [frameOf, bytes2]⟩

/-- The frame made of a code and its arguments is judged to carry the request that they name (R168, R195). -/
theorem judgeFrame_frameOf {p : PortId} {solo : Bool} {code : Byte} {args more : List Byte} {i : Instr}
    (hlength : lengthTaken code args = true) (hrequest : requestOf p solo code args = some i) :
    judgeFrame p solo (frameOf code args ++ more) = .request i := by
  obtain ⟨hcode, hargs⟩ := lengthTaken_bounds hlength
  have hlen : (BitVec.ofNat 8 args.length).toNat = args.length := by
    rw [BitVec.toNat_ofNat]
    exact Nat.mod_eq_of_lt (by omega)
  have htaken : ¬(250 < (BitVec.ofNat 8 args.length).toNat ∨ lengthTaken code args = false) := by
    rw [hlen, hlength]
    rintro (h | h)
    · omega
    · cases h
  obtain ⟨hi, lo, hcrc, hframe⟩ := frameOf_append code args more
  rw [hframe, judgeFrame_of_whole hlen.symm, if_neg (not_not.mpr hcrc), if_neg (Nat.not_lt.mpr hcode), if_neg htaken,
    hrequest]

/-- A well-formed request's code and arguments have a length that the decoder takes, and name the request again, with
the strap as it stands. -/
theorem requestOf_requestBytes {i : Instr} {p : PortId} {code : Byte} {args : List Byte} (hi : i.wellFormed = true)
    (h : requestBytes i = some (p, code, args)) (solo : Bool) :
    lengthTaken code args = true ∧ requestOf p solo code args = some (i.atStrap solo) := by
  have hword4 : ∀ w : BitVec 32, word4 (w.extractLsb' 24 8) (w.extractLsb' 16 8) (w.extractLsb' 8 8)
      (w.extractLsb' 0 8) = w := fun w => word4_iff.mpr rfl
  have hword2 : ∀ w : BitVec 16, word2 (w.extractLsb' 8 8) (w.extractLsb' 0 8) = w := fun w => word2_iff.mpr rfl
  cases i with
  | acknowledge q x m => cases h; exact ⟨rfl, congrArg (fun m => some (Instr.acknowledge p x m)) (hword4 m)⟩
  | setTime q x => cases h; exact ⟨rfl, congrArg (fun x => some (Instr.setTime p x)) (hword4 x)⟩
  | seek q r x => cases h; exact ⟨rfl, congrArg (fun x => some (Instr.seek p r x)) (hword4 x)⟩
  | confirm q n => cases h; exact ⟨rfl, congrArg (fun n => some (Instr.confirm p n)) (hword2 n)⟩
  | draftItem q k x fs => cases h; exact ⟨hi, rfl⟩
  | _ => cases h <;> exact ⟨rfl, rfl⟩

/-- Settles O52: the whole bytes of the transfer begin with the frame, and the frame is judged to carry what it was made
of. -/
theorem framesRoundTrip : Obligations.FramesRoundTrip := by
  intro i p solo frame more hi hframe
  unfold encodeFrame at hframe
  split at hframe
  · next q code args hbytes =>
    cases hframe
    obtain ⟨hlength, hrequest⟩ := requestOf_requestBytes hi hbytes solo
    rw [judgeTransfer, wholeBytes_bitsOf, judgeFrame_frameOf hlength hrequest]
  · cases hframe

/-! ### The reply frame and SDO (R166, R169) -/

/-- Bit `k` of a run of bytes as they travel is bit `k % 8` of byte `k / 8`, the most significant first, and 0 behind
the last byte. -/
theorem getD_bitsOf (bs : List Byte) (k : Nat) :
    (bitsOf bs).getD k false = (bs.getD (k / 8) 0#8).getLsbD (7 - k % 8) := by
  induction bs generalizing k with
  | nil => simp [bitsOf]
  | cons x bs ih =>
    have hcons : bitsOf (x :: bs) = ([7, 6, 5, 4, 3, 2, 1, 0].map fun i => x.getLsbD i) ++ bitsOf bs := rfl
    rw [hcons]
    by_cases hk : k < 8
    · rw [List.getD_append _ _ _ _ hk, Nat.div_eq_of_lt hk, Nat.mod_eq_of_lt hk]
      interval_cases k <;> rfl
    · obtain ⟨j, rfl⟩ := Nat.exists_eq_add_of_le' (Nat.le_of_not_lt hk)
      rw [List.getD_append_right _ _ _ _ (Nat.le_add_left 8 j), Nat.add_div_right j (by decide), Nat.add_mod_right]
      exact ih j

theorem Transfer.sdo_active (frame : List Byte) (falls : Nat) :
    (Transfer.active frame).sdo falls = some ((frame.getD (falls / 8) 0#8).getLsbD (7 - falls % 8)) :=
  congrArg some (getD_bitsOf frame falls)

/-- At the fall of SEL the reply frame that the transfer carries is fixed (R169). -/
theorem exec_transferStart_of_idle {s : State} {p : PortId} (h : (s.port p).transfer = .idle) :
    exec (.transferStart p) s = .next (s.updPort p fun q => { q with transfer := .active (s.replyFrame p) }) := by
  change execTransferStart p s = _
  rw [execTransferStart, h]

/-- Settles O37: the frame is the header, the body and their CRC, and SDO shows its bits. -/
theorem transferCarriesReply : Obligations.TransferCarriesReply := by
  intro s p hidle
  extract_lets q head
  have hheader : s.header p q.due = head := by
    unfold State.header
    simp only [head, q]
    cases (s.port p).slot <;> cases s.proposal <;> rfl
  have hframe : s.replyFrame p = head ++ q.due.body.bytes ++ bytes2 (crc16 (head ++ q.due.body.bytes)) := by
    rw [State.replyFrame, hheader]
  refine ⟨rfl, fun falls => ?_, _, exec_transferStart_of_idle hidle, ?_, fun falls => ?_⟩
  · rw [hidle]
    rfl
  · rw [hframe]
  · rw [State.port_updPort_self, hframe]
    exact Transfer.sdo_active _ falls

end Sys2Proof.Machine
end

section
/-! ## What one port sends reaches the others through notices alone (R171, R175) -/

namespace Sys2Proof.Machine

/-! ### Notices that are only added to (R175) -/

/-- Every notice that stands in `a`, flag or detail, stands in `b`. -/
def Notices.keptIn (a b : Notices) : Prop :=
  b.flags &&& a.flags = a.flags ∧ b.alarm &&& a.alarm = a.alarm ∧ b.half &&& a.half = a.half ∧
    b.overwrite &&& a.overwrite = a.overwrite ∧ b.settings &&& a.settings = a.settings ∧
    b.link &&& a.link = a.link ∧ b.test &&& a.test = a.test ∧ b.reply &&& a.reply = a.reply ∧ b.time &&& a.time = a.time

theorem or_and_self_left {w : Nat} (a b : BitVec w) : (a ||| b) &&& a = a := by
  ext i hi
  simp only [BitVec.getElem_and, BitVec.getElem_or]
  cases a[i] <;> simp

/-- Bits of `a` that stand in `b` stand in what keeps the bits of `b`. -/
theorem and_eq_trans {w : Nat} {a b c : BitVec w} (h : b &&& a = a) (g : c &&& b = b) : c &&& a = a := by
  rw [← h, ← BitVec.and_assoc, g]

theorem Notices.keptIn_refl (a : Notices) : a.keptIn a := by
  simp only [Notices.keptIn, BitVec.and_self, and_self]

theorem Notices.keptIn_trans {a b c : Notices} (h : a.keptIn b) (g : b.keptIn c) : a.keptIn c := by
  obtain ⟨h1, h2, h3, h4, h5, h6, h7, h8, h9⟩ := h
  obtain ⟨g1, g2, g3, g4, g5, g6, g7, g8, g9⟩ := g
  exact ⟨and_eq_trans h1 g1, and_eq_trans h2 g2, and_eq_trans h3 g3, and_eq_trans h4 g4, and_eq_trans h5 g5,
    and_eq_trans h6 g6, and_eq_trans h7 g7, and_eq_trans h8 g8, and_eq_trans h9 g9⟩

theorem Notices.keptIn_addAlarm (a : Notices) (m : BitVec 8) : a.keptIn (a.addAlarm m) := by
  simp only [Notices.keptIn, Notices.addAlarm, or_and_self_left, BitVec.and_self, and_self]

theorem Notices.keptIn_addSettings (a : Notices) (cause : Fin 4) : a.keptIn (a.addSettings cause) := by
  simp only [Notices.keptIn, Notices.addSettings, or_and_self_left, BitVec.and_self, and_self]

theorem Notices.keptIn_addTest (a : Notices) (ended : Bool) : a.keptIn (a.addTest ended) := by
  simp only [Notices.keptIn, Notices.addTest, or_and_self_left, BitVec.and_self, and_self]

theorem Notices.keptIn_addTime (a : Notices) (sender : PortId) : a.keptIn (a.addTime sender) := by
  simp only [Notices.keptIn, Notices.addTime, or_and_self_left, BitVec.and_self, and_self]

/-! ### Ports that are only told -/

/-- `r` is the port `q` with at most more notices. -/
def Port.OnlyTold (q r : Port) : Prop := { r with notices := q.notices } = q ∧ q.notices.keptIn r.notices

theorem Port.OnlyTold.refl (q : Port) : q.OnlyTold q := ⟨rfl, q.notices.keptIn_refl⟩

theorem Port.OnlyTold.trans {q r u : Port} (h : q.OnlyTold r) (g : r.OnlyTold u) : q.OnlyTold u :=
  ⟨(congrArg (fun x : Port => { x with notices := q.notices }) g.1).trans h.1, Notices.keptIn_trans h.2 g.2⟩

/-- Of the ports other than `p`, each is in `t` what it is in `s`, with at most more notices. -/
structure State.Isolates (p : PortId) (s t : State) : Prop where
  others : ∀ q, q ≠ p → (s.port q).OnlyTold (t.port q)

namespace State.Isolates

variable {p : PortId}

theorem of_ports {s t : State} (h : t.ports = s.ports) : s.Isolates p t :=
  ⟨fun q _ => by rw [State.port, State.port, h]; exact .refl _⟩

theorem refl (s : State) : s.Isolates p s := of_ports rfl

theorem trans {s t u : State} (h : s.Isolates p t) (g : t.Isolates p u) : s.Isolates p u :=
  ⟨fun q hq => (h.others q hq).trans (g.others q hq)⟩

/-- A change of the port itself. -/
theorem updPort (s : State) (f : Port → Port) : s.Isolates p (s.updPort p f) :=
  ⟨fun q hq => by rw [s.port_updPort_ne f (Ne.symm hq)]; exact .refl _⟩

/-- A notice to all ports. -/
theorem notifyAll (s : State) {f : Notices → Notices} (hf : ∀ a : Notices, a.keptIn (f a)) :
    s.Isolates p (s.notifyAll f) :=
  ⟨fun q _ => by rw [State.port_notifyAll]; exact ⟨rfl, hf _⟩⟩

/-- A notice to the other ports. -/
theorem notifyOthers (s : State) {f : Notices → Notices} (hf : ∀ a : Notices, a.keptIn (f a)) :
    s.Isolates p (s.notifyOthers p f) :=
  ⟨fun q hq => by rw [s.port_notifyOthers_ne f (Ne.symm hq)]; exact ⟨rfl, hf _⟩⟩

/-- Turns that isolate, isolate together. -/
theorem forEach {n : Nat} {f : Fin n → Work → Work} (h : ∀ i (w : Work), w.st.Isolates p (f i w).st) (w : Work) :
    w.st.Isolates p (w.forEach f).st :=
  Work.forEach_induct (fun x => w.st.Isolates p x.st) f w (refl w.st) fun i x hx => hx.trans (h i x)

/-- The records that a step hands over reach no port. -/
theorem join (w : Work) : w.st.Isolates p w.join := of_ports rfl

end State.Isolates

open State (Isolates)

/-! ### Entries, intervals and the end of a test -/

section

variable (p : PortId) (w : Work)

theorem Work.moveEntry_isolates (x : Sender) (i : Fin 32) (e : AlarmEntry) (v : Nat) (c : AlarmCause) :
    w.st.Isolates p (w.moveEntry x i e v c).st :=
  (Isolates.notifyAll w.st fun a => a.keptIn_addAlarm (bitOf 8 (channelOf i))).trans (.of_ports rfl)

theorem Work.handCondition_isolates (c : Fin 8) (k : AlarmKind) (was now : Bool) (v : Nat) (t : Bool) :
    w.st.Isolates p (w.handCondition c k was now v t).st := by
  rcases w.handCondition_cases c k was now v t with h | ⟨_, _, _, h⟩ | ⟨_, _, _, h⟩ <;> rw [h]
  · exact .refl _
  · exact w.moveEntry_isolates p ..
  · exact w.moveEntry_isolates p ..

theorem Work.handChanges_isolates (c : Fin 8) (old new : Channel) :
    w.st.Isolates p (w.handChanges c old new).st :=
  foldl_kinds (fun x : Work => w.st.Isolates p x.st) _ w (.refl _) fun x _ hx =>
    hx.trans (x.handCondition_isolates p ..)

theorem Work.setChannel_isolates (c : Fin 8) (new : Channel) : w.st.Isolates p (w.setChannel c new).st :=
  have hput : w.st.Isolates p (w.map fun s => { s with channels := put s.channels c new }).st := .of_ports rfl
  hput.trans (Work.handChanges_isolates p _ c _ new)

theorem Work.closeInterval_isolates (c : Fin 8) (timeSet : Bool) :
    w.st.Isolates p (w.closeInterval c timeSet).st := by
  rw [Work.closeInterval_st]
  exact .of_ports rfl

theorem Work.endTestOn_isolates (c : Fin 8) : w.st.Isolates p (w.endTestOn c).st := by
  cases h : nth w.st.test.snapshots c with
  | none =>
    rw [Work.endTestOn_of_none h]
    exact .refl _
  | some n =>
    rw [Work.endTestOn_of_some h, Work.closeInterval_st]
    exact (w.setChannel_isolates p c _).trans (.of_ports rfl)

theorem Work.endTest_isolates (cause : TestCause) (source : EventSource) :
    w.st.Isolates p (w.endTest cause source).st := by
  have hturns := Isolates.forEach (fun c x => Work.endTestOn_isolates p x c) w
  unfold Work.endTest
  split
  · exact .refl _
  · dsimp only
    generalize w.forEach Work.endTestOn = x at hturns ⊢
    exact (hturns.trans (.notifyAll x.st fun a => a.keptIn_addTest true)).trans (.of_ports rfl)

end

/-! ### Requests -/

section

variable (s : State) (p : PortId)

theorem State.deliver_isolates : s.Isolates p (s.deliver p) := by
  unfold State.deliver
  split
  · exact .updPort s _
  · exact .refl s

/-- A request that isolates, isolates to the end of its transfer. -/
theorem State.endTransfer_isolates {take : State → State × Reply} (h : ∀ u : State, u.Isolates p (take u).1) :
    s.Isolates p (s.endTransfer p take) := by
  rcases s.endTransfer_cases p take with ⟨-, e⟩ | ⟨-, e⟩ <;> rw [e]
  · exact .updPort s _
  · exact ((s.deliver_isolates p).trans (h _)).trans (.updPort _ _)

theorem State.takeAcknowledge_isolates (selector : Byte) (mask : BitVec 32) :
    s.Isolates p (s.takeAcknowledge p selector mask).1 := by
  have hturns : ∀ changed, s.Isolates p ((Work.start s).forEach (Work.acknowledge p changed)).st := fun changed =>
    Isolates.forEach (fun i w => by
      unfold Work.acknowledge
      split
      · exact w.moveEntry_isolates p ..
      · exact .refl _) (Work.start s)
  unfold State.takeAcknowledge
  split
  · exact .refl s
  · next named _ =>
    dsimp only
    split
    · exact .refl s
    · exact (hturns (s.acknowledgeable named)).trans (.of_ports rfl)

theorem State.takeSetTime_isolates (time : Time) : s.Isolates p (s.takeSetTime p time).1 := by
  unfold State.takeSetTime
  extract_lets _ u w
  have htold : s.Isolates p w.st :=
    .trans (t := { s with timebase := { s.timebase with time } }) (.of_ports rfl)
      (.notifyOthers _ fun a => a.keptIn_addTime p)
  exact (htold.trans (.forEach (fun c x => x.closeInterval_isolates p c true) w)).trans (.join _)

theorem State.takeHeadCommand_isolates (input code : Byte) : s.Isolates p (s.takeHeadCommand input code).1 := by
  unfold State.takeHeadCommand
  split
  · dsimp only
    split_ifs <;> exact .of_ports rfl
  · exact .refl s

theorem State.takeStopTest_isolates : s.Isolates p (s.takeStopTest p).1 := by
  unfold State.takeStopTest
  split
  · exact (Work.endTest_isolates p (Work.start s) .stopped (.port p)).trans (.join _)
  · exact .refl s

theorem State.placeCursor_isolates (code ring : Byte) (f : Ring → Nat) :
    s.Isolates p (s.placeCursor p code ring f).1 := by
  unfold State.placeCursor
  split
  · exact .refl s
  · split
    · exact .refl s
    · exact .updPort s _

theorem State.takeFetch_isolates (ring count : Byte) : s.Isolates p (s.takeFetch p ring count).1 := by
  unfold State.takeFetch
  split
  · exact .refl s
  · split
    · exact .updPort s _
    all_goals exact .refl s

theorem State.takeCollect_isolates : s.Isolates p (s.takeCollect p).1 := by
  unfold State.takeCollect
  dsimp only
  split <;> exact .updPort s _

theorem State.dropFetch_isolates : s.Isolates p (s.dropFetch p) :=
  (Isolates.updPort s fun q => { q with slot := .idle, timer := 0 }).trans (.of_ports rfl)

theorem State.takeCancel_isolates : s.Isolates p (s.takeCancel p).1 := by
  unfold State.takeCancel
  split
  · exact s.dropFetch_isolates p
  · exact s.dropFetch_isolates p
  · exact .refl s

/-- DRAFT ITEM changes the proposal buffer alone. -/
theorem State.takeDraftItem_isolates (kind index : Byte) (fields : List Byte) :
    s.Isolates p (s.takeDraftItem p kind index fields).1 := by
  unfold State.takeDraftItem
  split
  · split <;> exact .of_ports rfl
  · split
    · exact .refl s
    · split <;> exact .of_ports rfl
  all_goals exact .refl s

theorem State.takePost_isolates : s.Isolates p (s.takePost p).1 := by
  unfold State.takePost
  split
  · split
    · exact .refl s
    · split
      · exact .refl s
      · have hposted : ∀ u : State, u.ports = s.ports → s.Isolates p (u.notifyOthers p (·.addSettings 0)) :=
          fun u h => (Isolates.of_ports h).trans (.notifyOthers u fun a => a.keptIn_addSettings 0)
        dsimp only
        split
        · exact .of_ports rfl
        · exact hposted _ rfl
  all_goals exact .refl s

theorem State.takeConfirm_isolates (number : BitVec 16) : s.Isolates p (s.takeConfirm p number).1 := by
  unfold State.takeConfirm
  split
  · split <;> exact .of_ports rfl
  all_goals exact .refl s

theorem State.withdrawn_isolates (cause : EndCause) : s.Isolates p (s.withdrawn p cause) :=
  ⟨fun q hq => by rw [s.withdrawn_others p cause hq]; exact ⟨rfl, Notices.keptIn_addSettings _ 1⟩⟩

theorem State.takeWithdraw_isolates : s.Isolates p (s.takeWithdraw p).1 := by
  unfold State.takeWithdraw
  split
  · split
    · exact s.withdrawn_isolates p _
    · exact .refl s
  · split
    · exact s.withdrawn_isolates p _
    · exact .refl s
  all_goals exact .refl s

theorem State.takeOptions_isolates (option : Byte) : s.Isolates p (s.takeOptions p option).1 := by
  unfold State.takeOptions
  split
  · exact .updPort s _
  · exact .refl s

theorem State.takeRestart_isolates : s.Isolates p (s.takeRestart p).1 := by
  have hport : s.Isolates p (s.restartedPort p) :=
    ⟨fun q hq => by rw [s.restartedPort_others p hq]; exact .refl _⟩
  unfold State.takeRestart
  dsimp only
  split
  · split
    · exact hport.trans (State.withdrawn_isolates _ p _)
    · exact hport
  all_goals exact hport

end

/-- Every request of a port is a transfer's end with a request that isolates. -/
theorem exec_isolates_of_request {i : Instr} {p : PortId} (h : isRequestOf i p) :
    ∃ take, (∀ u : State, u.Isolates p (take u).1) ∧ ∀ s, exec i s = .next (s.endTransfer p take) := by
  obtain ⟨code, args, h⟩ := h
  cases i with
  | nop q => cases h; exact ⟨_, Isolates.refl, fun _ => rfl⟩
  | getChannel q x => cases h; exact ⟨_, Isolates.refl, fun _ => rfl⟩
  | getHead q x => cases h; exact ⟨_, Isolates.refl, fun _ => rfl⟩
  | getAlarms q x => cases h; exact ⟨_, Isolates.refl, fun _ => rfl⟩
  | getStation q => cases h; exact ⟨_, fun _ => .of_ports rfl, fun _ => rfl⟩
  | getSetting q k x => cases h; exact ⟨_, Isolates.refl, fun _ => rfl⟩
  | getProposal q x => cases h; exact ⟨_, Isolates.refl, fun _ => rfl⟩
  | acknowledge q x m => cases h; exact ⟨_, fun u => u.takeAcknowledge_isolates p x m, fun _ => rfl⟩
  | setTime q x => cases h; exact ⟨_, fun u => u.takeSetTime_isolates p x, fun _ => rfl⟩
  | sendHeadCommand q n x => cases h; exact ⟨_, fun u => u.takeHeadCommand_isolates p n x, fun _ => rfl⟩
  | stopTest q => cases h; exact ⟨_, fun u => u.takeStopTest_isolates p, fun _ => rfl⟩
  | seek q r x => cases h; exact ⟨_, fun u => u.placeCursor_isolates p _ r _, fun _ => rfl⟩
  | rewind q r => cases h; exact ⟨_, fun u => u.placeCursor_isolates p _ r _, fun _ => rfl⟩
  | fetch q r n => cases h; exact ⟨_, fun u => u.takeFetch_isolates p r n, fun _ => rfl⟩
  | collect q => cases h; exact ⟨_, fun u => u.takeCollect_isolates p, fun _ => rfl⟩
  | cancel q => cases h; exact ⟨_, fun u => u.takeCancel_isolates p, fun _ => rfl⟩
  | draftItem q k x fs =>
    cases h
    refine ⟨_, fun u => ?_, fun _ => rfl⟩
    split
    · exact u.takeDraftItem_isolates p k x fs
    · exact .refl u
  | post q =>
    cases h
    refine ⟨_, fun u => ?_, fun _ => rfl⟩
    exact .trans (t := u.strapAt q.solo) (.of_ports rfl) (State.takePost_isolates _ q.port)
  | confirm q n => cases h; exact ⟨_, fun u => u.takeConfirm_isolates p n, fun _ => rfl⟩
  | withdraw q => cases h; exact ⟨_, fun u => u.takeWithdraw_isolates p, fun _ => rfl⟩
  | getNotices q => cases h; exact ⟨_, fun u => .updPort u _, fun _ => rfl⟩
  | setNoticeMask q m => cases h; exact ⟨_, fun u => .updPort u _, fun _ => rfl⟩
  | setPortOptions q o => cases h; exact ⟨_, fun u => u.takeOptions_isolates p o, fun _ => rfl⟩
  | restartPort q => cases h; exact ⟨_, fun u => u.takeRestart_isolates p, fun _ => rfl⟩
  | _ => cases h

/-! ### What else a port sends, and the obligation -/

theorem execTransferStart_isolates (s : State) (p : PortId) :
    ∃ t, exec (.transferStart p) s = .next t ∧ s.Isolates p t := by
  refine ⟨_, rfl, ?_⟩
  split
  · exact .updPort s _
  all_goals exact .refl s

theorem execFrameError_isolates (s : State) (p : PortId) (bits : List Bool) :
    ∃ t, exec (.frameError p bits) s = .next t ∧ s.Isolates p t := by
  refine ⟨_, rfl, ?_⟩
  split
  · exact s.endTransfer_isolates p Isolates.refl
  · exact s.endTransfer_isolates p Isolates.refl
  · exact .refl s

/-- Settles O46: the end of a transfer and its beginning change the port itself, and tell the others at most. -/
theorem portsIsolated : Obligations.PortsIsolated := by
  intro s t p q i hq hi ht
  have hisolates : ∃ u, exec i s = .next u ∧ s.Isolates p u := by
    rcases hi with hi | rfl | ⟨bits, rfl⟩
    · obtain ⟨take, htake, hexec⟩ := exec_isolates_of_request hi
      exact ⟨_, hexec s, s.endTransfer_isolates p htake⟩
    · exact execTransferStart_isolates s p
    · exact execFrameError_isolates s p bits
  obtain ⟨u, hu, hisolates⟩ := hisolates
  cases hu.symm.trans ht
  exact hisolates.others q hq

end Sys2Proof.Machine
end

section
/-! ## DRAFT ITEM (R184) -/

namespace Sys2Proof.Machine

/-! ### An item that joins a draft -/

section

variable {items before after : List Item} {i j : Item}

/-- The first item of the drafted one's kind and index is replaced in place. -/
theorem addItem_of_held (hj : j.name = i.name) (hbefore : ∀ x ∈ before, x.name ≠ i.name) :
    addItem (before ++ j :: after) i = some (before ++ i :: after, before.length) := by
  have hfirst : before.findIdx (fun x => x.name == i.name) = before.length :=
    List.findIdx_eq_length.mpr (by simpa using hbefore)
  have hplace : (before ++ j :: after).findIdx (fun x => x.name == i.name) = before.length := by
    rw [List.findIdx_append, hfirst, if_neg (Nat.lt_irrefl _), List.findIdx_cons]
    simp [hj]
  unfold addItem
  dsimp only
  rw [hplace, if_pos (by simp)]
  simp

/-- An item of a new kind and index finds no place. -/
theorem addItem_of_new (hnew : ∀ x ∈ items, x.name ≠ i.name) :
    addItem items i = if 16 ≤ items.length then none else some (items ++ [i], items.length) := by
  have hplace : items.findIdx (fun x => x.name == i.name) = items.length :=
    List.findIdx_eq_length.mpr (by simpa using hnew)
  unfold addItem
  dsimp only
  rw [hplace, if_neg (Nat.lt_irrefl _)]
  rfl

/-- A draft either holds no item of a kind and index or has a first one. -/
theorem new_or_held (items : List Item) (i : Item) :
    (∀ x ∈ items, x.name ≠ i.name) ∨
      ∃ before j after, items = before ++ j :: after ∧ j.name = i.name ∧ ∀ x ∈ before, x.name ≠ i.name := by
  cases h : items.find? fun x => x.name == i.name with
  | none => exact .inl (by simpa using h)
  | some j =>
    obtain ⟨hj, before, after, hitems, hbefore⟩ := List.find?_eq_some_iff_append.mp h
    exact .inr ⟨before, j, after, hitems, by simpa using hj, by simpa using hbefore⟩

end

/-! ### The request -/

section

variable {s : State} {p : PortId} {kind index : Byte} {fields : List Byte}

/-- DRAFT ITEM is BUSY but in EMPTY and in the port's own DRAFT. -/
theorem State.takeDraftItem_of_busy
    (h : (∃ o i w, s.proposal = .posted o i w) ∨ (∃ o c i, s.proposal = .committing o c i) ∨
      ∃ o i w, s.proposal = .draft o i w ∧ o ≠ p) :
    s.takeDraftItem p kind index fields = (s, bare .busy 23) := by
  unfold State.takeDraftItem
  rcases h with ⟨o, i, w, h⟩ | ⟨o, c, i, h⟩ | ⟨o, i, w, h, ho⟩
  · rw [h]
  · rw [h]
  · rw [h]
    exact if_pos ho

/-- A first item opens a draft. -/
theorem State.takeDraftItem_of_empty {i : Item} (h : s.proposal = .empty) (hread : readItem kind index fields = some i) :
    s.takeDraftItem p kind index fields = s.drafted p [i] 0 := by
  unfold State.takeDraftItem
  rw [h]
  dsimp only
  rw [hread]

/-- An item that fails its check is refused. -/
theorem State.takeDraftItem_of_unread (h : s.proposal = .empty ∨ ∃ items w, s.proposal = .draft p items w)
    (hread : readItem kind index fields = none) :
    s.takeDraftItem p kind index fields = (s, bare .badArgument 23) := by
  unfold State.takeDraftItem
  rcases h with h | ⟨items, w, h⟩
  · rw [h]
    dsimp only
    rw [hread]
  · rw [h]
    dsimp only
    rw [if_neg (not_not_intro rfl), hread]
    rfl

section

variable {items : List Item} {w : Nat} {i : Item} (h : s.proposal = .draft p items w)
  (hread : readItem kind index fields = some i)
include h hread

/-- In the port's own DRAFT an item joins those that it holds. -/
theorem State.takeDraftItem_of_added {l : List Item} {position : Nat} (hadd : addItem items i = some (l, position)) :
    s.takeDraftItem p kind index fields = s.drafted p l position := by
  unfold State.takeDraftItem
  rw [h]
  dsimp only
  rw [if_neg (not_not_intro rfl), hread, Option.bind_some, hadd]

/-- A draft that is full takes no new item. -/
theorem State.takeDraftItem_of_full (hadd : addItem items i = none) :
    s.takeDraftItem p kind index fields = (s, bare .badArgument 23) := by
  unfold State.takeDraftItem
  rw [h]
  dsimp only
  rw [if_neg (not_not_intro rfl), hread, Option.bind_some, hadd]

end

/-- A command whose field bytes have a length that the kind takes is the request of its transfer (R168). -/
theorem exec_draftItem_of_take {t : State} {reply : Reply} (hplain : s.plain p)
    (hlength : lengthTaken 23 (kind :: index :: fields) = true)
    (h : s.takeDraftItem p kind index fields = (t, reply)) :
    exec (.draftItem p kind index fields) s = .next (t.answered p reply) :=
  State.next_of_take hplain ((if_pos hlength).trans h)

end

/-- Settles O47: the item is held already, or is new with room in the draft, or is a seventeenth. -/
theorem draftItemTaken : Obligations.DraftItemTaken := by
  intro s p kind index fields hplain hlength
  have htaken := fun {t reply} => exec_draftItem_of_take (t := t) (reply := reply) hplain hlength
  refine ⟨fun h => htaken (State.takeDraftItem_of_busy h), fun h hread => htaken (State.takeDraftItem_of_unread h hread),
    fun i h hread => htaken (State.takeDraftItem_of_empty h hread), fun items w i h hread => ?_⟩
  refine ⟨fun before j after hitems hj hbefore => htaken ?_, fun hnew hroom => htaken ?_, fun hnew hfull => htaken ?_⟩
  · subst hitems
    rw [State.takeDraftItem_of_added h hread (addItem_of_held hj hbefore)]
    simp [State.drafted, draftIdle]
  · rw [State.takeDraftItem_of_added h hread ((addItem_of_new hnew).trans (if_neg (Nat.not_le.mpr hroom)))]
    simp [State.drafted, draftIdle]
  · exact State.takeDraftItem_of_full h hread ((addItem_of_new hnew).trans (if_pos hfull))

end Sys2Proof.Machine
end

section
/-! ## CONFIRM and WITHDRAW (R187, R188) -/

namespace Sys2Proof.Machine

section

variable {s : State} {p : PortId}

/-- CONFIRM from another port, with the number of the posted proposal, agrees it. -/
theorem State.takeConfirm_of_agreed {number : BitVec 16} {owner : PortId} {items : List Item} {w : Nat}
    (h : s.proposal = .posted owner items w) (howner : owner ≠ p) (hnumber : number = s.number) :
    s.takeConfirm p number = ({ s with proposal := .committing owner (some p) items },
      { status := .done, code := 20, body := .posted s.number true }) := by
  unfold State.takeConfirm
  rw [h]
  exact if_neg (not_or.mpr ⟨howner, not_not_intro hnumber⟩)

theorem State.takeConfirm_of_refused {number : BitVec 16}
    (h : ∀ owner items w, s.proposal = .posted owner items w → owner = p ∨ number ≠ s.number) :
    s.takeConfirm p number = (s, bare .refused 20) := by
  unfold State.takeConfirm
  split
  · next owner items w hp => exact if_pos (h owner items w hp)
  all_goals rfl

/-- The owner withdraws a draft or a posted proposal. -/
theorem State.takeWithdraw_of_owner
    (h : ∃ items w, s.proposal = .draft p items w ∨ s.proposal = .posted p items w) :
    s.takeWithdraw p = (s.withdrawn p .withdrawn, bare .done 14) := by
  obtain ⟨items, w, h⟩ := h
  unfold State.takeWithdraw
  rcases h with h | h
  · rw [h]
    exact if_pos rfl
  · rw [h]
    exact if_pos rfl

theorem State.takeWithdraw_of_refused
    (h : ∀ items w, s.proposal ≠ .draft p items w ∧ s.proposal ≠ .posted p items w) :
    s.takeWithdraw p = (s, bare .refused 14) := by
  unfold State.takeWithdraw
  split
  · next owner items w hp => exact if_neg (by rintro rfl; exact (h items w).1 hp)
  · next owner items w hp => exact if_neg (by rintro rfl; exact (h items w).2 hp)
  all_goals rfl

end

/-- Settles O49: each request by the buffer that it finds; a withdrawal reaches the buffer, the ports and the queue. -/
theorem confirmAndWithdraw : Obligations.ConfirmAndWithdraw := by
  intro s p number hplain
  refine ⟨fun owner items w h howner hnumber =>
      State.next_of_take hplain (State.takeConfirm_of_agreed h howner hnumber),
    fun h => State.next_of_take hplain (State.takeConfirm_of_refused h),
    fun h => ⟨_, State.next_of_take hplain (State.takeWithdraw_of_owner h), ?_, ?_, fun q hq => ?_, fun hroom => ?_,
      ?_⟩,
    fun h => State.next_of_take hplain (State.takeWithdraw_of_refused h)⟩
  · rw [State.answered_proposal]
    rfl
  · rw [State.port_answered, State.withdrawn_port]
  · rw [State.answered_others _ p _ hq, State.withdrawn_others s p _ hq]
  · rw [State.answered_store, State.withdrawn_store, Store.join_event hroom rfl]
    rfl
  · obtain ⟨_, _, hframe⟩ := s.withdrawn_frame p .withdrawn
    rw [hframe]
    rfl

end Sys2Proof.Machine
end

section
/-! ## Items read back (R182, R184, R195) -/

namespace Sys2Proof.Machine

/-! ### Field bytes that are read as what they show -/

/-- The bytes that show a MAP item are read as the item, whatever the value bytes of an absent secondary input were. -/
theorem readMap_bytes {fs : List Byte} {v : MapItem} (h : readMap fs = some v) (c : Fin 8) :
    readMap (Item.map c v).bytes = some v := by
  obtain ⟨rest, -, hrest⟩ := readMap_iff.mp h
  refine readMap_iff.mpr ⟨_, rfl, ?_⟩
  rcases hrest with ⟨hnone, -⟩ | ⟨n, plus, hne, hsome, -⟩
  · rw [hnone]
    exact .inl ⟨rfl, 0, 0, rfl⟩
  · rw [hsome]
    exact .inr ⟨n, plus, hne, rfl, rfl⟩

/-- A seed that has been read is not 0, so that it is read back as it stands (R37, log 34). -/
theorem seed_reads_back {seed : Nat} (hseed : seed ≤ 32767) {v : BitVec 15}
    (h : v = BitVec.ofNat 15 (if seed = 0 then 1 else seed)) :
    v = BitVec.ofNat 15 (if v.toNat = 0 then 1 else v.toNat) := by
  have hv : v.toNat = if seed = 0 then 1 else seed := by
    rw [h, BitVec.toNat_ofNat, Nat.mod_eq_of_lt (by split <;> omega)]
  rw [if_neg (by rw [hv]; split <;> omega), BitVec.ofNat_toNat, BitVec.setWidth_eq]

theorem readTest_bytes {fs : List Byte} {v : TestItem} (h : readTest fs = some v) :
    readTest (Item.test v).bytes = some v := by
  obtain ⟨hinputs, ha, hs, hp, hd, seed, hseed, hv, -⟩ := readTest_iff.mp h
  exact readTest_iff.mpr
    ⟨hinputs, ha, hs, hp, hd, v.seed.toNat, Nat.le_of_lt_succ v.seed.isLt, seed_reads_back hseed hv, rfl⟩

/-- The sizes of a partition one after another, as its item shows them. -/
theorem Item.bytes_partition (sizes : Tab 8 Nat) :
    (Item.partition sizes).bytes = (List.finRange 8).flatMap fun c => b2 (nth sizes c) := by
  have hsizes : sizes.toList = (List.finRange 8).map (nth sizes) :=
    List.ext_getElem (by simp) fun _ _ _ => by simp [nth]
  rw [Item.bytes, hsizes, List.flatMap_map]

/-! ### The kinds together -/

/-- Field bytes that are those an item shows are read back. -/
theorem reads_of_bytes {α : Type} {read : List Byte → Option α} {fs bytes : List Byte} {v : α} (h : fs = bytes)
    (hv : read fs = some v) : read bytes = some v := h ▸ hv

section

variable {α : Type} {read : List Byte → Option α} {index : Byte} {fs : List Byte} {i : Item} {kind : Nat}

/-- A kind that is held for each of `n` places. -/
theorem indexed_readsBack {n : Nat} (hn : n ≤ 256) {f : Fin n → α → Item}
    (hname : ∀ c v, (f c v).name = (kind, c.val))
    (hread : ∀ c v, read fs = some v → read (f c v).bytes = some v) (h : indexed n index (read fs) f = some i) :
    i.name = (kind, index.toNat) ∧ indexed n index (read i.bytes) f = some i := by
  obtain ⟨c, v, rfl, hv, rfl⟩ := (indexed_iff hn).mp h
  exact ⟨by rw [hname, toNat_nameByte hn], (indexed_iff hn).mpr ⟨c, v, rfl, hread c v hv, rfl⟩⟩

/-- A kind that is held once. -/
theorem onlyZero_readsBack {f : α → Item} (hname : ∀ v, (f v).name = (kind, 0))
    (hread : ∀ v, read fs = some v → read (f v).bytes = some v) (h : onlyZero index ((read fs).map f) = some i) :
    i.name = (kind, index.toNat) ∧ onlyZero index ((read i.bytes).map f) = some i := by
  obtain ⟨v, rfl, hv, rfl⟩ := onlyZero_map_iff.mp h
  exact ⟨hname v, onlyZero_map_iff.mpr ⟨v, rfl, hread v hv, rfl⟩⟩

end

/-- Settles O51: in all kinds but MAP and TEST the field bytes that are taken are those that the item shows. -/
theorem itemsReadBack : Obligations.ItemsReadBack := by
  intro kind index fs i h
  unfold readItem at h ⊢
  split at h
  · next hk =>
    rw [hk]
    exact indexed_readsBack (by decide) (fun _ _ => rfl) (fun c _ hv => readMap_bytes hv c) h
  · next hk =>
    rw [hk]
    refine indexed_readsBack (by decide) (fun _ _ => rfl) (fun _ _ hv => ?_) h
    obtain ⟨-, -, -, hfs⟩ := readAnalysis_iff.mp hv
    exact reads_of_bytes hfs hv
  · next hk =>
    rw [hk]
    refine indexed_readsBack (by decide) (fun _ _ => rfl) (fun _ _ hv => ?_) h
    obtain ⟨-, hfs⟩ := readLevels_iff.mp hv
    exact reads_of_bytes hfs hv
  · next hk =>
    rw [hk]
    refine indexed_readsBack (by decide) (fun _ _ => rfl) (fun _ _ hv => ?_) h
    obtain ⟨-, hfs⟩ := readExposure_iff.mp hv
    exact reads_of_bytes hfs hv
  · next hk =>
    rw [hk]
    exact indexed_readsBack (by decide) (fun _ _ => rfl) (fun _ _ hv => reads_of_bytes (readLink_iff.mp hv) hv) h
  · next hk =>
    rw [hk]
    exact onlyZero_readsBack (fun _ => rfl) (fun _ hv => reads_of_bytes (readPolicy_iff.mp hv) hv) h
  · next hk =>
    rw [hk]
    exact indexed_readsBack (by decide) (fun _ _ => rfl) (fun _ _ hv => reads_of_bytes (readOutput_iff.mp hv) hv) h
  · next hk =>
    rw [hk]
    refine onlyZero_readsBack (fun _ => rfl) (fun _ hv => ?_) h
    obtain ⟨-, -, hfs⟩ := readStation_iff.mp hv
    exact reads_of_bytes hfs hv
  · next hk =>
    rw [hk]
    refine onlyZero_readsBack (fun _ => rfl) (fun _ hv => ?_) h
    obtain ⟨-, hfs⟩ := readRecording_iff.mp hv
    exact reads_of_bytes hfs hv
  · next hk =>
    rw [hk]
    refine onlyZero_readsBack (fun _ => rfl) (fun v hv => ?_) h
    obtain ⟨-, hfs⟩ := readPartition_iff.mp hv
    exact reads_of_bytes (hfs.trans (Item.bytes_partition v).symm) hv
  · next hk =>
    rw [hk]
    refine onlyZero_readsBack (fun _ => rfl) (fun _ hv => ?_) h
    obtain ⟨-, hfs⟩ := readTimebase_iff.mp hv
    exact reads_of_bytes hfs hv
  · next hk =>
    rw [hk]
    refine indexed_readsBack (by decide) (fun _ _ => rfl) (fun _ _ hv => ?_) h
    obtain ⟨-, -, hfs⟩ := readRetransmit_iff.mp hv
    exact reads_of_bytes hfs hv
  · next hk =>
    rw [hk]
    exact onlyZero_readsBack (fun _ => rfl) (fun _ hv => readTest_bytes hv) h
  · next hk =>
    obtain ⟨rfl, -, rfl⟩ := drafted_clear.mp h
    rw [hk]
    exact ⟨rfl, rfl⟩
  · cases h

end Sys2Proof.Machine
end

section
/-! ## The proposal buffer stays sound (R184, R185, R187, R189)

What one step can do to the buffer is listed once, and each entry of the list keeps it sound. -/

namespace Sys2Proof.Machine

/-! ### The moves of the buffer -/

/-- What a step can do to the proposal buffer. -/
inductive Proposal.Move : Proposal → Proposal → Prop
  /-- The buffer stands. -/
  | stand (b : Proposal) : Move b b
  /-- The buffer is emptied: withdrawn, expired, committed or reset (R134, R180, R185, R188, R189, R190). -/
  | ended (b : Proposal) : Move b .empty
  /-- A first item opens a draft (R184). -/
  | opened (owner : PortId) (i : Item) : Move .empty (.draft owner [i] 60)
  /-- An item joins its owner's draft (R184). -/
  | joined (owner : PortId) {items l : List Item} {i : Item} {position : Nat} (idle : Nat)
      (h : addItem items i = some (l, position)) : Move (.draft owner items idle) (.draft owner l 60)
  /-- A draft waits one second more (R185). -/
  | waited (owner : PortId) (items : List Item) {idle : Nat} (h : 2 ≤ idle) :
      Move (.draft owner items idle) (.draft owner items (idle - 1))
  /-- A draft is posted (R186). -/
  | posted (owner : PortId) (items : List Item) (idle : Nat) : Move (.draft owner items idle) (.posted owner items 120)
  /-- A draft commits under SOLO (R186). -/
  | alone (owner : PortId) (items : List Item) (idle : Nat) :
      Move (.draft owner items idle) (.committing owner none items)
  /-- A posted proposal waits one second more for its CONFIRM (R189). -/
  | awaited (owner : PortId) (items : List Item) {window : Nat} (h : 2 ≤ window) :
      Move (.posted owner items window) (.posted owner items (window - 1))
  /-- Another port confirms a posted proposal (R187). -/
  | confirmed {owner p : PortId} (items : List Item) (window : Nat) (h : owner ≠ p) :
      Move (.posted owner items window) (.committing owner (some p) items)

/-- What an item that joins a draft makes of its items: it stands in the place of the one that it is named like, or
behind all of them, where there was room. -/
theorem addItem_cases {items l : List Item} {i : Item} {position : Nat} (h : addItem items i = some (l, position)) :
    (l.length = items.length ∧ l.map Item.name = items.map Item.name) ∨
      (items.length < 16 ∧ (∀ x ∈ items, x.name ≠ i.name) ∧ l = items ++ [i]) := by
  rcases new_or_held items i with hnew | ⟨before, j, after, rfl, hj, hbefore⟩
  · rw [addItem_of_new hnew] at h
    split at h
    · cases h
    · next hroom =>
      cases h
      exact .inr ⟨Nat.not_le.mp hroom, hnew, rfl⟩
  · rw [addItem_of_held hj hbefore] at h
    cases h
    exact .inl (by simp [hj])

/-- The items of a draft stay 1 to 16, no two of one name, when an item joins them. -/
theorem addItem_sound {items l : List Item} {i : Item} {position : Nat} (h : addItem items i = some (l, position))
    (hone : 1 ≤ items.length) (hroom : items.length ≤ 16) (hnames : (items.map Item.name).Nodup) :
    1 ≤ l.length ∧ l.length ≤ 16 ∧ (l.map Item.name).Nodup := by
  rcases addItem_cases h with ⟨hlength, hmap⟩ | ⟨hfree, hnew, rfl⟩
  · rw [hlength, hmap]
    exact ⟨hone, hroom, hnames⟩
  · refine ⟨by simp, by simpa using hfree, ?_⟩
    rw [List.map_append, List.map_singleton, List.nodup_append]
    refine ⟨hnames, List.nodup_singleton _, fun a ha b hb => ?_⟩
    obtain ⟨x, hx, rfl⟩ := List.mem_map.mp ha
    rw [List.mem_singleton.mp hb]
    exact hnew x hx

/-- Every move keeps the buffer sound. -/
theorem Proposal.Move.sound {a b : Proposal} (h : a.Move b) (ha : a.sound) : b.sound := by
  cases h with
  | stand => exact ha
  | ended => exact trivial
  | opened owner i => exact ⟨Nat.le_refl 1, by simp, List.nodup_singleton _, by decide, Nat.le_refl 60⟩
  | joined owner idle h =>
    obtain ⟨hone, hroom, hnames, -, -⟩ := ha
    obtain ⟨hone', hroom', hnames'⟩ := addItem_sound h hone hroom hnames
    exact ⟨hone', hroom', hnames', by decide, Nat.le_refl 60⟩
  | waited owner items h =>
    obtain ⟨hone, hroom, hnames, -, htop⟩ := ha
    exact ⟨hone, hroom, hnames, Nat.le_sub_one_of_lt h, (Nat.sub_le _ 1).trans htop⟩
  | posted owner items idle =>
    obtain ⟨hone, hroom, hnames, -, -⟩ := ha
    exact ⟨hone, hroom, hnames, by decide, Nat.le_refl 120⟩
  | alone owner items idle =>
    obtain ⟨hone, hroom, hnames, -, -⟩ := ha
    exact ⟨hone, hroom, hnames, nofun⟩
  | awaited owner items h =>
    obtain ⟨hone, hroom, hnames, -, htop⟩ := ha
    exact ⟨hone, hroom, hnames, Nat.le_sub_one_of_lt h, (Nat.sub_le _ 1).trans htop⟩
  | confirmed items window h =>
    obtain ⟨hone, hroom, hnames, -, -⟩ := ha
    exact ⟨hone, hroom, hnames, fun e => h (Option.some.inj e).symm⟩

theorem Proposal.Move.of_eq {a b : Proposal} (h : b = a) : a.Move b := h ▸ .stand b

/-- A window that is counted either runs out or goes on with one second less. -/
theorem Proposal.Move.of_count {a b next : Proposal} {left : Nat} {due told : Prop}
    (h : if left ≤ 1 then due ∧ b = .empty ∧ told else b = next) (hnext : 2 ≤ left → a.Move next) : a.Move b := by
  split at h
  · obtain ⟨-, rfl, -⟩ := h
    exact .ended a
  · next hleft =>
    rw [h]
    exact hnext (Nat.not_le.mp hleft)

/-! ### The requests that move the buffer -/

section

variable (s : State) (p : PortId)

theorem State.takeDraftItem_moves (kind index : Byte) (fields : List Byte) :
    s.proposal.Move (s.takeDraftItem p kind index fields).1.proposal := by
  unfold State.takeDraftItem
  split
  · next hempty =>
    split
    · exact .stand _
    · rw [hempty]
      exact .opened p _
  · next owner items idle hdraft =>
    split
    · exact .stand _
    · next howner =>
      split
      · exact .stand _
      · next l position h =>
        obtain ⟨i, -, hadd⟩ := Option.bind_eq_some_iff.mp h
        rw [hdraft, not_not.mp howner]
        exact .joined p idle hadd
  all_goals exact .stand _

theorem State.takePost_moves : s.proposal.Move (s.takePost p).1.proposal := by
  unfold State.takePost
  split
  · next owner items idle hdraft =>
    split
    · exact .stand _
    · next howner =>
      split
      · exact .stand _
      · rw [hdraft, not_not.mp howner]
        dsimp only
        split
        · exact .alone p items idle
        · exact .posted p items idle
  all_goals exact .stand _

theorem State.takeConfirm_moves (number : BitVec 16) : s.proposal.Move (s.takeConfirm p number).1.proposal := by
  unfold State.takeConfirm
  split
  · next owner items window hposted =>
    split
    · exact .stand _
    · next hagreed =>
      rw [hposted]
      exact .confirmed items window (not_or.mp hagreed).1
  all_goals exact .stand _

theorem State.takeWithdraw_moves : s.proposal.Move (s.takeWithdraw p).1.proposal := by
  unfold State.takeWithdraw
  split
  · split
    · exact .ended _
    · exact .stand _
  · split
    · exact .ended _
    · exact .stand _
  all_goals exact .stand _

theorem State.restartedPort_proposal : (s.restartedPort p).proposal = s.proposal := by
  rw [State.restartedPort_eq]
  rfl

theorem State.takeRestart_moves : s.proposal.Move (s.takeRestart p).1.proposal := by
  by_cases h : ∃ items left, s.proposal = .draft p items left
  · obtain ⟨items, left, h⟩ := h
    rw [State.takeRestart_of_draft h]
    exact .ended _
  · rw [State.takeRestart_of_other fun items left hdraft => h ⟨items, left, hdraft⟩]
    exact .of_eq (s.restartedPort_proposal p)

/-! ### The requests that leave the buffer -/

theorem State.takeAcknowledge_proposal (selector : Byte) (mask : BitVec 32) :
    (s.takeAcknowledge p selector mask).1.proposal = s.proposal := by
  unfold State.takeAcknowledge
  split
  · rfl
  · next named _ =>
    dsimp only
    split
    · rfl
    · obtain ⟨_, _, h, -⟩ := Work.acknowledgeAll_spec s p (s.acknowledgeable named)
      rw [State.refreshLines_proposal, Work.join_proposal, Work.event_st, h]

theorem State.takeSetTime_proposal (time : Time) : (s.takeSetTime p time).1.proposal = s.proposal := by
  unfold State.takeSetTime
  dsimp only
  rw [Work.join_proposal]
  exact Work.forEach_induct (fun w => w.st.proposal = s.proposal) _ _ rfl fun c w hw => by
    rw [Work.closeInterval_st]
    exact hw

theorem State.takeHeadCommand_proposal (input code : Byte) :
    (s.takeHeadCommand input code).1.proposal = s.proposal := by
  unfold State.takeHeadCommand
  split
  · dsimp only
    split_ifs <;> rfl
  · rfl

theorem State.takeStopTest_proposal : (s.takeStopTest p).1.proposal = s.proposal := by
  unfold State.takeStopTest
  split
  · obtain ⟨_, _, _, _, _, _, h⟩ := (Work.start s).endTest_frame .stopped (.port p)
    rw [Work.join_proposal, h]
    rfl
  · rfl

theorem State.placeCursor_proposal (code ring : Byte) (f : Ring → Nat) :
    (s.placeCursor p code ring f).1.proposal = s.proposal := by
  unfold State.placeCursor
  split
  · rfl
  · split <;> rfl

theorem State.takeFetch_proposal (ring count : Byte) : (s.takeFetch p ring count).1.proposal = s.proposal := by
  unfold State.takeFetch
  split
  · rfl
  · split <;> rfl

theorem State.takeCollect_proposal : (s.takeCollect p).1.proposal = s.proposal := by
  unfold State.takeCollect
  dsimp only
  split <;> rfl

theorem State.takeCancel_proposal : (s.takeCancel p).1.proposal = s.proposal := by
  unfold State.takeCancel
  split <;> rfl

theorem State.takeOptions_proposal (option : Byte) : (s.takeOptions p option).1.proposal = s.proposal := by
  unfold State.takeOptions
  split <;> rfl

end

/-! ### Store accesses and ticks -/

section

variable (s : State)

theorem State.wrapRing_proposal (r : Fin 9) : (s.wrapRing r).proposal = s.proposal := by
  have hclear : ∀ (u : State) (p : PortId),
      (if (u.port p).slot.ring = some r then u.clearFetch p else u).proposal = u.proposal := fun u p => by
    split
    · exact u.clearFetch_proposal p
    · rfl
  unfold State.wrapRing State.forPorts
  dsimp only
  rw [hclear, hclear, hclear]

theorem State.grant_proposal : s.grant.proposal = s.proposal := by
  unfold State.grant
  split
  · unfold State.grantWrite
    dsimp only
    split
    · rfl
    · split
      · exact State.wrapRing_proposal _ _
      · rfl
  · split
    · unfold State.grantCopy
      dsimp only
      split <;> rfl
    · rfl

theorem State.copied_proposal (p : PortId) (r : StoredRecord) : (s.copied p r).proposal = s.proposal := by
  unfold State.copied
  split
  · dsimp only
    split <;> rfl
  all_goals rfl

theorem State.finishWrite_proposal (q : QueuedRecord) : (s.finishWrite q).proposal = s.proposal := by
  obtain ⟨_, _, h⟩ := s.finishWrite_frame q
  rw [h]

theorem Work.arrive_proposal (w : Work) (n : Fin 8) (frame : BitVec 32) :
    (w.arrive n frame).st.proposal = w.st.proposal := by
  obtain ⟨_, _, _, _, _, _, _, h⟩ := w.arrive_frame n frame
  rw [h]

theorem frameTick_proposal : (frameTick s).proposal = s.proposal := by
  have hsettled : (settled s).proposal = s.proposal := by
    rw [settled, Work.join_proposal]
    exact Work.forEach_induct (fun w => w.st.proposal = s.proposal) _ _ rfl fun n w hw =>
      (w.arrive_proposal n _).trans hw
  obtain ⟨_, _, h⟩ := tickFrame_frame (settled s)
  rw [frameTick, h, ← hsettled]

/-- A second tick counts a window down or lets it run out, and leaves EMPTY or commits (R185, R189, R190). -/
theorem secondTick_moves (pulled : Bool) : s.proposal.Move (secondTick pulled s).proposal := by
  cases hp : s.proposal with
  | empty => exact .of_eq (secondTick_proposal pulled (.inl hp))
  | committing owner confirmer items =>
    rw [secondTick_proposal pulled (.inr ⟨owner, confirmer, items, hp⟩)]
    exact .ended _
  | draft owner items idle =>
    obtain ⟨t, ht, hcount⟩ := (proposalWindows s pulled owner items idle).1 hp
    obtain rfl : secondTick pulled s = t := Host.Outcome.next.inj ht
    exact .of_count hcount (.waited owner items)
  | posted owner items window =>
    obtain ⟨t, ht, hcount⟩ := (proposalWindows s pulled owner items window).2 hp
    obtain rfl : secondTick pulled s = t := Host.Outcome.next.inj ht
    exact .of_count hcount (.awaited owner items)

end

/-! ### Every command -/

/-- The outcome of a command goes on to a state whose buffer has made one of the moves. -/
def ProposalMoved (s : State) (o : Host.Outcome State Fault Refusal) : Prop :=
  LeadsTo (fun t => s.proposal.Move t.proposal) o

namespace ProposalMoved

variable {s : State}

theorem of_move {t : State} (h : s.proposal.Move t.proposal) : ProposalMoved s (.next t) := .of_next h

theorem of_kept {t : State} (h : t.proposal = s.proposal) : ProposalMoved s (.next t) := of_move (.of_eq h)

/-- A request that moves the buffer as one of the moves does. -/
theorem of_request {p : PortId} {take : State → State × Reply}
    (h : ∀ u : State, u.proposal.Move (take u).1.proposal) : ProposalMoved s (.next (s.endTransfer p take)) := by
  refine of_move ?_
  rcases s.endTransfer_cases p take with ⟨-, e⟩ | ⟨-, e⟩
  · rw [e]
    exact .stand _
  · rw [e, ← s.deliver_proposal p]
    exact h _

/-- A request that leaves the buffer. -/
theorem of_keeping {p : PortId} {take : State → State × Reply} (h : ∀ u : State, (take u).1.proposal = u.proposal) :
    ProposalMoved s (.next (s.endTransfer p take)) := of_request fun u => .of_eq (h u)

/-- A second tick that may not be due. -/
theorem of_second (pulled b : Bool) : ProposalMoved s (.next (if b then secondTick pulled s else s)) := by
  cases b
  · exact of_kept rfl
  · exact of_move (secondTick_moves s pulled)

/-- A frame tick that may not be due. -/
theorem of_frame (b : Bool) : ProposalMoved s (.next (if b then frameTick s else s)) := by
  cases b
  · exact of_kept rfl
  · exact of_kept (frameTick_proposal s)

end ProposalMoved

/-- Every command moves the buffer in one of the listed ways. -/
theorem exec_proposal (i : Instr) (s : State) : ProposalMoved s (exec i s) := by
  cases i with
  | powerOnReset solo => exact .of_move (.ended _)
  | frameTick => exact .of_frame true
  | frameArrival n frame => exact .of_kept ((Work.start s).arrive_proposal n frame)
  | headCmdStart n => exact .of_frame _
  | headCmdSent n => exact .of_frame _
  | secondTick pulled => exact .of_second pulled true
  | linkRetry n pulled => exact .of_second pulled _
  | staleEntry c pulled => exact .of_second pulled _
  | learningEnd c pulled => exact .of_second pulled _
  | tailEnd pulled => exact .of_second pulled _
  | testExpiry pulled => exact .of_second pulled _
  | draftExpiry pulled => exact .of_second pulled _
  | confirmExpiry pulled => exact .of_second pulled _
  | commit pulled => exact .of_second pulled _
  | storeGrant =>
    refine .of_kept ?_
    split
    · exact s.grant_proposal
    all_goals rfl
  | writeComplete =>
    refine .of_kept ?_
    split
    · exact State.finishWrite_proposal _ _
    all_goals rfl
  | copyComplete =>
    refine .of_kept ?_
    split
    · exact State.copied_proposal _ _ _
    all_goals rfl
  | discardTimerExpiry p =>
    refine .of_kept ?_
    split <;> rfl
  | pwmPeriodStart o => exact .of_kept rfl
  | pwmPulseEnd o => exact .of_kept rfl
  | transferStart p =>
    refine .of_kept ?_
    split <;> rfl
  | frameError p bits =>
    have hreply : ∀ r : Reply, ProposalMoved s (.next (s.endTransfer p fun u => (u, r))) := fun r =>
      .of_keeping fun _ => rfl
    change ProposalMoved s (execFrameError p bits s)
    unfold execFrameError
    split
    · exact hreply _
    · exact hreply _
    · exact .of_kept rfl
  | nop p => exact .of_keeping fun _ => rfl
  | getChannel p x => exact .of_keeping fun _ => rfl
  | getHead p x => exact .of_keeping fun _ => rfl
  | getAlarms p x => exact .of_keeping fun _ => rfl
  | getStation p => exact .of_keeping fun _ => rfl
  | getSetting p k x => exact .of_keeping fun _ => rfl
  | getProposal p x => exact .of_keeping fun _ => rfl
  | acknowledge p x m => exact .of_keeping fun u => u.takeAcknowledge_proposal p x m
  | setTime p x => exact .of_keeping fun u => u.takeSetTime_proposal p x
  | sendHeadCommand p input code => exact .of_keeping fun u => u.takeHeadCommand_proposal input code
  | stopTest p => exact .of_keeping fun u => u.takeStopTest_proposal p
  | seek p r q => exact .of_keeping fun u => u.placeCursor_proposal p _ r _
  | rewind p r => exact .of_keeping fun u => u.placeCursor_proposal p _ r _
  | fetch p r n => exact .of_keeping fun u => u.takeFetch_proposal p r n
  | collect p => exact .of_keeping fun u => u.takeCollect_proposal p
  | cancel p => exact .of_keeping fun u => u.takeCancel_proposal p
  | draftItem p k x fs =>
    refine .of_request fun u => ?_
    split
    · exact u.takeDraftItem_moves p k x fs
    · exact .stand _
  | post p => exact .of_request fun u => (u.strapAt p.solo).takePost_moves p.port
  | confirm p n => exact .of_request fun u => u.takeConfirm_moves p n
  | withdraw p => exact .of_request fun u => u.takeWithdraw_moves p
  | getNotices p => exact .of_keeping fun _ => rfl
  | setNoticeMask p m => exact .of_keeping fun _ => rfl
  | setPortOptions p o => exact .of_keeping fun u => u.takeOptions_proposal p o
  | restartPort p => exact .of_request fun u => u.takeRestart_moves p

/-- Settles O59: a step makes one of the moves, or is a period of the clock, and every move keeps the buffer sound. -/
theorem proposalStaysSound : Obligations.ProposalStaysSound := by
  intro s t hs ht
  unfold step at ht
  split at ht
  · next c rest _ => exact (exec_proposal c { s with pending := rest } t ht).sound hs
  · cases ht
    exact hs

end Sys2Proof.Machine
end

section
namespace Sys2Proof.Machine

/-! The queue of commands (log 1): the step with a command waiting, on any state whose queue has this form. -/

theorem step_of_pending_cons {s : State} {c : Instr} {rest : List Instr} (h : s.pending = c :: rest) :
    step s = exec c { s with pending := rest } := by
  unfold step
  rw [h]

/-- Settles O1: the queue is not empty, so the step takes its branch with a command waiting; the rest of the queue then
stands where the whole queue stood. -/
theorem stepRunsFrontCommand : Obligations.StepRunsFrontCommand := by
  intro c rest s
  exact step_of_pending_cons rfl

end Sys2Proof.Machine
end
